-- ==== Sys2Proof/Word.lean ====
section
/-! DEFINITION. The word types of the model: bytes, register words, instruction slots, and the sparse table
in which State holds anything indexed by a number. -/

namespace Sys2Proof

/-- One byte of memory. -/
abbrev Byte := BitVec 8

/-- A 32-bit register word (R49). -/
abbrev Word := BitVec 32

/-- A 64-bit register value (R43). -/
abbrev Word64 := BitVec 64

/-- One ACON instruction (R126) or one CSEQ slot (R169). -/
abbrev Slot := BitVec 128

/-- A sparse table: the entries that differ from the table's default, keys strictly rising. -/
abbrev Table (α : Type) := List (Nat × α)

end Sys2Proof
end

