-- ==== Sys2Proof/Config.lean ====
section
/-! DEFINITION. What one implementation fixes and the spec leaves open: the free values, none with a body.
A claim that mentions one is a claim about every value of it. -/

namespace Sys2Proof.Config

/-- A fresh value the spec leaves open, by the number of the draw (State.draws). Log entry 5. -/
opaque freeValue : Nat → Nat

/-- The published hash the spec names but does not define (SHA-384, R427, R433), on a transcript. Log entry 6. -/
opaque sha384 : List Nat → BitVec 384

/-- An ECDSA P-384 signature of a hash with the Alias key of the given identity (R433). Log entry 6. -/
opaque ecdsaSign : Nat → BitVec 384 → Nat

/-- The HSS signature with leaf `leaf` over a hash (R433, R435). Log entry 6. -/
opaque hssSign : Nat → BitVec 384 → Nat

/-- The DICE derivation of an identity from the UDS, a firmware digest, its SVN and the life-cycle state
(HMAC-SHA-384 and key derivation, R430). Log entry 6. -/
opaque aliasKey : Nat → BitVec 384 → Nat → Nat → Nat

/-- The AES-256-GCM transform of a packet's bits under a key, an IV and its additional data (R310): ciphertext
and tag. Log entry 6. -/
opaque gcmSeal : BitVec 256 → BitVec 96 → Nat → Nat → Nat

/-- The SHA-384 of the DeviceID public key that a UDS gives (R425, R430). Log entry 6. -/
opaque deviceIdHash : Nat → Nat

/-- The true random number generator of SEC (R425: UDS and nonce), by the number of the draw. Log entry 6. -/
opaque trng : Nat → Nat

/-- Which XLAT instance, and which of its sets, holds the translation of a context's page: instance * 2048 + set (R274), by the
context, the page's first virtual address and its size. Log entry 16. -/
opaque tlbPlace : Nat → Nat → Nat → Nat

end Sys2Proof.Config
end

