-- ==== Sys2Proof/Syntax.lean ====
section
/-! DEFINITION. The commands of the block: one constructor of `Instr` per row of spec/opcode_table.json, and the
types of their operands. A command carries what comes from outside the machine (who writes, which unit an event
names, what a wire or a physical fault showed); what the machine itself holds is read from State. -/

namespace Sys2Proof

/-- A cluster number n (R16). -/
abbrev Cluster := Fin 1024
/-- A context number c (R124). -/
abbrev Ctx := Fin 8
/-- An Atwin port (R303). -/
abbrev PortNo := Fin 16
/-- A logical Mover (R282). -/
abbrev MoverNo := Fin 64
/-- An Ethernet port (R361). -/
abbrev EthNo := Fin 2

/-- The register masters of R42; the host is named by the QP that carries its REG_ACCESS (R485). -/
inductive Master where
  | host (qp : Fin 1024)
  | mgc
  | hlth
deriving DecidableEq, Repr

/-- The master classes of R270. -/
inductive AccClass where
  | onDie | fabric | host | mgmt
deriving DecidableEq, Repr

/-- What a read of one line shows at the channels (R254): the errors in what members' chunks hold or bring, as bytes
added by exclusive-or; the members on which link ECC reported an uncorrectable burst; those on which it corrected
an error; and the errors that a reread (when MEMC makes one) shows. -/
structure LineObs where
  errors  : List (Fin 9 × List Byte)
  linkBad : List (Fin 9)
  linkCe  : List (Fin 9)
  reread  : List (Fin 9 × List Byte)
deriving DecidableEq, Repr

/-- A disturbance of one accumulator between its products and the drain's comparison (R385 to R390): the
accumulator's position in the cluster, and what was added to VALUE and to the residue. -/
structure AccFault where
  pos     : Fin 1024
  value   : Int
  residue : Nat
deriving DecidableEq, Repr

/-- An Atwin packet (R312): the header fields and the payload. -/
structure Packet where
  dst     : BitVec 12
  src     : BitVec 12
  cls     : BitVec 2
  vc      : BitVec 1
  hops    : BitVec 5
  world   : Bool
  gen     : BitVec 4
  tag     : BitVec 14
  op      : BitVec 5
  len     : BitVec 10
  portal  : BitVec 3
  arg     : BitVec 27
  epoch   : BitVec 32
  payload : List Byte
deriving DecidableEq, Repr

/-- How a packet's link unit arrived (R307, R308, R310): the SEQ and CRC of its trailer; whether it lies in no uncorrectable
codeword, and how many such codewords come with it that no earlier unit brought; on an encrypted link, the bytes of
header and payload as they crossed it, and whether the GCM tag fits. -/
structure LinkUnit where
  seq    : BitVec 16
  crc    : BitVec 32
  fecOk  : Bool
  uncorr : Nat
  cipher : List Byte
  gcmOk  : Bool
deriving DecidableEq, Repr

/-- Who clears the Event Recorder (R481): a register master, or the BMC through a PLDM OEM command. -/
inductive Clearer where
  | master (m : Master)
  | bmc
deriving DecidableEq, Repr

/-- How a link control unit arrived (R307, R310): whether its CRC fits and, on an encrypted link, its GCM tag. -/
structure CtrlUnit where
  crcOk : Bool
  gcmOk : Bool
deriving DecidableEq, Repr

/-- What VEC's hardware shows of a command: the ECLK that port A costs it (R158), and the element, if any, at which the second
run that an audited context makes differs from the first (R393). -/
structure VecObs where
  stall  : Nat
  differ : Option Nat
deriving DecidableEq, Repr

/-- What a link control unit carries, beside how it arrived (R307). -/
structure Carried (α : Type) where
  value : α
  unit  : CtrlUnit
deriving DecidableEq, Repr

/-- What a receiving lane shows (R305): codewords with more than 4 corrected symbols on it, or the loss of its CDR lock. -/
structure LaneFail where
  lane      : Fin 5
  codewords : Nat
  cdrLost   : Bool
deriving DecidableEq, Repr

/-- What an arriving RoCEv2 packet carries, beside its Congestion Experienced mark (R367). -/
structure Marked (α : Type) where
  value : α
  ecn   : Bool
deriving DecidableEq, Repr

/-- An acknowledgement that arrives on a queue pair (R368): its PSN and its Congestion Experienced mark. -/
structure AckPacket where
  qp  : Fin 1024
  psn : BitVec 24
  ecn : Bool
deriving DecidableEq, Repr

/-- The five receive buffers of a port direction (R320). -/
inductive Buf where
  | req | rsp | col | fwd0 | fwd1
deriving DecidableEq, Repr

/-- Where a packet waits when its residence limit passes (R327). -/
inductive Place where
  | buffer (b : Buf) | egress | retry
deriving DecidableEq, Repr

/-- The Atwin operation a local requester asks for (R313, R328). -/
inductive ReqKind where
  | rd (va : BitVec 48) (bytesM1 : BitVec 9)
  | wr (va : BitVec 48) (data : List Byte)
  | ping
deriving DecidableEq, Repr

/-- A message's 16-byte header as it arrived (R369), and whether a packet that carried the message was marked ECN Congestion
Experienced (R367). -/
structure MsgHdr where
  type    : BitVec 8
  version : BitVec 8
  ctx     : BitVec 8
  status  : BitVec 8
  reqId   : BitVec 32
  bodyLen : BitVec 32
  seq     : BitVec 32
  ecn     : Bool
deriving DecidableEq, Repr

/-- A CM REQ: the private data bytes and the requester's side of the connection (R364). -/
structure CmReq where
  ctxByte  : BitVec 8
  roleByte : BitVec 8
  peerQpn  : BitVec 24
  mtu      : Fin 3             -- path MTU: 1,024, 2,048 or 4,096 bytes (R363)
deriving DecidableEq, Repr

/-- The two SPDM transports (R431). -/
inductive Transport where
  | mctp | mailbox
deriving DecidableEq, Repr

/-- The units whose patrol failures are counted (R399), and a cluster's injectors, which a structural scan covers (R118, R400). -/
inductive Unit3 where
  | core (index : Fin 324) | bank (phys : Fin 34) | lane (phys : Fin 68) | injector
deriving DecidableEq, Repr

/-- What the arbiter sees at a grant period (R442, R444, R454): the measured requests, the share of engine cycles
busy, as a fraction, whether patrol waits, the 1 ms power average and the highest junction reading. -/
structure PowerSample where
  base       : Nat
  refresh    : Nat
  fabric     : Nat
  fabricMin  : Nat
  hostReq    : Nat
  hostMin    : Nat
  engBusy    : Nat
  engCycles  : Nat
  patrol     : Bool
  measuredW  : Nat
  tjMax      : Int
  die        : Fin 6
  sensor     : Fin 16
  newMs      : Bool
deriving DecidableEq, Repr

/-- The clock domains of R456 and R469 in register order. -/
inductive ClkDomain where
  | aclk | eclk | nclk | mclk | hclk | sclk
deriving DecidableEq, Repr

/-- What an image read from a flash set shows at verification (R427): steps 1 to 4, its SVN and its DIGEST. -/
structure ImageCheck where
  header  : Bool
  digest  : Bool
  ecdsa   : Bool
  hss     : Bool
  svn     : Nat
  hash    : BitVec 384
deriving DecidableEq, Repr

/-- What a step of the power-up sequence found (R463): whether it is step 0, which the standby domain takes beside the others, and
whether it succeeded, the members that failed training, what
the images of the four classes in the two flash sets show (R426 to R428), whether a structural scan is called for, and
the units that it found failed, with the pattern number (R400). -/
structure StepResult where
  standby     : Bool
  ok          : Bool
  failTrain   : List (Fin 32 × Fin 9)
  setA        : List ImageCheck
  setB        : List ImageCheck
  scanWanted  : Bool
  scanFails   : List (Cluster × Unit3 × Nat)
deriving DecidableEq, Repr

/-- The four frequency measurements of one 1 ms window (R458), as deviations in ppm; `none` is an absent clock. -/
structure RefSample where
  link    : Option Int
  refclk  : Option Int
deriving DecidableEq, Repr

/-- The commands: the rows of spec/opcode_table.json, in its order. -/
inductive Instr where
  -- register pages
  | registerWrite (m : Master) (pa : BitVec 48) (size : Nat) (value : BitVec 64)
  | lowHalfRead (m : Master) (pa : BitVec 48)
  | enable (m : Master) (page : BitVec 48) (en : Bool)
  | softReset (m : Master) (page : BitVec 48) (en : Bool)
  | stopComplete (page : BitVec 48)
  | startComplete (page : BitVec 48)
  | errCodeClear (m : Master) (page : BitVec 48)
  | lock (m : Master) (page : BitVec 48)
  | pstateReq (m : Master) (page : BitVec 48) (req : BitVec 2)
  | signalArrival (k : Nat)
  -- the Array Conductor
  | start (m : Master) (c : Ctx)
  | resume (m : Master) (c : Ctx)
  | abort (m : Master) (c : Ctx)
  | abortDone (c : Ctx)
  | preempt (m : Master) (c : Ctx)
  | arrayGrant
  | windowLoad
  | carrySlot
  | windowStart
  | tokenTimeout
  | win
  | frame
  | mma (underrun : Option (Cluster × Nat))
  | drain
  | drainComplete (n : Cluster) (faults : List AccFault)
  | swap
  | sig
  | quiet
  | save
  | restore (underrun : Option (Cluster × Nat))
  | audit
  | vsel
  | loop
  | jmp
  | endProg
  | contextDone (c : Ctx)
  | windowEnd
  | signalDelivery
  | replay
  | contextSwitch
  -- the cluster sequencer
  | streamStart (n : Cluster) (c : Ctx)
  | streamFetch (n : Cluster)
  | wait (n : Cluster)
  | phaseStart (n : Cluster)
  | cseqWaitTimeout (n : Cluster)
  | signal (n : Cluster)
  | varj (n : Cluster)
  | cseqLoop (n : Cluster)
  | cseqJmp (n : Cluster)
  | cseqEnd (n : Cluster)
  | cseqReplay (n : Cluster)
  | cseqSwitch (n : Cluster)
  -- engine commands: the cluster, and the ECLK that port-A contention adds (R158, R188)
  | vecParam (n : Cluster) (o : VecObs)
  | ew (n : Cluster) (o : VecObs)
  | vecCvt (n : Cluster) (o : VecObs)
  | wideAdd (n : Cluster) (o : VecObs)
  | dotExact (n : Cluster) (o : VecObs)
  | accDrain (n : Cluster) (o : VecObs)
  | accLoad (n : Cluster) (o : VecObs)
  | kload (n : Cluster) (o : VecObs)
  | krun (n : Cluster) (o : VecObs)
  | transpose (n : Cluster) (stall : Nat)
  | xposeCopy (n : Cluster) (stall : Nat)
  | sum (n : Cluster) (stall : Nat)
  | max (n : Cluster) (stall : Nat)
  | min (n : Cluster) (stall : Nat)
  | argmax (n : Cluster) (stall : Nat)
  | argmin (n : Cluster) (stall : Nat)
  | sumexp (n : Cluster) (stall : Nat)
  | convParam (n : Cluster) (stall : Nat)
  | convCvt (n : Cluster) (stall : Nat)
  | wenc (n : Cluster) (stall : Nat)
  | wdec (n : Cluster) (stall : Nat)
  | statPost (n : Cluster) (stall : Nat)
  | exp (n : Cluster) (stall : Nat)
  | exp2 (n : Cluster) (stall : Nat)
  | log (n : Cluster) (stall : Nat)
  | log2 (n : Cluster) (stall : Nat)
  | tanh (n : Cluster) (stall : Nat)
  | sigmoid (n : Cluster) (stall : Nat)
  | gelu (n : Cluster) (stall : Nat)
  | sin (n : Cluster) (stall : Nat)
  | cos (n : Cluster) (stall : Nat)
  | rcp (n : Cluster) (stall : Nat)
  | sqrt (n : Cluster) (stall : Nat)
  | rsqrt (n : Cluster) (stall : Nat)
  | gatherC (n : Cluster) (stall : Nat)
  | gatherM (n : Cluster) (stall : Nat)
  | scatterC (n : Cluster) (stall : Nat)
  | scatterAddC (n : Cluster) (stall : Nat)
  | scatterAddM (n : Cluster) (stall : Nat)
  | gathMDone (n : Cluster) (k : Nat)
  -- cluster memory
  | bankPwrReq (m : Master) (n : Cluster) (value : BitVec 64)
  | retIdleExpiry (n : Cluster) (b : Fin 32)
  | bankZeroDone (n : Cluster) (b : Fin 32)
  | bankWorld (m : Master) (n : Cluster) (value : BitVec 32)
  | eccWriteback (n : Cluster) (w : Fin 524288)
  -- the Scale Keeper
  | statsAbsorb (k : Nat)
  | skeepEntryWrite (m : Master) (inst : Fin 2) (i : Fin 8) (value : BitVec 64)
  | skeepSave (m : Master) (inst : Fin 2)
  | skeepLoad (m : Master) (inst : Fin 2)
  | warm (m : Master) (inst : Fin 2) (c : Ctx)
  | invalidate (m : Master) (inst : Fin 2)
  | clearWorking (m : Master) (inst : Fin 2) (c : Ctx)
  | skeepCmdDone (inst : Fin 2)
  -- main memory
  | memoryRead (k : AccClass) (secure : Bool) (pa : BitVec 48) (obs : LineObs)
  | memoryWrite (k : AccClass) (secure : Bool) (pa : BitVec 48) (data : List Byte) (obs : LineObs)
  | channelTimeout (g : Fin 32) (member : Fin 9)
  | calibrationFailure (g : Fin 32) (member : Fin 9)
  | cgmFail (m : Master) (g : Fin 32) (member : BitVec 4)
  | go (m : Master) (inst : Fin 2) (g : Fin 32)
  | evacLineCopy (obs : LineObs)
  | scrubRead (g : Fin 32) (obs : LineObs)
  | refresh (g : Fin 32) (member : Fin 9) (bank : Fin 16)
  | mr4Poll (package : Fin 36) (rate : BitVec 5)
  -- translation and regions
  | pageWalk (c : Ctx) (va : BitVec 48) (write rdma : Bool)
  | invalAll (m : Master)
  | invalContext (m : Master) (c : Ctx)
  | invalRange (m : Master) (c : Ctx)
  | invalDone
  | rptRegionWrite (m : Master) (i : Fin 256) (value : BitVec 64)
  -- the Movers
  | moverStart (m : Master) (mv : MoverNo)
  | moverResume (m : Master) (mv : MoverNo)
  | moverAbort (m : Master) (mv : MoverNo)
  | copy (s : Fin 16384)
  | descVarj (s : Fin 16384)
  | jump (s : Fin 16384)
  | descEnd (s : Fin 16384)
  | chunkIssue (mv : MoverNo)
  | chunkComplete (s : Fin 16384) (off : Nat)
  | streamSuspend (s : Fin 16384)
  | streamPreempted (s : Fin 16384)
  | streamIdle (s : Fin 16384)
  | moverWaitTimeout (s : Fin 16384)
  | moverReassign (mv : MoverNo) (phys : Fin 72)
  -- the Atwin fabric
  | laneFailed (p : PortNo) (f : LaneFail)
  | laneSwap (p : PortNo) (u : Carried (Fin 5))
  | swapAt (p : PortNo) (u : Carried Nat)
  | laneSwitch (p : PortNo)
  | ack (p : PortNo) (u : Carried (BitVec 16))
  | nak (p : PortNo) (u : Carried (BitVec 16))
  | credit (p : PortNo) (b : Buf) (u : Carried (BitVec 16))
  | keySwitch (p : PortNo) (u : Carried (BitVec 16))
  | controlResend (p : PortNo)
  | packetReceive (p : PortNo) (u : LinkUnit) (pkt : Packet)
  | packetTransmit (p : PortNo)
  | retryTimeout (p : PortNo)
  | retrainEnd (p : PortNo) (good : Bool)
  | lossOfSignal (p : PortNo)
  | trainingRetry (p : PortNo)
  | portUp (p : PortNo) (peer : BitVec 12) (peerPort : BitVec 4) (peerEncrypt : Bool)
  | throttleUpdate (p : PortNo)
  | residenceExpiry (p : PortNo) (at_ : Place)
  | tagTimeout (t : Fin 16384)
  | quarantineExpiry (t : Fin 16384)
  | routeWrite (m : Master) (inst : Fin 2) (value : BitVec 32)
  | fenceWrite (m : Master) (inst : Fin 2) (j : Fin 128) (value : BitVec 32)
  | switch (m : Master) (p : PortNo)
  | keyStandbyWrite (m : Master) (p : PortNo) (last : BitVec 64)
  | rd (p : PortNo)
  | wr (p : PortNo)
  | ping (p : PortNo)
  | rdData (p : PortNo)
  | wrAck (p : PortNo)
  | pong (p : PortNo)
  | nack (p : PortNo)
  -- gradient exchange and step commit
  | xseqStart (m : Master) (c : Ctx)
  | xseqRollback (m : Master) (c : Ctx)
  | xseqCommit (m : Master) (c : Ctx)
  | setEpoch (m : Master) (c : Ctx) (value : BitVec 32)
  | send (c : Ctx) (op : Fin 4096)
  | recv (c : Ctx) (op : Fin 4096)
  | sendConfirm (c : Ctx) (op : Fin 4096)
  | locallyDone (c : Ctx)
  | data (p : PortNo)
  | colEnd (p : PortNo)
  | confirm (p : PortNo)
  | revoke (p : PortNo)
  | stats (p : PortNo)
  | ready (p : PortNo)
  | commit (p : PortNo)
  | query (p : PortNo)
  | answer (p : PortNo)
  | colCredit (p : PortNo)
  | ringTimeout (c : Ctx)
  | queryInterval (c : Ctx)
  | quietExpiry (c : Ctx)
  | xseqWaitTimeout (c : Ctx) (op : Option (Fin 4096))
  | haltShareN
  -- the host attachment
  | arpRequest (e : EthNo) (target : BitVec 32) (sender : BitVec 32)
  | neighbourSolicitation (e : EthNo) (target : BitVec 128) (sender : BitVec 128)
  | echoRequest (e : EthNo) (v6 : Bool) (target : BitVec 128) (sender : BitVec 128) (body : List Byte)
  | cmReq (e : EthNo) (r : CmReq)
  | cmRtu (qp : Fin 1024)
  | cmDreq (qp : Fin 1024)
  | rdmaWrite (qp : Fin 1024) (psn : BitVec 24) (va : BitVec 64) (rkey : BitVec 32) (ecn : Bool) (lostWords : List Nat) (data : List Byte)
  | rdmaRead (qp : Fin 1024) (psn : BitVec 24) (va : BitVec 64) (rkey : BitVec 32) (r : Marked (BitVec 32))
  | cnp (qp : Fin 1024)
  | ccPeriod (qp : Fin 1024)
  | ackTimeout (qp : Fin 1024)
  | rnrNak (qp : Fin 1024) (r : Marked Nat)
  | transportAck (a : AckPacket)
  | jobLoad (qp : Fin 1024) (h : MsgHdr) (body : List Byte)
  | doorbell (qp : Fin 1024) (h : MsgHdr) (body : List Byte)
  | bind (qp : Fin 1024) (h : MsgHdr) (body : List Byte)
  | regAccess (qp : Fin 1024) (h : MsgHdr) (body : List Byte)
  | memWrite (qp : Fin 1024) (h : MsgHdr) (body : List Byte)
  | memRead (qp : Fin 1024) (h : MsgHdr) (body : List Byte)
  | nop (qp : Fin 1024) (h : MsgHdr) (body : List Byte)
  | qpReset (m : Master) (e : EthNo)
  | qpError (m : Master) (e : EthNo)
  | portHoldExpiry (e : EthNo)
  | linkReturn (e : EthNo) (mode : Fin 3)
  -- health and spares
  | patrolRound (n : Cluster) (pass : Bool)
  | patrolLate (n : Cluster)
  | lanePatrol (n : Cluster) (lane : Fin 68) (pass : Bool)
  | bankRotation (n : Cluster)
  | suspectRerun (n : Cluster) (u : Unit3) (results : List Bool)
  | lineRepair (n : Cluster) (pr pc : Fin 18)
  | scanCluster (m : Master) (target : BitVec 10) (mismatch : Option (Unit3 × Nat))
  | patrolCore (m : Master) (target : BitVec 10) (pass : Bool)
  | retireRowBand (m : Master) (target : BitVec 10)
  | retireColBand (m : Master) (target : BitVec 10)
  | rotateBank (m : Master) (target : BitVec 10)
  | bankCopy (n : Cluster) (marchPass : Bool) (lostWords : Nat)
  | healthDatagram
  -- worlds, life cycle and attestation
  | tamper (src : BitVec 4)
  | wipeDone
  | lcProvisioned (m : Master) (certsPresent : Bool)
  | lcField (m : Master)
  | lcReturn (m : Master) (ecdsaOk lmsOk : Bool) (deviceHash : Nat) (nonce : BitVec 32)
  | lcScrapped (m : Master)
  | mailboxPoll
  | getVersion (t : Transport) (msg : List Nat)
  | getCapabilities (t : Transport) (msg : List Nat)
  | negotiateAlgorithms (t : Transport) (msg : List Nat)
  | getDigests (t : Transport) (msg : List Nat)
  | getCertificate (t : Transport) (msg : List Nat)
  | challenge (t : Transport) (msg : List Nat)
  | getMeasurements (t : Transport) (msg : List Nat)
  | keyExchange (t : Transport) (msg : List Nat)
  | finish (t : Transport) (msg : List Nat)
  | endSession (t : Transport) (msg : List Nat)
  | lmsSign (t : Transport)
  | lmsCert (t : Transport)
  | secureJob (h : MsgHdr) (body : List Byte)
  | linkKey (p : PortNo) (key : BitVec 256) (salt : BitVec 32)
  | firmwareUpdate (img : ImageCheck)
  | mgcWdog (m : Master) (value : BitVec 32)
  | watchdogRestart (img : ImageCheck)
  -- power, clocks and supplies
  | grantPeriod (x : PowerSample)
  | budgetSet (watts : Nat)
  | slewStep
  | rowUngate
  | throttleN
  | throttleRelease
  | thermtrip (die : Fin 6) (sensor : Fin 16)
  | refCheck (inst : Fin 2) (x : RefSample)
  | refLost (inst : Fin 2) (source : Fin 3)
  | pllFailed (inst : Fin 2) (d : ClkDomain) (pllB : Bool)
  | vstbyOn
  | vstbyLoss
  | pwrEnRise
  | powerUpStepDone (r : StepResult)
  | pwrEnFall
  | vmainFault
  | resetN
  -- the Event Recorder and the Counter Dump Engine
  | eventRecord (count : Nat)
  | mirror (sectorFails : Bool)
  | opMsPersist
  | evrClear (x : Clearer) (key : BitVec 16)
  | eraseDone
  | rec0Read (m : Master)
  | sample0Read (m : Master)
  | cntClear (m : Master) (page : BitVec 48)
  | snapshot
  | snap (m : Master)
  -- added rows
  | reqSend (inst : Fin 2) (dst : BitVec 12) (world : Bool) (portal : BitVec 3) (epoch : BitVec 32) (k : ReqKind)
  | ethernetLinkDown (e : EthNo)
  | priorityFlowControl (e : EthNo) (prio : Fin 8) (pause : Bool)
  | otherFrame (e : EthNo)
  | unsupportedPacket (e : EthNo) (qp : Option (Fin 1024)) (r : Marked (BitVec 24))
  | cmemPatrolRead (n : Cluster)
  | haltShareNRelease
deriving DecidableEq, Repr

end Sys2Proof
end

