-- ==== Sys2Proof/Machine/Bits.lean ====
section
/-! DEFINITION. Bit fields [hi:lo] (R6), sign extension, and small list helpers. -/

namespace Sys2Proof.Machine

/-- Field [hi:lo] of a number. -/
def nfld (v hi lo : Nat) : Nat := (v >>> lo) % 2 ^ (hi + 1 - lo)

/-- Bit `i` of a number. -/
def nbit (v i : Nat) : Bool := nfld v i i == 1

/-- The number with field [hi:lo] replaced; bits of `x` above the field are lost. -/
def nset (v hi lo x : Nat) : Nat := v - (nfld v hi lo) <<< lo + (x % 2 ^ (hi + 1 - lo)) <<< lo

/-- Field [hi:lo] of a bit vector. -/
def fld {n : Nat} (w : BitVec n) (hi lo : Nat) : Nat := nfld w.toNat hi lo

/-- Bit `i` of a bit vector. -/
def bit {n : Nat} (w : BitVec n) (i : Nat) : Bool := nbit w.toNat i

/-- The bit vector with field [hi:lo] replaced. -/
def setFld {n : Nat} (w : BitVec n) (hi lo x : Nat) : BitVec n := BitVec.ofNat n (nset w.toNat hi lo x)

/-- The two's-complement reading of a field of `w` bits. -/
def sext (w v : Nat) : Int := if v % 2 ^ w < 2 ^ (w - 1) then (v % 2 ^ w : Nat) else ((v % 2 ^ w : Nat) : Int) - (2 ^ w : Nat)

/-- The `w`-bit two's-complement code of an integer. -/
def wrapInt (w : Nat) (i : Int) : Nat := (i % ((2 ^ w : Nat) : Int)).toNat

/-- 1 for true. -/
def b2n (b : Bool) : Nat := if b then 1 else 0

/-- Replace entry `i` of a list. -/
def lset {α : Type} (l : List α) (i : Nat) (v : α) : List α := l.set i v

/-- Entry `i` of a list, or `d`. -/
def lget {α : Type} (l : List α) (i : Nat) (d : α) : α := l.getD i d

/-- The saturating count a register of `w` bits holds. -/
def satAdd (w a b : Nat) : Nat := Nat.min (a + b) (2 ^ w - 1)

/-- The numbers of the set bits of a mask below `n`. -/
def bitsOf (n v : Nat) : List Nat := (List.range n).filter (fun i => nbit v i)

/-- Smallest number not below `a / b`. -/
def ceilDiv (a b : Nat) : Nat := (a + b - 1) / b

end Sys2Proof.Machine
end

