-- ==== Sys2Proof/Machine/Flags.lean ====
section
/-! DEFINITION. The outcome flags of a conversion (R65, R88) and the exception flags of the vector engine (R59, R203
FLAGS register), with their unions and counts. -/

namespace Sys2Proof.Machine

/-- The flags of R65, with the DROP flag of R88. -/
structure RFlags where
  nan     : Bool := false
  inf     : Bool := false
  ovf     : Bool := false
  sat     : Bool := false
  unf     : Bool := false
  inexact : Bool := false
  zero    : Bool := false
  drop    : Bool := false
deriving DecidableEq, Repr

/-- The five exception flags of IEEE 754-2019 (R59). -/
structure IFlags where
  nv : Bool := false
  dz : Bool := false
  of : Bool := false
  uf : Bool := false
  nx : Bool := false
deriving DecidableEq, Repr

/-- The OR of two sets of exception flags. -/
def IFlags.or (a b : IFlags) : IFlags :=
  ⟨a.nv || b.nv, a.dz || b.dz, a.of || b.of, a.uf || b.uf, a.nx || b.nx⟩

/-- The flags as the FLAGS register holds them: NV at [4] down to NX at [0]. -/
def IFlags.word (f : IFlags) : Nat :=
  16 * b2n f.nv + 8 * b2n f.dz + 4 * b2n f.of + 2 * b2n f.uf + b2n f.nx

/-- The eight counts of a record (R93) that one element's flags add: NAN, INF, OVF, SAT, DROP, ZERO, UNF, INEXACT. -/
def RFlags.counts (f : RFlags) : List Nat :=
  [b2n f.nan, b2n f.inf, b2n f.ovf, b2n f.sat, b2n f.drop, b2n f.zero, b2n f.unf, b2n f.inexact]

/-- Element-wise sum of two count lists. -/
def addCounts (a b : List Nat) : List Nat := List.zipWith (· + ·) a b

/-- Eight counts of zero. -/
def zeroCounts : List Nat := [0, 0, 0, 0, 0, 0, 0, 0]

end Sys2Proof.Machine
end

