-- ==== Sys2Proof/Machine/Numbers.lean ====
section
/-! DEFINITION. The number formats and rounding of the device: format codes (R55), decoding (R56 to R60), rounding
and overflow (R66 to R70), block conversion (R69), canonical NaNs (R63) and Pepper (R72). Values are exact: a sign, a
natural number and a power of two. -/

namespace Sys2Proof.Machine

/-- An exact value: NaN (signaling or not), an infinity, or ± mag × 2^exp with the sign kept for zero. -/
inductive Val where
  | nan (signaling : Bool)
  | inf (neg : Bool)
  | fin (neg : Bool) (mag : Nat) (exp : Int)
deriving DecidableEq, Repr

/-- Which codes of a floating format are special (R56, R58, R59). -/
inductive Specials where
  | ieee | saffron | none
deriving DecidableEq, Repr

/-- A floating format: exponent bits, mantissa bits, bias, special codes. -/
structure FloatFmt where
  ebits : Nat
  mbits : Nat
  bias  : Nat
  spec  : Specials
deriving DecidableEq, Repr

def fSaffron : FloatFmt := ⟨4, 3, 7, .saffron⟩
def fSumac : FloatFmt := ⟨5, 2, 15, .ieee⟩
def fClove : FloatFmt := ⟨3, 2, 3, .none⟩
def fMace : FloatFmt := ⟨2, 1, 1, .none⟩
def fFp16 : FloatFmt := ⟨5, 10, 15, .ieee⟩
def fBf16 : FloatFmt := ⟨8, 7, 127, .ieee⟩
def fFp32 : FloatFmt := ⟨8, 23, 127, .ieee⟩
def fFp64 : FloatFmt := ⟨11, 52, 1023, .ieee⟩

/-- Width of a code. -/
def FloatFmt.width (f : FloatFmt) : Nat := 1 + f.ebits + f.mbits
/-- Exponent of the smallest normal. -/
def FloatFmt.emin (f : FloatFmt) : Int := 1 - (f.bias : Int)
/-- The positive code of +∞ (formats with one). -/
def FloatFmt.infCode (f : FloatFmt) : Nat :=
  match f.spec with
  | .ieee => (2 ^ f.ebits - 1) * 2 ^ f.mbits
  | .saffron => 0x7E
  | .none => 2 ^ (f.ebits + f.mbits)
/-- The positive code of the maximum finite value (R56, R58). -/
def FloatFmt.maxCode (f : FloatFmt) : Nat := f.infCode - 1
/-- The canonical NaN (R63); Clove and Mace have none. -/
def FloatFmt.nanCode (f : FloatFmt) : Nat :=
  match f.spec with
  | .ieee => f.infCode + 2 ^ (f.mbits - 1)
  | .saffron => 0x7F
  | .none => 0
/-- The sign bit of a code. -/
def FloatFmt.signBit (f : FloatFmt) : Nat := 2 ^ (f.ebits + f.mbits)

/-- The value of a code (R56, R58, R59). -/
def FloatFmt.decode (f : FloatFmt) (c : Nat) : Val :=
  let s := nbit c (f.ebits + f.mbits)
  let mag := c % f.signBit
  let e := mag / 2 ^ f.mbits
  let m := mag % 2 ^ f.mbits
  if f.spec = .ieee ∧ mag = f.infCode then .inf s
  else if f.spec = .ieee ∧ f.infCode < mag then .nan (decide (m < 2 ^ (f.mbits - 1)))
  else if f.spec = .saffron ∧ mag = 0x7E then .inf s
  else if f.spec = .saffron ∧ mag = 0x7F then .nan false
  else if e = 0 then .fin s m (1 - (f.bias : Int) - (f.mbits : Int))
  else .fin s (2 ^ f.mbits + m) ((e : Int) - (f.bias : Int) - (f.mbits : Int))

/-! ### Format codes (R55) -/

/-- The floating format of a format code. -/
def floatOf : Nat → Option FloatFmt
  | 0x01 => some fSaffron
  | 0x02 => some fSumac
  | 0x03 => some fClove
  | 0x04 => some fMace
  | 0x08 => some fFp16
  | 0x09 => some fBf16
  | 0x0A => some fFp32
  | 0x0B => some fFp64
  | _ => none

/-- The width of an integer format or G64, by its code. -/
def intWidth : Nat → Option Nat
  | 0x05 => some 4
  | 0x06 => some 8
  | 0x0C => some 32
  | 0x0D => some 64
  | 0x0E => some 64
  | _ => none

/-- Reserved codes of R55. -/
def fmtReserved (c : Nat) : Bool := c == 0 || c == 7 || decide (0x10 ≤ c)

/-- Element size in bits (R55). -/
def fmtBits (c : Nat) : Nat :=
  if c = 0x0F then 320 else
  match floatOf c with
  | some f => f.width
  | none => (intWidth c).getD 0

/-- Formats whose elements carry block scales (R57). -/
def isBlockFmt (c : Nat) : Bool := c == 3 || c == 4

/-- Formats that the array accepts as input (R55). -/
def arrayInput (c : Nat) : Bool := [1, 2, 3, 4, 5, 6, 8, 9, 0x0A, 0x0B].contains c

/-- Formats that DRAIN accepts (R55). -/
def drainOutput (c : Nat) : Bool := [1, 2, 8, 9, 0x0A, 0x0C, 0x0D, 0x0E, 0x0F].contains c

/-- Multiply a finite value by 2^x; specials are unchanged. -/
def Val.scale (v : Val) (x : Int) : Val :=
  match v with
  | .fin s m e => .fin s m (e + x)
  | w => w

/-- The value of an integer code of `w` bits times 2^x (R60). -/
def decodeInt (w : Nat) (x : Int) (c : Nat) : Val :=
  let i := sext w c
  .fin (decide (i < 0)) i.natAbs x

/-- The value of a code of a format with tensor exponent or frame `x` (R60; floating codes ignore `x`). -/
def decodeFmt (fmt : Nat) (x : Int) (c : Nat) : Val :=
  match floatOf fmt with
  | some f => f.decode c
  | none => decodeInt ((intWidth fmt).getD 64) x c

/-- The value of a Clove or Mace element under its block scale (R57). -/
def decodeBlock (f : FloatFmt) (scale c : Nat) : Val :=
  if scale = 255 then .nan false else (f.decode c).scale ((scale : Int) - 127)

/-! ### Rounding (R66, R67, R70) -/

/-- The "up" decision of R70. -/
def roundUp (mode : Nat) (s : Bool) (t f24 : Nat) (sticky : Bool) (r : Nat) : Bool :=
  match mode with
  | 0 => decide (0x800000 < f24) || (f24 == 0x800000 && (sticky || t % 2 == 1))
  | 2 => s && (f24 != 0 || sticky)
  | 3 => !s && (f24 != 0 || sticky)
  | 4 => decide (0x800000 ≤ f24)
  | 5 => decide (r < f24) || (f24 == r && sticky)
  | _ => false

/-- floor(log2 |v|) of ± m × 2^e, m nonzero. -/
def ilog2 (m : Nat) (e : Int) : Int := e + (Nat.log2 m : Nat)

/-- m × 2^e on the grid 2^q: the integer part, the 24-bit fraction and the sticky bit (R66). -/
def gridSplit (m : Nat) (e q : Int) : Nat × Nat × Bool :=
  if q ≤ e then (m <<< (e - q).toNat, 0, false)
  else
    let sh := (q - e).toNat
    let rem := m % 2 ^ sh
    (m >>> sh, (rem <<< 24) >>> sh, (rem <<< 24) % 2 ^ sh != 0)

/-- What a rounded conversion needs beside its source (R66, R67): mode, overflow policy (true: INF) and the Pepper
value of the element. -/
structure RoundCfg where
  mode   : Nat
  polInf : Bool
  pepper : Nat
deriving DecidableEq, Repr

/-- The signed code of a magnitude code. -/
def FloatFmt.signed (f : FloatFmt) (s : Bool) (mag : Nat) : Nat := if s then f.signBit + mag else mag

/-- The overflow result of a floating target (R67). -/
def overflowFloat (f : FloatFmt) (cfg : RoundCfg) (s : Bool) : Nat × RFlags :=
  let toInf := cfg.polInf && f.spec != .none &&
    (match cfg.mode with
     | 1 => false
     | 2 => s
     | 3 => !s
     | _ => true)
  if toInf then (f.signed s f.infCode, { ovf := true, inf := true, inexact := true })
  else (f.signed s f.maxCode, { ovf := true, sat := true, inexact := true })

/-- Round a value into a floating format (R66, R67). -/
def roundFloat (f : FloatFmt) (cfg : RoundCfg) (v : Val) : Nat × RFlags :=
  match v with
  | .nan _ => (f.nanCode, { nan := true, inexact := f.spec == .none })
  | .inf s => if f.spec = .none then overflowFloat f { cfg with polInf := false } s
              else (f.signed s f.infCode, { inf := true })
  | .fin s 0 _ => (f.signed s 0, { zero := true })
  | .fin s m e =>
    let q := max (ilog2 m e) f.emin - (f.mbits : Int)
    let (t0, f24, st) := gridSplit m e q
    let t := t0 + b2n (roundUp cfg.mode s t0 f24 st cfg.pepper)
    let mag := (q - (f.emin - (f.mbits : Int))).toNat * 2 ^ f.mbits + t
    if f.maxCode < mag then overflowFloat f cfg s
    else (f.signed s mag, { unf := t == 0, zero := t == 0, inexact := f24 != 0 || st })

/-- The extreme of an integer format of `w` bits: the most negative code, or the largest. -/
def intExtreme (w : Nat) (s : Bool) : Nat := if s then 2 ^ (w - 1) else 2 ^ (w - 1) - 1

/-- Round a value into an integer format or G64 of `w` bits on the grid 2^q (R66, R67). -/
def roundInt (w : Nat) (q : Int) (cfg : RoundCfg) (v : Val) : Nat × RFlags :=
  match v with
  | .nan _ => (2 ^ (w - 1), { nan := true, inexact := true })
  | .inf s => (intExtreme w s, { inf := true, sat := true, inexact := true })
  | .fin _ 0 _ => (0, { zero := true })
  | .fin s m e =>
    let (t0, f24, st) := gridSplit m e q
    let t := t0 + b2n (roundUp cfg.mode s t0 f24 st cfg.pepper)
    let ok := if s then decide (t ≤ 2 ^ (w - 1)) else decide (t < 2 ^ (w - 1))
    if ok then
      (wrapInt w (if s then -(t : Int) else t), { unf := t == 0, zero := t == 0, inexact := f24 != 0 || st })
    else (intExtreme w s, { ovf := true, sat := true, inexact := true })

/-- Round a value into the format of code `fmt` with tensor exponent or frame `x`: the code c for which c × 2^x is the
rounded value (R64, R66). -/
def roundFmt (fmt : Nat) (x : Int) (cfg : RoundCfg) (v : Val) : Nat × RFlags :=
  match floatOf fmt with
  | some f => roundFloat f cfg (v.scale (-x))
  | none => roundInt ((intWidth fmt).getD 64) x cfg v

/-! ### Block conversion (R69) -/

/-- The largest finite magnitude of a list, as (m, e) with m × 2^e; (0, 0) when all are zero or special. -/
def amaxOf : List Val → Nat × Int
  | [] => (0, 0)
  | v :: vs =>
    let (m, e) := amaxOf vs
    match v with
    | .fin _ m' e' =>
      if m' = 0 then (m, e)
      else if m = 0 then (m', e')
      else if e' ≤ e then (if m <<< (e - e').toNat < m' then (m', e') else (m, e))
      else (if m < m' <<< (e' - e).toNat then (m', e') else (m, e))
    | _ => (m, e)

/-- Whether a value is NaN or ±∞. -/
def Val.isSpecial : Val → Bool
  | .nan _ => true
  | .inf _ => true
  | .fin _ _ _ => false

/-- Whether a value is NaN. -/
def Val.isNan : Val → Bool
  | .nan _ => true
  | _ => false

/-- The scale code a block gets (R69 step 2). -/
def blockScale (emax : Int) (vs : List Val) : Nat :=
  let (m, e) := amaxOf vs
  if m = 0 then 0
  else
    let c := ilog2 m e - emax + 127
    if c < 0 then 0 else if 254 < c then 254 else c.toNat

/-- One element of a Clove or Mace block under scale exponent `x` (R69 step 3): clamping is SAT and INEXACT, never
OVF. -/
def blockElem (f : FloatFmt) (cfg : RoundCfg) (x : Int) (v : Val) : Nat × RFlags :=
  let (c, fl) := roundFloat f { cfg with polInf := false } (v.scale (-x))
  (c, { fl with ovf := false })

/-- Convert one block of at most 32 elements to Clove or Mace (R69): the scale byte and the codes with their flags.
`peppers` holds the element's Pepper values in order. -/
def blockConvert (f : FloatFmt) (cfg : RoundCfg) (peppers : List Nat) (vs : List Val) : Nat × List (Nat × RFlags) :=
  if vs.any Val.isSpecial then
    (255, vs.map (fun v => (0, { nan := true, inexact := !v.isNan })))
  else
    let emax : Int := if f.ebits = 3 then 4 else 2
    let sc := blockScale emax vs
    (sc, List.zipWith (fun v p => blockElem f { cfg with pepper := p } ((sc : Int) - 127) v) vs peppers)

/-! ### Pepper (R71, R72) -/

/-- The four words of Pepper's state. -/
structure PState where
  a : BitVec 32
  b : BitVec 32
  c : BitVec 32
  d : BitVec 32
deriving DecidableEq, Repr

/-- Rotation left. -/
def rotl32 (x : BitVec 32) (n : Nat) : BitVec 32 := (x <<< n) ||| (x >>> (32 - n))

/-- One round of Pepper. -/
def pepperRound (p : PState) : PState :=
  let a := p.a + p.b
  let d := rotl32 (p.d ^^^ a) 16
  let c := p.c + d
  let b := rotl32 (p.b ^^^ c) 12
  let a := a + b
  let d := rotl32 (d ^^^ a) 8
  let c := c + d
  let b := rotl32 (b ^^^ c) 4
  ⟨a, b, c, d⟩

/-- The 24-bit Pepper value of an element (R72). -/
def pepper (seed tensorId index step : Nat) : Nat :=
  let k0 := BitVec.ofNat 32 seed
  let k1 := BitVec.ofNat 32 (seed >>> 32)
  let p0 : PState :=
    ⟨BitVec.ofNat 32 index ^^^ k0,
     BitVec.ofNat 32 (0x6D2B7900 + (index >>> 32) % 256) ^^^ k1,
     BitVec.ofNat 32 step ^^^ 0xA5C31E69#32,
     BitVec.ofNat 32 tensorId⟩
  let p := pepperRound (pepperRound (pepperRound (pepperRound p0)))
  let a := p.a + k0
  let c := p.c + k1
  ((a ^^^ p.b ^^^ c ^^^ p.d).toNat >>> 8) % 2 ^ 24

/-! ### Packing (R62) -/

/-- Cut a number into `n` fields of `w` bits, the first least significant. -/
def unpackBits (w : Nat) : Nat → Nat → List Nat
  | 0, _ => []
  | n + 1, v => v % 2 ^ w :: unpackBits w n (v >>> w)

/-- Join fields of `w` bits, the first least significant. -/
def packBits (w : Nat) : List Nat → Nat
  | [] => 0
  | c :: cs => c % 2 ^ w + 2 ^ w * packBits w cs

/-- Bytes that `n` elements of a format take from a group boundary (R62). -/
def rowBytes (fmt n : Nat) : Nat :=
  if fmt = 3 then ceilDiv n 4 * 3 else ceilDiv (n * fmtBits fmt) 8

end Sys2Proof.Machine
end

