-- ==== Sys2Proof/Machine/State.lean ====
section
/-! DEFINITION. The state of the block as plain data. Every register of the spec's register tables lives in
`State.regs`, one 32-bit word per address, absent words at their reset value (RegTable.lean); the other fields hold
what no register shows: memories, buffers, queues, sequencer positions, engines' hidden state, fuses, flash and pins. -/

namespace Sys2Proof.Machine

/-- Why a command stops with a fault. The model has no such stop: every command of the table has an effect, an
error record of its own, or no effect that the spec gives. -/
inductive Fault where
  /-- Raised by nothing: kept so that the type has an inhabitant (safe). -/
  | none
deriving DecidableEq, Repr

/-- Why a command has no meaning. -/
inductive Refusal where
  /-- A row of the table that has no meaning yet (safe). Raised by Dispatch only. -/
  | notModelled (mnemonic : String)
deriving DecidableEq, Repr

/-! ### Grade, fuses, flash, straps and pins -/

/-- The two grades of R1. -/
inductive Grade where
  | fgm9768 | fgm7768
deriving DecidableEq, Repr

/-- Permanent state in fuses (R1, R424, R429, R435, R438). -/
structure Fuses where
  grade     : Grade
  lifecycle : Nat            -- fuses blown of the life-cycle field, 0 to 4
  uds       : Option Nat     -- the UDS, by the draw that generated it
  udsLocked : Bool           -- RETURN and SCRAPPED: latched unreadable for good
  svn       : List Nat       -- the four anti-rollback counters
  lmsTree   : Nat            -- fuses blown of the 1,024-fuse field: t + 1
  standardId : BitVec 16
  vendorId   : BitVec 32
deriving DecidableEq, Repr

/-- One repair record of the failure maps in flash (R41, R400): a page that is retired. -/
structure FailureMaps where
  pages    : List Nat        -- page addresses whose CAPS.RETIRED is set before READY
  rowLines : Table Word      -- cluster to CORE_ROW_MAP
  colLines : Table Word      -- cluster to CORE_COL_MAP
  banks    : Table Nat       -- cluster * 32 + logical bank to physical bank
  badBanks : List (Nat × Nat) -- cluster and physical bank failed
  lanes    : List (Nat × Nat) -- cluster and physical VEC lane retired
  rowBands : Word
  colBands : Word
  groups   : List Nat        -- retired channel groups
  members  : List (Nat × Nat) -- group and member FAILED
  moverMap : Table Nat       -- logical to physical Mover, when not the default
  badMovers : List Nat       -- physical Movers that no longer serve
deriving DecidableEq, Repr

/-- A record of the Event Recorder (R471). -/
structure EvRec where
  seq       : Nat
  opMs      : Nat
  cycles    : Nat
  source    : Nat
  code      : Nat
  sevWorld  : Nat
  repeat_   : Nat
  lastDelta : Nat
  payload   : Nat
  mirrored  : Bool           -- closed (R473): already in the mirror
deriving DecidableEq, Repr

/-- The flash contents that the device itself writes (R400, R435, R476, R480). -/
structure Flash where
  maps      : FailureMaps
  mirror    : Table EvRec    -- by SEQ
  sectors   : Nat            -- live sectors of the ring
  opMsSlots : List (Option Nat) -- the two alternating slots; none fails its CRC
  powerCycles : Option Nat
  mirrorPos : Nat            -- records written to the ring so far
  journal   : List (Nat × Nat) -- per flash: t and next b of the newest LMS record
deriving DecidableEq, Repr

/-- The pins and supplies (R461 to R467, R493 to R499). -/
structure Pins where
  vstby     : Bool
  vmain     : Bool
  pwrEn     : Bool
  boardPin  : BitVec 6       -- BOARD_ID and SLOT_ID as the board ties them (R496)
  slotPin   : BitVec 3
  boardId   : BitVec 6       -- as last sampled (R497)
  slotId    : BitVec 3
  ready     : Bool
  pwrGood   : Bool
  tripLatched : Bool         -- THERMTRIP_N held low (R455)
  supplyFault : Bool         -- FAULT_N cause of R463, R464
  clockRed  : Bool           -- FAULT_N cause of R460
  fwFault   : Bool           -- FAULT_N cause of R428, R437
  haltShareLow : Bool        -- this module drives HALT_SHARE_N low (R357)
  throttleLow  : Bool
deriving DecidableEq, Repr

/-! ### Time -/

/-- Cycle counts of the clock domains (R8) since device reset, and idle steps of 80 ns (log entry 2). MCLK is
counted in thirds of a cycle. -/
structure Clocks where
  ticks : Nat
  aclk  : Nat
  eclk  : Nat
  nclk  : Nat
  sclk  : Nat
  hclk  : Nat
  mclk3 : Nat
  msTicks : Nat              -- idle steps since the last OP_MS increment
deriving DecidableEq, Repr

/-! ### The Great Array -/

/-- One long accumulator (R73). -/
structure Acc where
  value     : Int
  nanIn     : Bool
  zeroInf   : Bool
  posInf    : Bool
  negInf    : Bool
  posBeyond : Bool
  negBeyond : Bool
  drop      : Bool
  kValid    : Bool
  firstK    : Nat
deriving DecidableEq, Repr

/-- An array accumulator with its 13-bit residue (R385). -/
structure CoreAcc where
  acc     : Acc
  residue : Nat
deriving DecidableEq, Repr

/-- A bank record (R143): the frame, the formats and the product count of a bank. -/
structure BankRec where
  frameSet  : Bool
  reframed  : Bool
  fEffFixed : Bool
  fmtA      : Nat
  fmtB      : Nat
  f         : Int
  fEff      : Int
  pcount    : Nat
deriving DecidableEq, Repr

/-- One physical accumulator bank of every core (R73, R385, R387). -/
structure Bank where
  accs     : Table CoreAcc   -- cluster * 1024 + row * 32 + column of the cluster's outputs
  checkRow : Table Nat       -- cluster * 64 + parity a * 32 + column y
  checkCol : Table Nat       -- cluster * 64 + parity b * 32 + row x
  lastRead : Option Nat      -- ACLK of the last DRAIN or SAVE of the bank (R116)
  lastMma  : Option (Nat × Nat) -- ACLK and L of the last MMA into the bank (R113)
deriving DecidableEq, Repr

/-- A tensor descriptor as a TDT entry holds it (R138). -/
structure Tensor where
  base       : Nat
  format     : Nat
  rank       : Nat
  valid      : Bool
  resident   : Bool          -- LOCATION 1
  transposed : Bool
  secure     : Bool
  expSrc     : Bool
  skeepIndex : Nat
  exp        : Int
  tensorId   : Nat
  bscaleOff  : Nat
  dims       : List Nat      -- DIM0 to DIM4
  strides    : List Nat      -- STRIDE1 to STRIDE4
  reservedOk : Bool          -- every reserved field is zero
deriving DecidableEq, Repr

/-- A timed instruction in the window buffer, its handles resolved (R128, R139). -/
structure Timed where
  index : Nat
  word  : Slot
  a     : Option Tensor
  b     : Option Tensor
  out   : Option Tensor
deriving DecidableEq, Repr

/-- A drain or save in flight (R114, R115, R388): what it read at its issue and the clusters still to write. -/
structure DrainJob where
  id      : Nat
  ctx     : Nat
  window  : Nat              -- serial number of the issuing window
  word    : Slot
  isSave  : Bool
  implicit_ : Bool
  bank    : Nat              -- physical bank
  info    : BankRec          -- the bank's record at the issue
  snap    : Bank             -- the bank as the wave read it
  out     : Option Tensor
  imageOff : Nat
  issueCycle : Nat           -- window cycle of the issue
  va      : Nat              -- address of the instruction
  t       : Nat              -- ACLK of the issue
  drainSeq : Nat
  step    : Nat
  seed    : Nat
  secondPass : Bool
  auditSlot : Nat
  audited : Bool
  left    : List Nat         -- clusters that have not written
  due     : List (Nat × Nat) -- clusters that the wave has not reached, with the ACLK at which it does (R96, R179)
  cmds    : Table Nat        -- cluster to the number of its Guard entries
  counts  : List Nat         -- running sums of the eight record counts (R95)
  causes  : Nat
  check   : Nat
  first   : Option (Nat × Nat × Nat × Nat) -- position, cluster, cause, FIRST_K field
deriving DecidableEq, Repr

/-- The Great Array: the two physical banks and the spacing record of R110 and R116. -/
structure ArrayState where
  bank0      : Bank
  bank1      : Bank
  lastInject : Option (Nat × Nat) -- ACLK and L of the last MMA or RESTORE
  lastDrain  : Option Nat
  jobs       : List DrainJob
  nextJob    : Nat
  patrolAcc  : Table CoreAcc  -- cluster * 324 + physical core (R394)
deriving DecidableEq, Repr

/-! ### The Array Conductor -/

/-- The states of a context (R124). -/
inductive CtxState where
  | idle | ready | running | halted | preempted
deriving DecidableEq, Repr

/-- A signal on its way: consumer class (R126 SIG), context, target, counter and increment (R25), with the
producer that sent it (R27), the ECLK before which it is not sent (R26, R174; 0 where nothing holds it), and the _M commands and
posted statistics of its cluster that must take effect first (R174, R212, R224). -/
structure Signal where
  cls      : Nat             -- 0 CSEQ, 1 Mover stream, 2 XSEQ, 3 ACON
  ctx      : Nat
  target   : Nat
  counter  : Nat
  incr     : Nat
  producer : Nat
  notBefore : Nat
  gaths    : List Nat        -- Guard command numbers of the _M commands
  stats    : List Nat        -- numbers of the statistics records
deriving DecidableEq, Repr

/-- What a context restores when a window replays (R151). -/
structure WinStart where
  swap   : Bool
  lc     : List Nat
  active : List Bool
  rec0   : BankRec
  rec1   : BankRec
  drainSeq : Nat
deriving DecidableEq, Repr

/-- How far the window has come (R128, R129, R133). -/
inductive WinPhase where
  | opened | loaded | prologue (slot : Nat) | gate | running | halted
deriving DecidableEq, Repr

/-- The window buffer (R128) with the fields of its WIN. -/
structure Window where
  serial    : Nat
  winIndex  : Nat            -- instruction index of its WIN
  next      : Nat            -- instruction index after its last timed instruction
  len       : Nat
  gateMask  : BitVec 32
  gateCount : Nat
  pclass    : Nat
  quiet     : Bool
  carry     : BitVec 2
  audited   : Bool
  second    : Bool           -- the second pass of an audited window is under way (R136)
  phase     : WinPhase
  instrs    : List Timed     -- still to issue
  all       : List Timed     -- the whole buffer, for a replay
  gaps      : List (Nat × Nat) -- declared quiet gaps: first cycle, length (R135)
  cycle0    : Nat            -- ACLK of window cycle 0
  endAclk   : Nat            -- ACLK from which the window may start (R129)
  restores  : Bool           -- the prologue runs as restores (R133)
  tokensTaken : Bool         -- gate tokens were subtracted
  zeroed0   : Bool           -- R134: an MMA with ZERO or a RESTORE has reached physical bank 0
  zeroed1   : Bool
  startState : WinStart
  held      : List Signal    -- R31
  drains    : Nat            -- DRAINs and SAVEs issued (audit slots, R392)
  withheld  : Bool           -- R180: its signals are not delivered
  replays   : Nat            -- replays of this window (R151)
  begun     : Bool           -- its carry prologue or its cycle 0 has begun (R389)
  after     : List (Nat × Nat × Slot) -- FRAMEs and SWAPs of the last window cycle, in effect after it: AT, physical bank, word (R111)
deriving DecidableEq, Repr

/-- A window that has ended and waits for its drains (R131). -/
structure EndedWin where
  serial : Nat
  held   : List Signal
  window : Window            -- kept for a late replay (R389)
deriving DecidableEq, Repr

/-- Why a context is HALTED, which fixes what RESUME does (R124, R151). -/
inductive HaltKind where
  | none | header | load | control | window | late | switchCopy | resumeCopy | agent
deriving DecidableEq, Repr

/-- The hidden part of an ACON context. -/
structure AconCtx where
  pc        : Nat
  instrCount : Nat
  vtabCount : Nat
  vtabOff   : Nat
  lc        : List Nat
  active    : List Bool
  swap      : Bool
  win       : Option Window
  ended     : List EndedWin
  rec0      : BankRec        -- ACON's copy of the bank records (R145)
  rec1      : BankRec
  haltKind  : HaltKind
  preemptReq : Bool
  abortReq  : Bool
  agentHalt : Bool           -- R152: stop at the next boundary
  revoked   : Bool           -- a rollback holds the CSEQs and streams until RESUME or ABORT (R347)
  agentRec  : List Nat       -- SOURCE, instance, address, REASON, INFO0, INFO1 of that halt
  overrun   : Option Nat     -- a saturated gate counter (R29)
  drainSeq  : Nat
  savedBanks : BitVec 2      -- banks whose images lie at SAVE_VA
  ending    : Bool           -- END reached; waits for the last signals
  movers    : List Nat       -- streams of the last JOB_LOAD (R376)
  resumed   : Bool           -- the next window is the first after a resume (R133)
  windowed  : Bool           -- a window of the program has ended: boundaries exist (R125)
  due       : Bool           -- a START or RESUME waits until XLAT is ON (R274)
  vgate     : Option Nat     -- ACLK from which a VSEL waits at its gate (R125, R140)
  notice    : Bool           -- the start notice is out (R168)
  noticed   : List Nat       -- clusters that have acted on it
deriving DecidableEq, Repr

/-! ### Clusters -/

/-- A fetched slot with its extension (R169). -/
structure QSlot where
  index : Nat
  word  : Slot
  ext   : Option Slot
  bad   : Option (Nat × Nat × Nat) -- reason found at fetch with the INFO words of the engine's page (R172)
deriving DecidableEq, Repr

/-- A running phase (R171). -/
structure Phase where
  cycle0    : Nat            -- ECLK of phase cycle 0
  waitIndex : Nat
  replayOk  : Bool
  todo      : List QSlot     -- commands still to issue, stream order
  whole     : List QSlot     -- the phase, for a replay
  sent      : Nat            -- SIGNALs already sent, not repeated by a replay
  done      : Nat            -- SIGNALs passed in this run
  lc        : List Nat       -- loop counters at phase start
  active    : List Bool
deriving DecidableEq, Repr

/-- A CSEQ's view of one context's stream (R167, R176). -/
structure CseqCtx where
  pc        : Nat            -- slot at which the stream resumes
  slotCount : Nat
  vtab      : List (Nat × Nat) -- VARIANT_ID, slot
  lc        : List Nat
  active    : List Bool
  queue     : List QSlot     -- fetched slots, from pc onward
  phase     : Option Phase
  testing   : Option Nat     -- ECLK at which the WAIT or VARJ at pc began testing
  nextError : Option (Nat × Nat × Nat) -- taken at the next command (R29, R174, R175)
  replayDue : Bool           -- halted with an automatic replay to come (R177)
  resumeDue : Bool           -- a RESUME replay is to come: event 0x0380, REPLAYS 0 (R177)
  abortDue  : Bool           -- ABORT waits for the stream's issued commands (R177)
  mustWait  : Nat            -- what pc must hold (R171): 0 anything, 1 a WAIT, 2 a WAIT or END, 3 the entry's WAIT
deriving DecidableEq, Repr

/-- A Schedule Guard entry (R179). -/
structure GEntry where
  owner : Nat
  write : Bool
  first : Nat
  last  : Nat                -- END, exclusive
  cmd   : Nat                -- entries of one command never conflict
  leave : Option Nat         -- ECLK of its last access; none until its completion event
  who   : Nat                -- master ID of the owner (R485)
deriving DecidableEq, Repr

/-- A Pepper latch (R189). -/
structure Latch where
  tensorId : Nat
  ibase    : Nat
  irow     : Nat
  seedSel  : Nat
deriving DecidableEq, Repr

/-- A context's VEC accumulator set (R196, R197). -/
structure AccSet where
  accs     : Table Acc
  pcount   : Nat
  frameSet : Bool
  f        : Int
  fmtA     : Nat
  fmtB     : Nat
deriving DecidableEq, Repr

/-- A GATH _M command under way (R224). -/
structure GathJob where
  ctx   : Nat
  ctr   : Nat
  cmd   : Nat
  fail  : Option (Nat × Nat × Nat) -- reason, INFO0, INFO1
  later : Option (Slot × Slot)     -- its slot and extension, while its rows wait for XLAT (R274)
deriving DecidableEq, Repr

/-- A bank rotation under way (R397, R405). -/
structure BankMove where
  logical : Nat
  spare   : Nat
  byCmd   : Bool             -- started by HLTH_CMD ROTATE_BANK
deriving DecidableEq, Repr

/-- One cluster's hidden state. -/
structure ClusterState where
  ctxs    : Table CseqCtx
  guard   : List GEntry
  nextCmd : Nat
  engFree : Table Nat        -- engine code to the ECLK from which it is free (R173)
  vecLatch  : Table Latch
  convLatch : Table Latch
  accSets : Table AccSet
  kstore  : Table Word64     -- context * 256 + index (R199)
  lanes   : Table Word64     -- VEC registers: logical lane * 32 + register (R200)
  gath    : List GathJob
  poison  : List Nat         -- poisoned words: physical bank * 16384 + line (R161)
  correct : List Nat         -- words with a correctable error
  writeback : List Nat       -- corrected words waiting for port B (R161)
  bankErr : List Nat         -- logical banks of correctable errors in this window (R405)
  errWindow : Nat            -- the health window of `bankErr` (R408)
  dueBanks : List Nat        -- logical banks to be retired (R405)
  failedCores : List Nat     -- physical cores found failed, not yet repaired (R404)
  bandDue : Bool             -- a part without spares: the cluster's band is to be retired (R406)
  move    : Option BankMove
  patrolWord : Nat           -- next CMEM word of patrol (R397)
  rotateNext : Nat
  badBanks : List Nat        -- physical banks failed
  badLanes : List Nat        -- physical VEC lanes failed
  passMs   : Table Nat       -- physical core to OP_MS of its last pass (R396)
  lateSent : Bool
  suspects : List Unit3
  misWindow : Nat            -- health window of the counts below (R399, R408)
  misCounts : List (Unit3 × Nat)
  coreWindow : Nat           -- health window of CORE_MISMATCH.COUNT (R408, R413)
  patrolGap : Option Nat     -- ACLK at which the QUIET gap began that served the last patrol round (R395)
deriving DecidableEq, Repr

/-! ### Scale Keeper -/

/-- A Scale Keeper entry (R226, R227): committed and working parts. -/
structure SkEntry where
  hist      : List Int       -- HIST0 first; -32768 marks an empty slot
  scaleExp  : Int
  gradFrame : Int
  headroom  : Nat
  hrMin     : Nat
  cold      : Bool
  kind      : Bool
  action    : Bool
  jobWide   : Bool
  ctx       : Nat
  fmt       : Nat
  sumLog2   : Nat
  clean     : Nat
  zeros     : Nat
  sats      : Nat
  nonfinite : Nat
  drops     : Nat
  elements  : Nat
  wAmax     : Int
  wCorr     : Nat
  wCounts   : List Nat       -- COUNT_NAN to COUNT_INEXACT
  wElements : Nat
deriving DecidableEq, Repr

/-- A statistics record on its way to an entry (R210 to R212). -/
structure StatMsg where
  entry    : Nat
  ctx      : Nat
  fromDrain : Bool
  counts   : List Nat
  elements : Nat
  amax     : Int
  step     : Nat
  producer : Nat
  no       : Nat             -- serial number
  revoked  : Bool            -- its attempt has been rolled back (R235)
deriving DecidableEq, Repr

/-! ### Translation and Movers -/

/-- A cached translation (R274). -/
structure TlbEntry where
  ctx   : Nat
  va    : Nat
  size  : Nat
  pa    : Nat
  r     : Bool
  w     : Bool
  pin   : Bool
deriving DecidableEq, Repr

/-- An invalidation under way (R275). -/
inductive Inval where
  | all | context (c : Nat) | range (c va units : Nat)
deriving DecidableEq, Repr

/-- A Mover chunk in flight (R291). -/
structure Chunk where
  stream : Nat
  off    : Nat
  cmd    : Nat
  fail   : Option (Nat × Nat × Nat × Nat × Nat) -- cause, level, write, VA, PA
  cmemFail : Option Nat      -- reason of a CMEM-side write refusal (R297)
  clusters : List Nat        -- target clusters holding its Guard entries
deriving DecidableEq, Repr

/-- Stream states (R284). -/
inductive StreamState where
  | idle | waiting | running | suspended | halted | preempted | done
deriving DecidableEq, Repr

/-- A stream: its 64-byte entry (R283) and the Mover's hold on its current descriptor. -/
structure Stream where
  state   : StreamState
  reason  : Nat
  ctx     : Nat
  irqDone : Bool
  fault   : Nat
  seq     : Nat
  chainVa : Nat
  descVa  : Nat
  byteOff : Nat
  loopActive : Bool
  loopCount  : Nat
  vtab    : Nat              -- the 64-bit field
  tokens  : List Nat
  faultVa : Nat
  faultPa : Nat
  mboxId  : Nat
  mboxFull : Bool
  secure  : Bool             -- world latched at START
  curVa   : Nat              -- descriptor being executed
  curDesc : List Byte        -- its 64 bytes once fetched
  curTensor : Option Tensor
  nextOff : Nat              -- next chunk offset
  total   : Nat              -- box bytes
  waitTaken : Bool           -- the COPY's wait was consumed
  fetched : Bool
  chunks  : List Chunk       -- in flight
  failing : Option Chunk     -- lowest failing chunk (R293)
  stopReq : Nat              -- 0 none, 1 pre-emption, 2 abort
  nextError : Option Nat     -- QUEUE_OVERRUN or COUNTER_RANGE at the next descriptor
deriving DecidableEq, Repr

/-! ### The Atwin fabric -/

/-- A packet in one of a port's receive buffers (R320); `loop` marks one that this device sent to itself. -/
structure RxPacket where
  buf  : Buf
  pkt  : Packet
  loop : Bool
  served : Bool              -- a REQ whose access is complete and whose RSP is still to be sent (R321)
deriving DecidableEq, Repr

/-- A packet in a port's egress queue or retry buffer, with the SEQ it was sent under and, for a forwarded packet, its
arrival port and the VC it arrived with. -/
structure TxPacket where
  pkt     : Packet
  seq     : BitVec 16
  arrival : Option Nat
  vcIn    : Nat
  tries   : Nat              -- times it was resent (R308)
deriving DecidableEq, Repr

/-- A link key (R310): the key, its IV salt and the units sent under it. -/
structure LinkKey where
  key     : BitVec 256
  salt    : BitVec 32
  counter : Nat
deriving DecidableEq, Repr

/-- One Atwin port's hidden state (R304 to R324). -/
structure Port where
  rx         : List RxPacket            -- the five receive buffers, arrival order
  egress     : List TxPacket
  retry      : List TxPacket            -- transmitted, unacknowledged, oldest first
  resend     : List TxPacket            -- to be sent again, oldest first
  nextSeq    : BitVec 16
  expSeq     : BitVec 16
  nakSent    : Bool
  badTrains  : Nat                      -- consecutive failed retrains
  creditGot  : Table Nat                -- by buffer: credits the peer has returned, modulo 2^16
  creditUsed : Table Nat                -- by buffer: credits used by packets sent, modulo 2^16
  freed      : Table Nat                -- by buffer: credits this receiver has returned, modulo 2^16
  swapLane   : Option Nat               -- receiver: swap in progress for this physical lane
  txSwap     : Option Nat               -- transmitter: training the spare for this lane
  swapCw     : Option Nat               -- codeword n of SWAP_AT
  laneWin    : Table (Nat × Nat)        -- physical lane to the window and the codewords counted in it (R305)
  latched    : List Nat                 -- lane failures waiting for the end of a swap or retrain (R329)
  keyActive  : Option LinkKey
  keyStandby : Option LinkKey
  keyOld     : Option LinkKey           -- held for resends while a switch is in progress (R311)
  keyBuild   : BitVec 256               -- ATP_KEY_STANDBY as written so far
  saltBuild  : BitVec 32
  erased     : Bool                     -- the active key was erased (R421)
  switchSeq  : Option (BitVec 16)
  rxSwitch   : Option (BitVec 16)       -- SEQ from which the peer's packets use the new key
  authFails  : Nat                      -- GCM failures in the current second
  authSecond : Nat
  locked     : Bool                     -- DOWN with cause 3 until ENABLE is written
  egPeak     : Nat                      -- highest egress occupancy in the period, bytes (R324)
  localWait  : Nat                      -- grants since local injection last won (R322)
deriving DecidableEq, Repr

/-- A fabric tag's state (R328). -/
inductive TagState where
  | free | outstanding | quarantine
deriving DecidableEq, Repr

/-- A fabric tag with its generation. -/
structure Tag where
  state  : TagState
  gen    : BitVec 4
deriving DecidableEq, Repr

/-! ### Gradient exchange -/

/-- One op of the schedule while an attempt runs (R337, R339). -/
structure OpState where
  started   : Bool
  waited    : Bool
  granted   : Bool           -- RECV: credit sent. SEND: credit held
  credit    : Nat            -- in 64-byte units
  received  : Nat
  length    : Option Nat
  completed : Bool
  confirmSent : Bool
  confirmGot  : Bool
deriving DecidableEq, Repr

/-- An exchange op as its 64 bytes give it (R337). -/
structure XOp where
  isSend  : Bool
  kindOk  : Bool
  main    : Bool
  sigEn   : Bool
  waitEn  : Bool
  gateEn  : Bool
  peer    : Nat
  lbuf    : Nat
  waitCtr : Nat
  waitCount : Nat
  addr    : Nat
  lenAddr : Nat
  maxBytes : Nat
  gate    : Nat
  depends : List Nat
  sigField : Nat
  reservedOk : Bool
deriving DecidableEq, Repr

/-- Work of XSEQ that waits until XLAT is ON (R274): the schedule to be read, or a flip's record to be written. -/
inductive XDue where
  | schedule | flip
deriving DecidableEq, Repr

/-- A context's exchange: its schedule header and the attempt's op states (R334, R336, R339, R348). -/
structure XCtx where
  attempt  : Nat
  ops      : List XOp
  st       : Table OpState
  ringPos  : Nat
  ring     : List Nat
  jw       : List Nat
  doneCtr  : Nat
  commitVa : Nat
  recordVa : Nat
  statsLanded : List Nat     -- packet indices landed
  readyLanded : List Nat
  verdict  : Bool            -- VERDICT of the READY packets landed
  queryIdx : Nat             -- next target of QUERY (R354)
  due      : Option XDue     -- what waits until XLAT is ON (R274)
  pending  : Option (Nat × Nat) -- a counter's failure that waits for the next attempt: reason and INFO0 (R29)
deriving DecidableEq, Repr

/-! ### Host -/

/-- Queue-pair states (R384). -/
inductive QpState where
  | reset | connecting | rts | error
deriving DecidableEq, Repr

/-- A message of a context's completion and fault queue (R377). -/
structure QMsg where
  seq   : Nat
  type  : Nat
  body  : List Byte
  sentOn : Option Nat        -- QP on which it was last transmitted
  psn   : Nat                -- PSN of its last packet there
deriving DecidableEq, Repr

/-- A context's queue in HEP (R377). -/
structure HostQueue where
  msgs   : List QMsg
  next   : Nat
  lostFlag : Bool
deriving DecidableEq, Repr

/-! ### Outputs -/

/-- What the device sends to the outside, in order. -/
inductive Sent where
  | regValue (m : Master) (pa : Nat) (size : Nat) (value : Nat)
  | decodeError (m : Master) (pa : Nat)
  | poweredOff (m : Master) (pa : Nat)
  | memData (pa : Nat) (data : List Byte) (poisoned : Bool)
  | memError (pa cause : Nat)
  | evacForward (toHost : Bool) (group cause : Nat)
  | hostMsg (qp : Nat) (bytes : List Byte)
  | rdmaAck (qp : Nat) (psn : Nat)
  | rdmaNak (qp : Nat) (psn : Nat) (syndrome : Nat)
  | rnrNak (qp : Nat)
  | rdmaData (qp : Nat) (psn : Nat) (data : List Byte)
  | cnpSent (qp : Nat)
  | cmRep (port qpn : Nat)
  | cmRej (port : Nat)
  | cmDrep (qpn : Nat)
  | arpReply (port : Nat) (mac ip dest : Nat)
  | ndReply (port : Nat) (mac ip dest : Nat)
  | echoReply (port : Nat) (dest : Nat) (body : List Byte)
  | packet (port seq : Nat) (p : Packet) (sealed : Option Nat) (crc : BitVec 32)
  | control (port kind value : Nat) (tag : Option Nat)
  | requestDone (tag reason : Nat) (data : List Byte)
  | mgcInterrupt (page status : Nat)
  | mgcQueue (ctx type : Nat) (body : List Byte)
  | datagram (body : List Byte)
  | pldmEvent (kind worst : Nat)
  | spdm (t : Transport) (code : Nat) (fields : List Nat)
  | powerReport (pclass : Nat)
  | bmc (code : Nat) (fields : List Nat)
deriving DecidableEq, Repr

/-- An operation or message of the host that arrived and waits until XLAT is ON (R274). -/
inductive HostItem where
  | write (psn va rkey : Nat) (ecn : Bool) (lost : List Nat) (data : List Byte)
  | read (psn va rkey len : Nat) (ecn : Bool)
  | message (type : Nat) (h : Sys2Proof.MsgHdr) (body : List Byte)
deriving DecidableEq, Repr

/-- A queue pair (R364, R367, R368, R384). -/
structure Qp where
  state   : QpState
  ctx     : Nat
  control : Bool
  port    : Nat
  peer    : BitVec 24
  psn     : Nat              -- next send PSN
  mtu     : Nat              -- path MTU in bytes
  rate    : Nat              -- 64ths of the port rate
  retries : Nat
  cnpAt   : Option Nat       -- idle step of the last CNP sent
  unacked : List (Nat × Nat × Sent) -- SENDs not yet acknowledged: first and last PSN, message
deriving DecidableEq, Repr

/-! ### Security and power -/

/-- An SPDM connection (R431, R433). -/
structure Conn where
  version   : Bool
  caps      : Bool
  algs      : Bool
  transcript : List Nat
  lastH     : Option (BitVec 384)
  handshake : Bool
  session   : Bool
deriving DecidableEq, Repr

/-- An access to secure memory held during a wipe (R420): a write carries its data. -/
structure HeldAccess where
  cls    : Sys2Proof.AccClass
  secure : Bool
  pa     : Nat
  data   : Option (List Byte)
  obs    : Sys2Proof.LineObs
deriving DecidableEq, Repr

/-- SEC's and the Management Controller's hidden state. -/
structure SecState where
  mctp     : Conn
  mailbox  : Conn
  mailSeq  : Nat
  trngDraws : Nat            -- draws made from the TRNG
  nonceId  : Nat             -- the draw that gave SEC_NONCE
  aliasId  : Nat             -- the Alias key (R430)
  aliasHash : BitVec 384     -- firmware DIGEST in the Alias certificate
  aliasSvn : Nat             -- firmware SVN in the Alias certificate
  images   : List (BitVec 384 × Nat) -- DIGEST and SVN of the images in use, classes 1 to 4 (R431)
  refuse   : Bool            -- a changed measurement: attestation refused until device reset (R437)
  wiping   : Bool            -- a tamper wipe is under way (R420)
  wipeAt   : Nat             -- SCLK at its last trigger (R420)
  held     : List HeldAccess -- secure-memory accesses that wait for its end, oldest first
  recovery : Bool            -- the ROM waits for a firmware image (R428)
  wdogAt   : Nat             -- milliseconds of idle steps at the last write of MGC_WDOG
  restartWindow : Nat        -- 60 s window of the restarts below (R408, R437)
  restartCount  : Nat
deriving DecidableEq, Repr

/-- The Power Steward's hidden state (R441 to R460). -/
structure PowerState where
  rails     : Bool
  step      : Nat            -- step of R463 in progress; 8 is done
  standbyUp : Bool           -- step 0 ended
  thermalCut : Nat           -- sixteenths of BUDGET_W taken off (R454)
  wantA     : Nat            -- ACLK and ECLK steps that the active PLLs slew to (R448)
  wantE     : Nat
  pllA      : Nat            -- steps at which the active PLLs of ACLK and ECLK run now
  pllE      : Nat
  rowsOn    : Nat            -- cluster rows ungated (R451)
  pclassNow : Nat
  fabricCap : Nat            -- cap in 64ths
  hostCap   : Nat
  throttledAt : Nat          -- SCLK count at which THROTTLED was set
  refOk     : List Nat       -- consecutive good windows: link and REFCLK of instance 0, then of instance 1 (R458)
  awaitGrant : Bool          -- both clocks stay at the floor until the next grant (R452, R459)
  waitPwrEn : Bool           -- the rails return only when PWR_EN rises again (R455, R463, R464)
  floorHold : Bool           -- a lost reference holds both clocks at the floor (R459)
deriving DecidableEq, Repr

/-! ### Recorder -/

/-- An event on its way to the EVR (R471, R474). -/
structure Event where
  source  : Nat
  code    : Nat
  world   : Bool
  payload : Nat
deriving DecidableEq, Repr

/-- The Event Recorder's RAM and time (R475, R480), and the per-master read state (R478). -/
structure EvrState where
  ram     : Table EvRec      -- by slot
  head    : Nat
  tail    : Nat
  ftail   : Nat
  opMs    : Nat
  cycles  : Nat
  slot    : Bool             -- the OP_MS slot written last is the second
  lostFrom : Nat             -- first SEQ lost to the mirror since the last MIRROR_GAP
  lostN   : Nat              -- how many were lost since then
deriving DecidableEq, Repr

/-- What each register master holds for itself (R44, R478, R488). -/
structure MasterView where
  shadow  : Option (Nat × Word)   -- low-half address and latched high half
  rsel    : Word64
  latched : List Word64
  ssel    : Word
  sample  : List Word64
deriving DecidableEq, Repr

/-- A sample ring entry (R488): the four 64-bit words. -/
abbrev SampleEntry := List Word64

/-- The whole block. -/
structure State where
  pending  : List Instr
  regs     : Table Word           -- by physical address, multiple of 4
  mem      : List Host.Cell       -- main memory and Vault; an unlisted byte is 0 (log entry 4)
  cmem     : List Host.Cell       -- CMEM bytes by cluster, physical bank, line (R155); unlisted 0 (R164)
  memObs   : Table Sys2Proof.LineObs -- line number to what the channels show of it, where not every chunk arrives right (R254)
  markers  : List Nat             -- lines whose check symbols are stored inverted (R260)
  clk      : Clocks
  cycOff   : Table Nat            -- page to cycles its CYCLE did not count
  irqSent  : Table Nat            -- page to IRQ_STATUS bits whose message has gone out since they were set (R50)
  softDue  : List Nat             -- pages whose SOFT_RESET takes place when they reach OFF (R52)
  cycStop  : Table Nat            -- page to the domain count at which its clock stopped
  fuses    : Fuses
  flash    : Flash
  pins     : Pins
  array    : ArrayState
  acon     : Table AconCtx
  winSerial : Nat
  flying   : List Signal          -- signals sent, not yet counted
  clusters : Table ClusterState
  skeep    : Table SkEntry
  statq    : List StatMsg
  statNo   : Nat                  -- statistics records sent so far
  identWin : Table (Nat × Nat)    -- group * 9 + member: window k and IDENT count (R257)
  evacGroup : Nat                 -- the group that GO named (R260)
  mr4      : Table Nat            -- package to its last temperature report (R264)
  xlat     : List TlbEntry
  inval    : Option Inval
  streams  : Table Stream
  movers   : Table Nat            -- logical to physical Mover, when not the default
  moverNext : Table Nat           -- Mover to the stream last served (R291)
  moverDead : List Nat            -- retired logical Movers
  badMovers : List Nat            -- physical Movers that no longer serve (R282)
  ports    : Table Port
  routes   : Table Word
  tags     : Table Tag
  xseq     : Table XCtx
  qps      : Table Qp
  queues   : Table HostQueue
  jobMovers : Table (List Nat)    -- context to the streams of its last JOB_LOAD's Mover table (R376)
  linkDownAt : Table Nat
  paused   : List (Nat × Nat)     -- Ethernet port and priority paused (R362)
  heldTx   : List (Nat × Sent)    -- Ethernet port and what a pause holds back there, oldest first (R362)
  hostWait : List (Nat × HostItem) -- queue pair and what waits there until XLAT is ON, in arrival order (R274, R372)
  views    : Table MasterView     -- master ID to its shadows
  evq      : List Event
  evr      : EvrState
  rings    : Table SampleEntry    -- agent * 256 + entry
  sampleCnt : Table Nat           -- agent to commands counted
  hlthSeq  : Nat                  -- datagrams since power-on (R410)
  patrolSince : Nat               -- OP_MS from which patrol ages count (R396)
  changes  : List (List Nat)      -- colour changes since the last datagram (R410)
  colours  : Table Nat            -- kind * 65536 + instance to the colour of a unit that is not Green (R410)
  sec      : SecState
  power    : PowerState
  sent     : List Sent
  draws    : Nat                  -- free values drawn so far (the model's own, log entry 5)
deriving DecidableEq, Repr

/-! ### Reset -/

/-- No failure recorded in flash. -/
def FailureMaps.none : FailureMaps := ⟨[], [], [], [], [], [], 0xFFFFFFFF, 0xFFFFFFFF, [], [], [], []⟩

/-- An empty accumulator bank record (R143). -/
def BankRec.empty : BankRec := ⟨false, false, false, 0, 0, 0, 0, 0⟩

/-- An accumulator bank with every accumulator in the empty state (R74). -/
def Bank.empty : Bank := ⟨[], [], [], none, none⟩

/-- An SPDM connection before its first message. -/
def Conn.fresh : Conn := ⟨false, false, false, [], none, false, false⟩

/-- The machine right after device reset with its supplies present (R54, R465). Values that the spec takes from fuses,
flash or straps, and leaves to the part, are named in log entries 8 and 9. -/
def State.reset : State where
  pending := []
  regs := [(0x0201000D0100, 511), (0x0201000D1100, 511)]  -- FRT_DEVID := BOARD_ID × 8 + SLOT_ID with every strap open (R496, R497)
  mem := []
  cmem := []
  memObs := []
  markers := []
  clk := ⟨0, 0, 0, 0, 0, 0, 0, 0⟩
  cycOff := []
  irqSent := []
  softDue := []
  cycStop := []
  fuses := { grade := .fgm9768, lifecycle := 2, uds := some 0, udsLocked := false, svn := [0, 0, 0, 0], lmsTree := 1
             standardId := 0, vendorId := 0 }
  flash := { maps := FailureMaps.none, mirror := [], sectors := 512, opMsSlots := [some 0, none], powerCycles := some 0
             mirrorPos := 0, journal := [(0, 0), (0, 0)] }
  pins := { vstby := true, vmain := true, pwrEn := true, boardPin := 63, slotPin := 7, boardId := 63, slotId := 7
            ready := false, pwrGood := true, tripLatched := false, supplyFault := false, clockRed := false, fwFault := false
            haltShareLow := false, throttleLow := false }
  array := ⟨Bank.empty, Bank.empty, none, none, [], 0, []⟩
  acon := []
  winSerial := 0
  flying := []
  clusters := []
  skeep := []
  statq := []
  statNo := 0
  identWin := []
  evacGroup := 0
  mr4 := []
  xlat := []
  inval := none
  streams := []
  movers := []
  moverNext := []
  moverDead := []
  badMovers := []
  ports := []
  routes := []
  tags := []
  xseq := []
  qps := []
  queues := []
  jobMovers := []
  linkDownAt := []
  paused := []
  heldTx := []
  hostWait := []
  views := []
  evq := []
  evr := ⟨[], 0, 0, 0, 0, 0, false, 0, 0⟩
  rings := []
  sampleCnt := []
  hlthSeq := 0
  patrolSince := 0
  changes := []
  colours := []
  sec := { mctp := Conn.fresh, mailbox := Conn.fresh, mailSeq := 0, trngDraws := 2, nonceId := 1, aliasId := 0, aliasHash := 0
           aliasSvn := 0, images := [], refuse := false, wiping := false, wipeAt := 0, held := [], recovery := false
           wdogAt := 0, restartWindow := 0, restartCount := 0 }
  power := { rails := true, step := 0, standbyUp := false, thermalCut := 0, wantA := 96, wantE := 120, pllA := 96, pllE := 120
             rowsOn := 0, pclassNow := 0, fabricCap := 64, hostCap := 64, throttledAt := 0, refOk := [0, 0, 0, 0]
             awaitGrant := false, waitPwrEn := false, floorHold := false }
  sent := []
  draws := 0

end Sys2Proof.Machine
end

