-- ==== Sys2Proof/Machine/Accumulator.lean ====
section
/-! DEFINITION. The long accumulator: products and alignment (R79, R80), limb passes (R84, R85), the drain's decision
(R86 to R90), the RAW256 form (R61, R75) and the combination of states (R92, R195). -/

namespace Sys2Proof.Machine

/-- The empty state (R74). -/
def accEmpty : Acc := ⟨0, false, false, false, false, false, false, false, false, 0⟩

/-- Mark a special product at reduction index `k` (R79). -/
def accMark (k : Nat) (a : Acc) : Acc :=
  { a with kValid := true, firstK := if a.kValid then min a.firstK k else k }

/-- Add one finite product ± mag × 2^e at index `k` on the grid 2^f (R80). -/
def accFinite (f : Int) (k : Nat) (neg : Bool) (mag : Nat) (e : Int) (a : Acc) : Acc :=
  let sh := e - f
  if mag = 0 then a
  else if 0 ≤ sh then
    -- a shift of 256 or more lands beyond frame whatever the nonzero magnitude
    let q := mag <<< (min sh 256).toNat
    if 2 ^ 255 ≤ q then
      accMark k (if neg then { a with negBeyond := true } else { a with posBeyond := true })
    else { a with value := a.value + (if neg then -(q : Int) else q) }
  else
    let d := (-sh).toNat
    let q := mag >>> d
    { a with
      value := a.value + (if neg then -(q : Int) else q)
      drop := a.drop || mag != q <<< d }

/-- The pieces of a significand in limb mode, with their offsets (R84): 1 piece, 3 for FP32, 5 for FP64. -/
def limbPieces (n m : Nat) : List (Nat × Nat) :=
  match n with
  | 3 => [(nfld m 23 13, 13), (nfld m 12 2, 2), (nfld m 1 0, 0)]
  | 5 => [(nfld m 52 42, 42), (nfld m 41 31, 31), (nfld m 30 20, 20), (nfld m 19 9, 9), (nfld m 8 0, 0)]
  | _ => [(m, 0)]

/-- The pieces that a pairing multiplies (R84): 3 for FP32, 5 for FP64, otherwise 1. -/
def limbsOf (fmt : Nat) : Nat := if fmt = 0x0A then 3 else if fmt = 0x0B then 5 else 1

/-- Limb passes per operand pair (R84). -/
def passesOf (fmt : Nat) : Nat := limbsOf fmt * limbsOf fmt

/-- The finite products of one operand pair, pass (i, j) in the order i × n + j (R84). -/
def limbProducts (n ma mb : Nat) : List (Nat × Nat) :=
  (limbPieces n ma).flatMap (fun (pa, oa) => (limbPieces n mb).map (fun (pb, ob) => (pa * pb, oa + ob)))

/-- Add the products of one operand pair (R79, R80, R85). `n` is `limbsOf` of the pairing. -/
def accPair (n : Nat) (f : Int) (k : Nat) (x y : Val) (a : Acc) : Acc :=
  match x, y with
  | .nan _, _ => accMark k { a with nanIn := true }
  | _, .nan _ => accMark k { a with nanIn := true }
  | .inf s, .fin t m _ =>
    if m = 0 then accMark k { a with zeroInf := true }
    else accMark k (if s != t then { a with negInf := true } else { a with posInf := true })
  | .fin t m _, .inf s =>
    if m = 0 then accMark k { a with zeroInf := true }
    else accMark k (if s != t then { a with negInf := true } else { a with posInf := true })
  | .inf s, .inf t => accMark k (if s != t then { a with negInf := true } else { a with posInf := true })
  | .fin s ma ea, .fin t mb eb =>
    (limbProducts n ma mb).foldl (fun acc (m, o) => accFinite f k (s != t) m (ea + eb + (o : Int)) acc) a

/-- Add the products of a list of operand pairs, the first at index `k`. -/
def accPairs (n : Nat) (f : Int) : Nat → List (Val × Val) → Acc → Acc
  | _, [], a => a
  | k, (x, y) :: r, a => accPairs n f (k + 1) r (accPair n f k x y a)

/-- A state whose VALUE is cut to its 280 bits (R73). -/
def accWrap (a : Acc) : Acc := { a with value := sext 280 (wrapInt 280 a.value) }

/-! ### The drain's decision -/

/-- |S| ≥ 2^255. -/
def accOver (a : Acc) : Bool := decide (2 ^ 255 ≤ a.value.natAbs)

/-- The condition of rule 3 of R86. -/
def frameBoth (a : Acc) : Bool :=
  (a.posBeyond && a.negBeyond) ||
  (a.posBeyond && !a.negBeyond && accOver a && decide (a.value < 0)) ||
  (a.negBeyond && !a.posBeyond && accOver a && decide (0 < a.value))

/-- The condition of rule 4 of R86, whichever rule decided (R87). -/
def rule4Cond (a : Acc) : Bool := a.posBeyond != a.negBeyond || accOver a

/-- The rule of R86 that decides an element: 1 to 5. -/
def drainRule (a : Acc) : Nat :=
  if a.nanIn || a.zeroInf || (a.posInf && a.negInf) then 1
  else if a.posInf || a.negInf then 2
  else if frameBoth a then 3
  else if rule4Cond a then 4
  else 5

/-- The sign of the overflow of rule 4. -/
def overNeg (a : Acc) : Bool := if a.posBeyond then false else if a.negBeyond then true else decide (a.value < 0)

/-- S × 2^f as a value; a zero sum is +0 (R66). -/
def accVal (f : Int) (a : Acc) : Val := .fin (decide (a.value < 0)) a.value.natAbs f

/-- The cause set of an element (R87); `ovf5` says that rule 5 overflowed. -/
def causeSet (a : Acc) (ovf5 : Bool) : Nat :=
  b2n a.nanIn + 2 * b2n a.zeroInf + 4 * b2n (a.posInf && a.negInf) + 8 * b2n (frameBoth a) +
  16 * b2n a.posInf + 32 * b2n a.negInf + 64 * b2n (rule4Cond a || ovf5) + 128 * b2n a.drop

/-- One drained element: its code, flags (R88), reported cause and cause set (R87), and whether it counts as a first
position (R94). -/
structure Drained where
  code   : Nat
  flags  : RFlags
  cause  : Nat
  causes : Nat
  first  : Bool
deriving DecidableEq, Repr

/-- The STATE word of RAW256 (R61). -/
def rawState (a : Acc) : Nat :=
  (wrapInt 280 a.value >>> 256) <<< 32 + b2n a.drop <<< 31 + b2n a.negBeyond <<< 30 + b2n a.posBeyond <<< 29 +
  b2n a.negInf <<< 28 + b2n a.posInf <<< 27 + b2n a.zeroInf <<< 26 + b2n a.nanIn <<< 25 + b2n a.kValid <<< 24 + a.firstK

/-- The 320-bit RAW256 element of a state (R61, R75). -/
def rawOf (a : Acc) : Nat := wrapInt 280 a.value % 2 ^ 256 + rawState a <<< 256

/-- The state a RAW256 element holds (R61). -/
def rawAcc (c : Nat) : Acc :=
  let st := c >>> 256
  { value := sext 280 (c % 2 ^ 256 + (nfld st 55 32) <<< 256)
    nanIn := nbit st 25, zeroInf := nbit st 26, posInf := nbit st 27, negInf := nbit st 28
    posBeyond := nbit st 29, negBeyond := nbit st 30, drop := nbit st 31
    kValid := nbit st 24, firstK := nfld st 23 0 }

/-- A nonzero reserved byte in a RAW256 element (R61). -/
def rawReserved (c : Nat) : Bool := c >>> 312 != 0

/-- Drain one accumulator to format `fmt` with output exponent or frame `x` and frame `f` (R86 to R90). -/
def drainElem (fmt : Nat) (x f : Int) (cfg : RoundCfg) (a : Acc) : Drained :=
  let rule := drainRule a
  let neg := if rule = 2 then a.negInf else overNeg a
  if fmt = 0x0F then
    let nan := rule == 1 || rule == 3
    let inf := rule == 2 || (rule == 4 && cfg.polInf)
    let causes := causeSet a false
    { code := rawOf a
      flags := { nan := nan, inf := inf, ovf := nbit causes 6 || nbit causes 3, drop := a.drop }
      cause := if rule = 1 then (if a.nanIn then 1 else if a.zeroInf then 2 else 3)
               else if rule = 2 then (if a.negInf then 6 else 5)
               else if rule = 3 then 4
               else if rule = 4 then (if neg then 8 else 7) else 0
      causes := causes
      first := nan || inf }
  else
    let isFloat := (floatOf fmt).isSome
    let (code, fl) :=
      match rule with
      | 1 => roundFmt fmt x cfg (.nan false)
      | 2 => roundFmt fmt x cfg (.inf neg)
      | 3 => roundFmt fmt x cfg (.nan false)
      | 4 =>
        match floatOf fmt with
        | some g => overflowFloat g { cfg with mode := 0 } neg
        | none => (intExtreme ((intWidth fmt).getD 64) neg, { ovf := true, sat := true, inexact := true })
      | _ => roundFmt fmt x cfg (accVal f a)
    let ovf5 := rule == 5 && fl.ovf
    let causes := causeSet a ovf5
    let nan := rule == 1 || rule == 3
    let flags := { fl with nan := nan, ovf := nbit causes 6 || nbit causes 3, drop := a.drop }
    { code := code
      flags := flags
      cause := if rule = 1 then (if a.nanIn then 1 else if a.zeroInf then 2 else 3)
               else if rule = 2 then (if a.negInf then 6 else 5)
               else if rule = 3 then 4
               else if rule = 4 || ovf5 then (if neg then 8 else 7) else 0
      causes := causes
      first := if isFloat then nan || (fl.inf && !(rule == 3)) else nan || flags.inf }

/-! ### Combining states -/

/-- Combine two states on one frame (R92); a sum outside the 280-bit range stores 0 and marks beyond (R195). -/
def accCombine (a b : Acc) : Acc :=
  let v := a.value + b.value
  let hiOut := decide ((2 : Int) ^ 279 ≤ v)
  let loOut := decide (v < -((2 : Int) ^ 279))
  { value := if hiOut || loOut then 0 else v
    nanIn := a.nanIn || b.nanIn, zeroInf := a.zeroInf || b.zeroInf
    posInf := a.posInf || b.posInf, negInf := a.negInf || b.negInf
    posBeyond := a.posBeyond || b.posBeyond || hiOut
    negBeyond := a.negBeyond || b.negBeyond || loOut
    drop := a.drop || b.drop
    kValid := a.kValid || b.kValid
    firstK := if a.kValid then (if b.kValid then min a.firstK b.firstK else a.firstK)
              else if b.kValid then b.firstK else 0 }

end Sys2Proof.Machine
end

