-- ==== Sys2Proof/Machine/RegTable.lean ====
section
/-! DEFINITION. The register tables of the spec: one row per field that is not a plain read-only zero, by block type
code (R38), with its access type (R9) and reset value. Read-only fields whose reset is 0 and reserved fields have no
row: a word nothing has written reads as the fields below give, and every bit without a row ignores writes. -/

namespace Sys2Proof.Machine

/-- The access types of R9; `rwsH` is an RWS field that only the Health Manager writes (R155, R203, R413), `woS` a
write-only field marked "S only" (R11). -/
inductive Access where
  | ro | rw | w1c | w1s | wo | woS | rwl | rws | rwsH
deriving DecidableEq, Repr

/-- A register field: offset of its 32-bit word, how often it repeats at which stride, the stride of the eight
per-context sets from 0x400 (0: none), its bits, access type and reset value. -/
structure FieldRow where
  off    : Nat
  count  : Nat
  stride : Nat
  ctx    : Nat
  hi     : Nat
  lo     : Nat
  acc    : Access
  reset  : Nat
deriving DecidableEq, Repr

/-- The ACON page. -/
def fieldsAcon : List FieldRow :=
  [⟨0x100, 1, 0, 0x0, 31, 0, .ro, 0x2000200⟩,
   ⟨0x104, 1, 0, 0x0, 31, 0, .ro, 0xffffffff⟩,
   ⟨0x108, 1, 0, 0x0, 31, 0, .ro, 0xffffffff⟩,
   ⟨0x10C, 1, 0, 0x0, 31, 16, .rwl, 0x100⟩,
   ⟨0x10C, 1, 0, 0x0, 3, 0, .rwl, 2⟩,
   ⟨0x110, 1, 0, 0x0, 31, 21, .rws, 0⟩,
   ⟨0x114, 1, 0, 0x0, 15, 0, .rws, 0⟩,
   ⟨0x400, 1, 0, 0x100, 8, 8, .rws, 0⟩,
   ⟨0x400, 1, 0, 0x100, 6, 4, .rw, 0⟩,
   ⟨0x400, 1, 0, 0x100, 2, 1, .rw, 0⟩,
   ⟨0x400, 1, 0, 0x100, 0, 0, .rws, 0⟩,
   ⟨0x408, 1, 0, 0x100, 7, 0, .wo, 0⟩,
   ⟨0x40C, 1, 0, 0x100, 31, 0, .rws, 0⟩,
   ⟨0x410, 1, 0, 0x100, 31, 0, .rw, 0⟩,
   ⟨0x414, 1, 0, 0x100, 15, 0, .rw, 0⟩,
   ⟨0x418, 1, 0, 0x100, 31, 0, .rw, 0⟩,
   ⟨0x41C, 1, 0, 0x100, 15, 0, .rw, 0⟩,
   ⟨0x420, 1, 0, 0x100, 21, 12, .rw, 0⟩,
   ⟨0x440, 16, 4, 0x100, 31, 0, .rw, 0⟩,
   ⟨0x480, 16, 4, 0x100, 15, 0, .rw, 0⟩,
   ⟨0x480, 16, 4, 0x100, 31, 16, .rw, 0⟩]

/-- The GUARD page. -/
def fieldsGuard : List FieldRow :=
  [⟨0x100, 1, 0, 0x0, 24, 16, .rw, 0⟩]

/-- The CSEQ page. -/
def fieldsCseq : List FieldRow :=
  [⟨0x100, 1, 0, 0x0, 31, 16, .rwl, 0x100⟩,
   ⟨0x100, 1, 0, 0x0, 3, 0, .rwl, 2⟩,
   ⟨0x408, 1, 0, 0x100, 31, 0, .rw, 0⟩,
   ⟨0x40C, 1, 0, 0x100, 15, 0, .rw, 0⟩,
   ⟨0x440, 16, 4, 0x100, 15, 0, .rw, 0⟩,
   ⟨0x440, 16, 4, 0x100, 31, 16, .rw, 0⟩]

/-- The CMEM page. -/
def fieldsCmem : List FieldRow :=
  [⟨0x100, 1, 0, 0x0, 31, 0, .rw, 0⟩,
   ⟨0x104, 1, 0, 0x0, 31, 0, .rw, 0⟩,
   ⟨0x114, 1, 0, 0x0, 31, 0, .rws, 0⟩,
   ⟨0x118, 1, 0, 0x0, 15, 0, .rw, 0x40⟩,
   ⟨0x120, 8, 4, 0x0, 5, 0, .rwsH, 0⟩,
   ⟨0x120, 8, 4, 0x0, 13, 8, .rwsH, 0⟩,
   ⟨0x120, 8, 4, 0x0, 21, 16, .rwsH, 0⟩,
   ⟨0x120, 8, 4, 0x0, 29, 24, .rwsH, 0⟩,
   ⟨0x140, 1, 0, 0x0, 31, 0, .rw, 0⟩,
   ⟨0x144, 1, 0, 0x0, 31, 0, .rw, 0⟩,
   ⟨0x150, 1, 0, 0x0, 31, 0, .rw, 0⟩]

/-- The VEC page. -/
def fieldsVec : List FieldRow :=
  [⟨0x100, 1, 0, 0x0, 31, 0, .rwsH, 0⟩,
   ⟨0x104, 1, 0, 0x0, 31, 0, .rwsH, 0⟩,
   ⟨0x108, 1, 0, 0x0, 3, 0, .rwsH, 0⟩,
   ⟨0x400, 1, 0, 0x40, 4, 4, .w1c, 0⟩,
   ⟨0x400, 1, 0, 0x40, 3, 3, .w1c, 0⟩,
   ⟨0x400, 1, 0, 0x40, 2, 2, .w1c, 0⟩,
   ⟨0x400, 1, 0, 0x40, 1, 1, .w1c, 0⟩,
   ⟨0x400, 1, 0, 0x40, 0, 0, .w1c, 0⟩]

/-- The GATH page. -/
def fieldsGath : List FieldRow :=
  [⟨0x100, 1, 0, 0x0, 31, 0, .rw, 0⟩]

/-- The SKEEP page. -/
def fieldsSkeep : List FieldRow :=
  [⟨0x100, 1, 0, 0x0, 31, 24, .rwl, 3⟩,
   ⟨0x100, 1, 0, 0x0, 23, 16, .rwl, 0x40⟩,
   ⟨0x100, 1, 0, 0x0, 15, 8, .rwl, 0x18⟩,
   ⟨0x100, 1, 0, 0x0, 3, 0, .rwl, 1⟩,
   ⟨0x104, 1, 0, 0x0, 31, 16, .rw, 0xffff⟩,
   ⟨0x104, 1, 0, 0x0, 15, 0, .rw, 0⟩,
   ⟨0x108, 1, 0, 0x0, 31, 16, .rw, 0xffff⟩,
   ⟨0x108, 1, 0, 0x0, 15, 0, .rw, 0xffff⟩,
   ⟨0x110, 1, 0, 0x0, 31, 19, .rws, 0⟩,
   ⟨0x114, 1, 0, 0x0, 15, 0, .rws, 0⟩,
   ⟨0x118, 1, 0, 0x0, 10, 8, .wo, 0⟩,
   ⟨0x118, 1, 0, 0x0, 7, 0, .wo, 0⟩,
   ⟨0x11C, 1, 0, 0x0, 13, 0, .ro, 0x2000⟩,
   ⟨0x120, 1, 0, 0x0, 31, 0, .rw, 0⟩,
   ⟨0x124, 1, 0, 0x0, 31, 0, .rw, 0⟩,
   ⟨0x140, 1, 0, 0x0, 13, 0, .rw, 0⟩,
   ⟨0x180, 8, 8, 0x0, 31, 0, .rw, 0⟩,
   ⟨0x184, 8, 8, 0x0, 31, 0, .rw, 0⟩]

/-- The MEMC page. -/
def fieldsMemc : List FieldRow :=
  [⟨0x104, 1, 0, 0x0, 15, 0, .ro, 0xc0⟩,
   ⟨0x150, 1, 0, 0x0, 8, 8, .woS, 0⟩,
   ⟨0x150, 1, 0, 0x0, 4, 0, .rws, 0⟩,
   ⟨0x170, 1, 0, 0x0, 31, 16, .rw, 0⟩,
   ⟨0x178, 1, 0, 0x0, 31, 24, .rwl, 0x18⟩,
   ⟨0x178, 1, 0, 0x0, 23, 20, .rwl, 4⟩,
   ⟨0x178, 1, 0, 0x0, 0, 0, .rwl, 0⟩]

/-- The CGM page. -/
def fieldsCgm : List FieldRow :=
  [⟨0x100, 1, 0, 0x0, 19, 16, .ro, 0xf⟩,
   ⟨0x100, 1, 0, 0x0, 15, 12, .ro, 0xf⟩,
   ⟨0x104, 1, 0, 0x0, 3, 0, .woS, 0⟩,
   ⟨0x108, 1, 0, 0x0, 31, 16, .rwl, 0xe10⟩,
   ⟨0x108, 1, 0, 0x0, 15, 8, .rwl, 0x10⟩,
   ⟨0x108, 1, 0, 0x0, 7, 0, .rwl, 4⟩,
   ⟨0x110, 9, 4, 0x0, 31, 16, .rw, 0⟩,
   ⟨0x110, 9, 4, 0x0, 15, 0, .rw, 0⟩,
   ⟨0x140, 1, 0, 0x0, 31, 0, .rw, 0⟩,
   ⟨0x144, 1, 0, 0x0, 31, 0, .rw, 0⟩]

/-- The XLAT page. -/
def fieldsXlat : List FieldRow :=
  [⟨0x100, 1, 0, 0x0, 31, 16, .rw, 0⟩,
   ⟨0x104, 1, 0, 0x0, 15, 0, .rw, 0⟩,
   ⟨0x108, 1, 0, 0x0, 31, 0, .rw, 0⟩,
   ⟨0x10C, 1, 0, 0x0, 6, 4, .wo, 0⟩,
   ⟨0x10C, 1, 0, 0x0, 1, 0, .wo, 0⟩,
   ⟨0x110, 8, 8, 0x0, 31, 21, .rw, 0⟩,
   ⟨0x114, 8, 8, 0x0, 15, 0, .rw, 0⟩,
   ⟨0x110, 8, 8, 0x0, 0, 0, .rw, 0⟩,
   ⟨0x150, 1, 0, 0x0, 22, 16, .rw, 0⟩]

/-- The RPT page. -/
def fieldsRpt : List FieldRow :=
  [⟨0x100, 1, 0, 0x0, 31, 0, .rw, 0⟩,
   ⟨0x800, 256, 8, 0x0, 31, 0, .rwl, 0⟩,
   ⟨0x804, 256, 8, 0x0, 31, 0, .rwl, 0⟩]

/-- The MOV page. -/
def fieldsMov : List FieldRow :=
  [⟨0x100, 1, 0, 0x0, 31, 16, .rwl, 0x100⟩,
   ⟨0x104, 1, 0, 0x0, 7, 0, .rw, 0⟩,
   ⟨0x108, 1, 0, 0x0, 2, 0, .wo, 0⟩,
   ⟨0x140, 8, 8, 0x0, 31, 0, .rw, 0⟩,
   ⟨0x144, 8, 8, 0x0, 31, 0, .rw, 0⟩]

/-- The ATP page. -/
def fieldsAtp : List FieldRow :=
  [⟨0x100, 1, 0, 0x0, 15, 8, .rwl, 0x10⟩,
   ⟨0x100, 1, 0, 0x0, 7, 7, .rwl, 0⟩,
   ⟨0x100, 1, 0, 0x0, 6, 6, .rw, 0⟩,
   ⟨0x100, 1, 0, 0x0, 3, 0, .rw, 0⟩,
   ⟨0x108, 1, 0, 0x0, 14, 12, .ro, 4⟩,
   ⟨0x108, 1, 0, 0x0, 11, 0, .ro, 0x688⟩,
   ⟨0x10C, 1, 0, 0x0, 31, 0, .ro, 0x4688⟩,
   ⟨0x110, 1, 0, 0x0, 31, 16, .rwl, 0x3e8⟩,
   ⟨0x110, 1, 0, 0x0, 15, 0, .rwl, 0x40⟩,
   ⟨0x114, 5, 4, 0x0, 31, 0, .rw, 0⟩,
   ⟨0x130, 1, 0, 0x0, 31, 0, .rw, 0⟩,
   ⟨0x134, 1, 0, 0x0, 31, 0, .rw, 0⟩,
   ⟨0x138, 1, 0, 0x0, 31, 0, .rw, 0⟩,
   ⟨0x13C, 1, 0, 0x0, 31, 0, .rw, 0⟩,
   ⟨0x140, 1, 0, 0x0, 31, 0, .rw, 0⟩,
   ⟨0x148, 1, 0, 0x0, 22, 16, .ro, 0x40⟩,
   ⟨0x148, 1, 0, 0x0, 15, 0, .rw, 0⟩,
   ⟨0x180, 1, 0, 0x0, 31, 31, .woS, 0⟩,
   ⟨0x184, 1, 0, 0x0, 31, 0, .woS, 0⟩,
   ⟨0x1C0, 1, 0, 0x0, 31, 0, .woS, 0⟩,
   ⟨0x1C4, 1, 0, 0x0, 31, 0, .woS, 0⟩,
   ⟨0x1C8, 1, 0, 0x0, 31, 0, .woS, 0⟩,
   ⟨0x1CC, 1, 0, 0x0, 31, 0, .woS, 0⟩,
   ⟨0x1D0, 1, 0, 0x0, 31, 0, .woS, 0⟩,
   ⟨0x1D4, 1, 0, 0x0, 31, 0, .woS, 0⟩,
   ⟨0x1D8, 1, 0, 0x0, 31, 0, .woS, 0⟩,
   ⟨0x1DC, 1, 0, 0x0, 31, 0, .woS, 0⟩]

/-- The FRT page. -/
def fieldsFrt : List FieldRow :=
  [⟨0x100, 1, 0, 0x0, 11, 0, .rw, 0⟩,
   ⟨0x104, 1, 0, 0x0, 31, 16, .rwl, 0x3e8⟩,
   ⟨0x104, 1, 0, 0x0, 7, 0, .rwl, 0x64⟩,
   ⟨0x108, 1, 0, 0x0, 23, 16, .rwl, 0x4b⟩,
   ⟨0x108, 1, 0, 0x0, 15, 8, .rwl, 2⟩,
   ⟨0x108, 1, 0, 0x0, 7, 0, .rwl, 1⟩,
   ⟨0x110, 1, 0, 0x0, 11, 0, .rw, 0⟩,
   ⟨0x114, 1, 0, 0x0, 31, 31, .rw, 0⟩,
   ⟨0x114, 1, 0, 0x0, 25, 21, .rw, 0⟩,
   ⟨0x114, 1, 0, 0x0, 15, 0, .rw, 0⟩,
   ⟨0x120, 8, 4, 0x0, 5, 5, .rws, 0⟩,
   ⟨0x120, 8, 4, 0x0, 4, 4, .rws, 0⟩,
   ⟨0x120, 8, 4, 0x0, 2, 0, .rws, 0⟩,
   ⟨0x144, 1, 0, 0x0, 31, 0, .rw, 0⟩,
   ⟨0x148, 1, 0, 0x0, 31, 0, .rw, 0⟩,
   ⟨0x14C, 1, 0, 0x0, 31, 0, .rw, 0⟩,
   ⟨0x800, 128, 4, 0x0, 31, 0, .rw, 0⟩]

/-- The XSEQ page. -/
def fieldsXseq : List FieldRow :=
  [⟨0x100, 1, 0, 0x0, 31, 16, .rwl, 0x64⟩,
   ⟨0x100, 1, 0, 0x0, 15, 8, .rwl, 0xa⟩,
   ⟨0x100, 1, 0, 0x0, 7, 0, .rwl, 4⟩,
   ⟨0x104, 1, 0, 0x0, 31, 0, .rw, 0⟩,
   ⟨0x110, 1, 0, 0x0, 31, 16, .rwl, 0x200⟩,
   ⟨0x400, 1, 0, 0x80, 1, 1, .rw, 0⟩,
   ⟨0x400, 1, 0, 0x80, 0, 0, .rw, 0⟩,
   ⟨0x404, 1, 0, 0x80, 7, 0, .wo, 0⟩,
   ⟨0x40C, 1, 0, 0x80, 31, 0, .ro, 1⟩,
   ⟨0x410, 1, 0, 0x80, 31, 0, .rw, 0⟩,
   ⟨0x414, 1, 0, 0x80, 15, 0, .rw, 0⟩,
   ⟨0x420, 1, 0, 0x80, 31, 0, .rw, 0⟩,
   ⟨0x424, 1, 0, 0x80, 31, 0, .woS, 0⟩,
   ⟨0x440, 16, 4, 0x80, 15, 0, .rw, 0⟩,
   ⟨0x440, 16, 4, 0x80, 31, 16, .rw, 0⟩]

/-- The HEP page. -/
def fieldsHep : List FieldRow :=
  [⟨0x100, 1, 0, 0x0, 31, 16, .rwl, 0xc8⟩,
   ⟨0x100, 1, 0, 0x0, 6, 4, .rwl, 3⟩,
   ⟨0x100, 1, 0, 0x0, 3, 3, .rwl, 0⟩,
   ⟨0x100, 1, 0, 0x0, 1, 0, .rwl, 3⟩,
   ⟨0x108, 1, 0, 0x0, 31, 0, .rwl, 0⟩,
   ⟨0x10C, 1, 0, 0x0, 15, 0, .rwl, 0⟩,
   ⟨0x110, 1, 0, 0x0, 31, 0, .rw, 0⟩,
   ⟨0x120, 1, 0, 0x0, 31, 0, .rw, 0⟩,
   ⟨0x124, 1, 0, 0x0, 31, 0, .rw, 0⟩,
   ⟨0x128, 1, 0, 0x0, 31, 0, .rw, 0⟩,
   ⟨0x12C, 1, 0, 0x0, 31, 0, .rw, 0⟩,
   ⟨0x130, 1, 0, 0x0, 31, 0, .rw, 0⟩,
   ⟨0x134, 1, 0, 0x0, 31, 0, .rw, 0⟩,
   ⟨0x144, 12, 4, 0x0, 31, 31, .rw, 0⟩,
   ⟨0x144, 12, 4, 0x0, 2, 0, .rw, 0⟩,
   ⟨0x1A0, 8, 4, 0x0, 31, 16, .rw, 0⟩]

/-- The RDMA page. -/
def fieldsRdma : List FieldRow :=
  [⟨0x100, 1, 0, 0x0, 9, 0, .rw, 0⟩,
   ⟨0x110, 1, 0, 0x0, 1, 0, .wo, 0⟩,
   ⟨0x120, 1, 0, 0x0, 31, 24, .rwl, 8⟩,
   ⟨0x120, 1, 0, 0x0, 23, 16, .rwl, 0x37⟩,
   ⟨0x120, 1, 0, 0x0, 15, 8, .rwl, 2⟩,
   ⟨0x120, 1, 0, 0x0, 7, 0, .rwl, 1⟩,
   ⟨0x124, 1, 0, 0x0, 31, 0, .rw, 0⟩,
   ⟨0x128, 1, 0, 0x0, 31, 0, .rw, 0⟩,
   ⟨0x12C, 1, 0, 0x0, 31, 0, .rw, 0⟩]

/-- The CORE page. -/
def fieldsCore : List FieldRow :=
  [⟨0x100, 1, 0, 0x0, 17, 0, .rwsH, 0⟩,
   ⟨0x104, 1, 0, 0x0, 17, 0, .rwsH, 0⟩,
   ⟨0x10C, 1, 0, 0x0, 31, 16, .rw, 0⟩]

/-- The PTRL page. -/
def fieldsPtrl : List FieldRow :=
  [⟨0x108, 1, 0, 0x0, 31, 16, .rw, 0⟩]

/-- The HLTH page. -/
def fieldsHlth : List FieldRow :=
  [⟨0x100, 1, 0, 0x0, 31, 16, .rwl, 0xe10⟩,
   ⟨0x100, 1, 0, 0x0, 15, 8, .rwl, 3⟩,
   ⟨0x100, 1, 0, 0x0, 7, 0, .rwl, 3⟩,
   ⟨0x104, 1, 0, 0x0, 25, 16, .wo, 0⟩,
   ⟨0x104, 1, 0, 0x0, 3, 0, .wo, 0⟩,
   ⟨0x108, 1, 0, 0x0, 4, 4, .w1c, 0⟩,
   ⟨0x108, 1, 0, 0x0, 3, 3, .w1c, 0⟩,
   ⟨0x108, 1, 0, 0x0, 2, 2, .w1c, 0⟩,
   ⟨0x108, 1, 0, 0x0, 1, 1, .w1c, 0⟩,
   ⟨0x108, 1, 0, 0x0, 0, 0, .w1c, 0⟩,
   ⟨0x10C, 1, 0, 0x0, 31, 16, .rwl, 0x12bd⟩,
   ⟨0x10C, 1, 0, 0x0, 15, 0, .rwl, 0x3e8⟩,
   ⟨0x110, 1, 0, 0x0, 31, 0, .rwl, 0⟩,
   ⟨0x114, 1, 0, 0x0, 31, 0, .rwl, 0⟩,
   ⟨0x118, 1, 0, 0x0, 31, 0, .rwl, 0⟩,
   ⟨0x11C, 1, 0, 0x0, 31, 0, .rwl, 0⟩]

/-- The SEC page. -/
def fieldsSec : List FieldRow :=
  [⟨0x104, 1, 0, 0x0, 2, 0, .wo, 0⟩,
   ⟨0x108, 1, 0, 0x0, 23, 0, .rw, 0⟩,
   ⟨0x110, 1, 0, 0x0, 3, 0, .rwl, 0xf⟩,
   ⟨0x114, 1, 0, 0x0, 3, 0, .w1c, 0⟩,
   ⟨0x140, 1, 0, 0x0, 15, 0, .rwl, 0x3e8⟩]

/-- The PST page. -/
def fieldsPst : List FieldRow :=
  [⟨0x100, 1, 0, 0x0, 31, 24, .rwl, 0x32⟩,
   ⟨0x100, 1, 0, 0x0, 23, 16, .rwl, 0x32⟩,
   ⟨0x100, 1, 0, 0x0, 11, 0, .rws, 0x7d0⟩,
   ⟨0x108, 1, 0, 0x0, 15, 8, .ro, 0x78⟩,
   ⟨0x108, 1, 0, 0x0, 7, 0, .ro, 0x60⟩,
   ⟨0x110, 16, 4, 0x0, 15, 0, .rwl, 0⟩,
   ⟨0x150, 1, 0, 0x0, 31, 16, .rwl, 0x28⟩,
   ⟨0x150, 1, 0, 0x0, 15, 0, .rwl, 0x5dc⟩,
   ⟨0x184, 1, 0, 0x0, 15, 8, .rwl, 0x64⟩]

/-- The CLK page. -/
def fieldsClk : List FieldRow :=
  [⟨0x100, 1, 0, 0x0, 7, 0, .rws, 0xff⟩,
   ⟨0x104, 1, 0, 0x0, 3, 3, .w1c, 0⟩]

/-- The EVR page. -/
def fieldsEvr : List FieldRow :=
  [⟨0x11C, 1, 0, 0x0, 31, 31, .rw, 0⟩,
   ⟨0x118, 1, 0, 0x0, 31, 0, .rw, 0⟩,
   ⟨0x11C, 1, 0, 0x0, 7, 0, .rw, 0⟩,
   ⟨0x148, 1, 0, 0x0, 15, 0, .wo, 0⟩,
   ⟨0x14C, 1, 0, 0x0, 31, 16, .rw, 0⟩,
   ⟨0x14C, 1, 0, 0x0, 15, 8, .ro, 0x20⟩]

/-- The CDE page. -/
def fieldsCde : List FieldRow :=
  [⟨0x100, 1, 0, 0x0, 31, 0, .rw, 0⟩,
   ⟨0x104, 1, 0, 0x0, 0, 0, .wo, 0⟩,
   ⟨0x10C, 1, 0, 0x0, 31, 0, .rw, 0⟩,
   ⟨0x110, 1, 0, 0x0, 31, 12, .rws, 0⟩,
   ⟨0x114, 1, 0, 0x0, 15, 0, .rws, 0⟩,
   ⟨0x118, 1, 0, 0x0, 31, 0, .rws, 0⟩,
   ⟨0x120, 1, 0, 0x0, 31, 0, .rw, 0⟩,
   ⟨0x144, 4, 8, 0x0, 31, 0, .rw, 0⟩,
   ⟨0x140, 4, 8, 0x0, 31, 0, .rw, 0⟩,
   ⟨0x180, 1, 0, 0x0, 31, 16, .rw, 0⟩,
   ⟨0x180, 1, 0, 0x0, 15, 0, .rw, 0⟩,
   ⟨0x188, 1, 0, 0x0, 31, 31, .rw, 0⟩,
   ⟨0x188, 1, 0, 0x0, 25, 16, .rw, 0⟩,
   ⟨0x188, 1, 0, 0x0, 7, 0, .rw, 0⟩]

/-- The block-specific fields of a page, by block type code. -/
def blockFields (type : Nat) : List FieldRow :=
  match type with
  | 0x0201 => fieldsAcon
  | 0x0202 => fieldsGuard
  | 0x0301 => fieldsCseq
  | 0x0302 => fieldsCmem
  | 0x0303 => fieldsVec
  | 0x0308 => fieldsGath
  | 0x0309 => fieldsSkeep
  | 0x0401 => fieldsMemc
  | 0x0402 => fieldsCgm
  | 0x0501 => fieldsXlat
  | 0x0502 => fieldsRpt
  | 0x0601 => fieldsMov
  | 0x0701 => fieldsAtp
  | 0x0702 => fieldsFrt
  | 0x0703 => fieldsXseq
  | 0x0801 => fieldsHep
  | 0x0802 => fieldsRdma
  | 0x0101 => fieldsCore
  | 0x0B02 => fieldsPtrl
  | 0x0B01 => fieldsHlth
  | 0x0902 => fieldsSec
  | 0x0A01 => fieldsPst
  | 0x0A02 => fieldsClk
  | 0x0C01 => fieldsEvr
  | 0x0C02 => fieldsCde
  | _ => []

/-! ### Offsets by register name -/

namespace Reg

def CMEM_BANK_PWR_REQ : Nat := 0x100
def CMEM_BANK_PWR_CUR : Nat := 0x108
def CMEM_BANK_BUSY : Nat := 0x110
def CMEM_BANK_WORLD : Nat := 0x114
def CMEM_RET_IDLE : Nat := 0x118
def CMEM_BANK_MAP : Nat := 0x120
def CMEM_ECC_CE : Nat := 0x140
def CMEM_ECC_UE : Nat := 0x144
def CMEM_ECC_LAST : Nat := 0x148
def CMEM_COLLIDE : Nat := 0x150
def CSEQ_CONFIG : Nat := 0x100
def CSEQ_ACTIVE : Nat := 0x104
def CSEQ_CTX_STATUS : Nat := 0x400
def CSEQ_CTX_STREAM_VA : Nat := 0x408
def CSEQ_CTX_PC : Nat := 0x410
def CSEQ_CTX_HALT_PC : Nat := 0x418
def CSEQ_CTX_HALT : Nat := 0x420
def CSEQ_CTX_HALT_INFO0 : Nat := 0x424
def CSEQ_CTX_HALT_INFO1 : Nat := 0x428
def CSEQ_CTX_TOKEN : Nat := 0x440
def GUARD_USE : Nat := 0x100
def GUARD_SLIP_NEW : Nat := 0x110
def GUARD_SLIP_OLD : Nat := 0x118
def GUARD_SLIP_CYCLE : Nat := 0x120
def VEC_LANE_RETIRE_LO : Nat := 0x100
def VEC_LANE_RETIRE_HI : Nat := 0x108
def VEC_CTX_FLAGS : Nat := 0x400
def VEC_CTX_ACC : Nat := 0x408
def GATH_OOB : Nat := 0x100
def GATH_POSTED : Nat := 0x104
def SKEEP_CONFIG : Nat := 0x100
def SKEEP_THRESH0 : Nat := 0x104
def SKEEP_THRESH1 : Nat := 0x108
def SKEEP_IMAGE_PA : Nat := 0x110
def SKEEP_CMD : Nat := 0x118
def SKEEP_COLD : Nat := 0x11C
def SKEEP_STALE : Nat := 0x120
def SKEEP_COLD_USE : Nat := 0x124
def SKEEP_SEL : Nat := 0x140
def SKEEP_ENTRY0_7 : Nat := 0x180
def SKEEP_ENTRY8_15 : Nat := 0x1C0
def MEMC_TOP : Nat := 0x100
def MEMC_MAP_STATE : Nat := 0x108
def MEMC_WAYMAP : Nat := 0x110
def MEMC_EVAC : Nat := 0x150
def MEMC_EVAC_PROGRESS : Nat := 0x158
def MEMC_EVAC_LOST : Nat := 0x160
def MEMC_EVAC_FIRST : Nat := 0x168
def MEMC_INFLIGHT : Nat := 0x170
def MEMC_CONFIG : Nat := 0x178
def CGM_STATE : Nat := 0x100
def CGM_FAIL : Nat := 0x104
def CGM_THRESH : Nat := 0x108
def CGM_MEMBER_ERR : Nat := 0x110
def CGM_UE : Nat := 0x140
def CGM_TRANSIENT : Nat := 0x144
def CGM_LAST : Nat := 0x148
def CGM_SCRUB : Nat := 0x150
def CGM_SCRUB_PASSES : Nat := 0x154
def XLAT_INVAL_VA : Nat := 0x100
def XLAT_INVAL_LEN : Nat := 0x108
def XLAT_INVAL_CMD : Nat := 0x10C
def XLAT_CTX_ROOT : Nat := 0x110
def XLAT_WALKERS : Nat := 0x150
def XLAT_FILL : Nat := 0x154
def RPT_DENIED : Nat := 0x100
def RPT_LAST : Nat := 0x108
def RPT_REGION : Nat := 0x800
def MOV_CONFIG : Nat := 0x100
def MOV_SSEL : Nat := 0x104
def MOV_SCMD : Nat := 0x108
def MOV_LOAD : Nat := 0x10C
def MOV_STREAM : Nat := 0x140
def ATP_CONFIG : Nat := 0x100
def ATP_STATUS : Nat := 0x104
def ATP_LANES_RX : Nat := 0x108
def ATP_LANES_TX : Nat := 0x10C
def ATP_LANE_THRESH : Nat := 0x110
def ATP_LANE_ERR : Nat := 0x114
def ATP_FEC_UNCORR : Nat := 0x130
def ATP_CRC_ERR : Nat := 0x134
def ATP_RETRIES : Nat := 0x138
def ATP_RETRAINS : Nat := 0x13C
def ATP_AUTH_FAIL : Nat := 0x140
def ATP_THROTTLE : Nat := 0x148
def ATP_KEY_CTRL : Nat := 0x180
def ATP_SALT_STANDBY : Nat := 0x184
def ATP_KEY_STANDBY : Nat := 0x1C0
def FRT_DEVID : Nat := 0x100
def FRT_CONFIG : Nat := 0x104
def FRT_THROTTLE : Nat := 0x108
def FRT_RSEL : Nat := 0x110
def FRT_ROUTE : Nat := 0x114
def FRT_PORTAL : Nat := 0x120
def FRT_TAGS : Nat := 0x140
def FRT_STALE : Nat := 0x144
def FRT_FENCE_DROP : Nat := 0x148
def FRT_DROP : Nat := 0x14C
def FRT_LAST_DROP : Nat := 0x150
def FRT_FENCE : Nat := 0x800
def XSEQ_CONFIG : Nat := 0x100
def XSEQ_DROP : Nat := 0x104
def XSEQ_LAST_DROP : Nat := 0x108
def XSEQ_WAIT : Nat := 0x110
def XSEQ_CTX_CTRL : Nat := 0x400
def XSEQ_CTX_CMD : Nat := 0x404
def XSEQ_CTX_STATUS : Nat := 0x408
def XSEQ_CTX_EPOCH_WORK : Nat := 0x40C
def XSEQ_CTX_SCHED_VA : Nat := 0x410
def XSEQ_CTX_PROGRESS : Nat := 0x418
def XSEQ_CTX_ORIGIN : Nat := 0x41C
def XSEQ_CTX_ROLLBACKS : Nat := 0x420
def XSEQ_CTX_SET_EPOCH : Nat := 0x424
def XSEQ_CTX_TOKEN : Nat := 0x440
def HEP_PORT_CONFIG : Nat := 0x100
def HEP_PORT_STATUS : Nat := 0x104
def HEP_MAC : Nat := 0x108
def HEP_IPV4 : Nat := 0x110
def HEP_IPV6 : Nat := 0x120
def HEP_RX_OTHER : Nat := 0x130
def HEP_RKEY : Nat := 0x134
def HEP_IRQ_BIND : Nat := 0x140
def HEP_CTX_BIND : Nat := 0x180
def HEP_CTX_QUEUE : Nat := 0x1A0
def RDMA_QSEL : Nat := 0x100
def RDMA_QP : Nat := 0x108
def RDMA_QP_CMD : Nat := 0x110
def RDMA_CC : Nat := 0x120
def RDMA_UNSUPPORTED : Nat := 0x124
def RDMA_CNP_SENT : Nat := 0x128
def RDMA_NAK_SENT : Nat := 0x12C
def CORE_ROW_MAP : Nat := 0x100
def CORE_COL_MAP : Nat := 0x104
def CORE_STATE : Nat := 0x108
def CORE_MISMATCH : Nat := 0x10C
def PTRL_STATUS : Nat := 0x100
def PTRL_OLDEST : Nat := 0x104
def PTRL_FAIL : Nat := 0x108
def HLTH_CONFIG : Nat := 0x100
def HLTH_CMD : Nat := 0x104
def HLTH_ALERT : Nat := 0x108
def HLTH_REPORT : Nat := 0x10C
def HLTH_DEST : Nat := 0x110
def SEC_LC : Nat := 0x100
def SEC_LC_CMD : Nat := 0x104
def SEC_LC_ARG : Nat := 0x108
def SEC_NONCE : Nat := 0x10C
def SEC_TAMPER_EN : Nat := 0x110
def SEC_TAMPER_STATUS : Nat := 0x114
def SEC_WIPE : Nat := 0x118
def SEC_BOOT : Nat := 0x11C
def SEC_SVN : Nat := 0x120
def SEC_LMS : Nat := 0x130
def SEC_SPDM_VENDOR : Nat := 0x138
def SEC_WDOG_CFG : Nat := 0x140
def PST_BUDGET : Nat := 0x100
def PST_STATUS : Nat := 0x104
def PST_FREQ : Nat := 0x108
def PST_PCLASS : Nat := 0x110
def PST_ENG : Nat := 0x150
def PST_GRANT : Nat := 0x160
def PST_MEASURED : Nat := 0x180
def PST_TJ : Nat := 0x184
def CLK_REF_SEL : Nat := 0x100
def CLK_STATUS : Nat := 0x104
def CLK_PLL : Nat := 0x108
def EVR_HEAD : Nat := 0x100
def EVR_TAIL : Nat := 0x108
def EVR_FTAIL : Nat := 0x110
def EVR_RSEL : Nat := 0x118
def EVR_REC : Nat := 0x120
def EVR_TIME : Nat := 0x140
def EVR_CLEAR : Nat := 0x148
def EVR_STATUS : Nat := 0x14C
def CDE_CONFIG : Nat := 0x100
def CDE_CMD : Nat := 0x104
def CDE_SNAP_SEQ : Nat := 0x108
def CDE_SKIPPED : Nat := 0x10C
def CDE_RING_PA : Nat := 0x110
def CDE_RING_SIZE : Nat := 0x118
def CDE_RING_WR : Nat := 0x11C
def CDE_RING_RD : Nat := 0x120
def CDE_RANGE : Nat := 0x140
def CDE_SAMPLE_CFG : Nat := 0x180
def CDE_SSEL : Nat := 0x188
def CDE_SAMPLE : Nat := 0x190
def ACON_GEOMETRY : Nat := 0x100
def ACON_ROW_BANDS : Nat := 0x104
def ACON_COL_BANDS : Nat := 0x108
def ACON_CONFIG : Nat := 0x10C
def ACON_TDT_BASE : Nat := 0x110
def ACON_ACTIVE : Nat := 0x118
def ACON_SUMMARY : Nat := 0x180
def ACON_CTX_CTRL : Nat := 0x400
def ACON_CTX_STATUS : Nat := 0x404
def ACON_CTX_CMD : Nat := 0x408
def ACON_CTX_TDT : Nat := 0x40C
def ACON_CTX_PROG_VA : Nat := 0x410
def ACON_CTX_SAVE_VA : Nat := 0x418
def ACON_CTX_REPLAY : Nat := 0x420
def ACON_CTX_EPOCH : Nat := 0x424
def ACON_CTX_HALT_PC : Nat := 0x428
def ACON_CTX_HALT : Nat := 0x430
def ACON_CTX_HALT_INFO0 : Nat := 0x434
def ACON_CTX_HALT_INFO1 : Nat := 0x438
def ACON_CTX_SEED : Nat := 0x440
def ACON_CTX_TOKEN : Nat := 0x480

end Reg

end Sys2Proof.Machine
end

