-- ==== Sys2Proof/Machine/Sparse.lean ====
section
/-! DEFINITION. Sparse tables (`Table α`): lists of key and value, keys strictly rising. Reading, replacing and
removing an entry, and the memory form, in which a byte equal to what an unlisted address reads as is not listed. -/

namespace Sys2Proof.Machine

/-- The entry of key `k`, if listed. -/
def tget? {α : Type} : Table α → Nat → Option α
  | [], _ => none
  | (j, v) :: t, k => if j = k then some v else tget? t k

/-- The entry of key `k`, or `d` where none is listed. -/
def tget {α : Type} (t : Table α) (d : α) (k : Nat) : α := (tget? t k).getD d

/-- Insert or replace the entry of key `k`. -/
def tput {α : Type} : Table α → Nat → α → Table α
  | [], k, v => [(k, v)]
  | (j, u) :: t, k, v =>
    if k < j then (k, v) :: (j, u) :: t
    else if k = j then (k, v) :: t
    else (j, u) :: tput t k v

/-- Remove the entry of key `k`. -/
def tdel {α : Type} : Table α → Nat → Table α
  | [], _ => []
  | (j, u) :: t, k => if j = k then t else (j, u) :: tdel t k

/-- Change the entry of key `k`, starting from `d` where none is listed. -/
def tmod {α : Type} (t : Table α) (d : α) (k : Nat) (f : α → α) : Table α := tput t k (f (tget t d k))

/-- Keys strictly rising, the first above `lo` (exclusive when `some`). -/
def tsortedFrom {α : Type} : Option Nat → Table α → Bool
  | _, [] => true
  | none, (j, _) :: t => tsortedFrom (some j) t
  | some i, (j, _) :: t => decide (i < j) && tsortedFrom (some j) t

/-- What a byte of memory that nothing has written reads as (log entry 4). -/
def unwritten : Byte := 0

/-- The byte of memory at an address. -/
def memGet (m : List (Nat × Byte)) (a : Nat) : Byte := tget m unwritten a

/-- Write one byte; the value an unlisted address reads as is not listed. -/
def memPut (m : List (Nat × Byte)) (a : Nat) (b : Byte) : List (Nat × Byte) :=
  if b = unwritten then tdel m a else tput m a b

/-- Write consecutive bytes from `a` upward. -/
def memPutBytes (m : List (Nat × Byte)) (a : Nat) : List Byte → List (Nat × Byte)
  | [] => m
  | b :: bs => memPutBytes (memPut m a b) (a + 1) bs

/-- `n` consecutive bytes from `a` upward. -/
def memGetBytes (m : List (Nat × Byte)) (a : Nat) : Nat → List Byte
  | 0 => []
  | n + 1 => memGet m a :: memGetBytes m (a + 1) n

/-- The canonical form of a memory: keys strictly rising and no entry equal to what an unlisted address reads as. -/
def Memory.wf (m : List (Nat × Byte)) : Bool :=
  tsortedFrom none m && m.all (fun e => decide (e.2 ≠ unwritten))

/-- Bytes as one number, the first byte least significant (R7). -/
def leNat : List Byte → Nat
  | [] => 0
  | b :: bs => b.toNat + 256 * leNat bs

/-- A number as `n` bytes, least significant first (R7). -/
def leBytes : Nat → Nat → List Byte
  | 0, _ => []
  | n + 1, v => BitVec.ofNat 8 v :: leBytes n (v / 256)

end Sys2Proof.Machine
end

