-- ==== Sys2Proof/Machine/Ops.lean ====
section
/-! DEFINITION. The named operations over register pages that every block shares: where pages lie (R36, R38), reading
and writing a register word, error records (R51), events (R471), interrupts (R50, R379), the queues to the host (R377)
and the performance counters (R482 to R485). -/

namespace Sys2Proof.Machine

/-! ### Pages -/

/-- A register page: block type code, instance, physical address (R38). -/
structure Page where
  type : Nat
  inst : Nat
  base : Nat
deriving DecidableEq, Repr

/-- First address of the cluster pages (R36). -/
def cluPages : Nat := 0x0200_0000_0000
/-- First address of the device-level pages (R36). -/
def devPages : Nat := 0x0201_0000_0000
/-- Address of cluster page `c` of cluster `n` (R38). -/
def cluPage (n c : Nat) : Nat := cluPages + n * 0x10000 + c * 0x1000
/-- Address of device page `p` (R38). -/
def devPage (p : Nat) : Nat := devPages + p * 0x1000

def pgCseq (n : Nat) : Page := ⟨0x0301, n, cluPage n 0⟩
def pgGuard (n : Nat) : Page := ⟨0x0202, n, cluPage n 1⟩
def pgCmem (n : Nat) : Page := ⟨0x0302, n, cluPage n 2⟩
def pgVec (n : Nat) : Page := ⟨0x0303, n, cluPage n 3⟩
def pgXpose (n : Nat) : Page := ⟨0x0304, n, cluPage n 4⟩
def pgRedu (n : Nat) : Page := ⟨0x0305, n, cluPage n 5⟩
def pgConv (n : Nat) : Page := ⟨0x0306, n, cluPage n 6⟩
def pgSfun (n : Nat) : Page := ⟨0x0307, n, cluPage n 7⟩
def pgGath (n : Nat) : Page := ⟨0x0308, n, cluPage n 8⟩
def pgPtrl (n : Nat) : Page := ⟨0x0B02, n, cluPage n 9⟩
def pgCore (n : Nat) : Page := ⟨0x0101, n, cluPage n 10⟩
def pgAcon : Page := ⟨0x0201, 0, devPage 0⟩
def pgSkeep (i : Nat) : Page := ⟨0x0309, i, devPage (0x008 + i)⟩
def pgMemc (i : Nat) : Page := ⟨0x0401, i, devPage (0x010 + i)⟩
def pgCgm (g : Nat) : Page := ⟨0x0402, g, devPage (0x020 + g)⟩
def pgXlat : Page := ⟨0x0501, 0, devPage 0x040⟩
def pgRpt : Page := ⟨0x0502, 0, devPage 0x041⟩
def pgMov (m : Nat) : Page := ⟨0x0601, m, devPage (0x080 + m)⟩
def pgAtp (p : Nat) : Page := ⟨0x0701, p, devPage (0x0C0 + p)⟩
def pgFrt (i : Nat) : Page := ⟨0x0702, i, devPage (0x0D0 + i)⟩
def pgXseq (i : Nat) : Page := ⟨0x0703, i, devPage (0x0D8 + i)⟩
def pgHep (i : Nat) : Page := ⟨0x0801, i, devPage (0x0E0 + i)⟩
def pgRdma (i : Nat) : Page := ⟨0x0802, i, devPage (0x0E8 + i)⟩
def pgMgc : Page := ⟨0x0901, 0, devPage 0x100⟩
def pgSec : Page := ⟨0x0902, 0, devPage 0x101⟩
def pgPst (i : Nat) : Page := ⟨0x0A01, i, devPage (0x108 + i)⟩
def pgClk (i : Nat) : Page := ⟨0x0A02, i, devPage (0x10C + i)⟩
def pgHlth : Page := ⟨0x0B01, 0, devPage 0x110⟩
def pgEvr : Page := ⟨0x0C01, 0, devPage 0x118⟩
def pgCde : Page := ⟨0x0C02, 0, devPage 0x119⟩

/-- The pages of a cluster by cluster page number (R38). -/
def cluPageNo (n c : Nat) : Option Page :=
  match c with
  | 0 => some (pgCseq n) | 1 => some (pgGuard n) | 2 => some (pgCmem n) | 3 => some (pgVec n)
  | 4 => some (pgXpose n) | 5 => some (pgRedu n) | 6 => some (pgConv n) | 7 => some (pgSfun n)
  | 8 => some (pgGath n) | 9 => some (pgPtrl n) | 10 => some (pgCore n)
  | _ => none

/-- The device-level pages by page number (R38). -/
def devPageNo (p : Nat) : Option Page :=
  if p = 0 then some pgAcon
  else if 0x008 ≤ p ∧ p ≤ 0x009 then some (pgSkeep (p - 0x008))
  else if 0x010 ≤ p ∧ p ≤ 0x011 then some (pgMemc (p - 0x010))
  else if 0x020 ≤ p ∧ p ≤ 0x03F then some (pgCgm (p - 0x020))
  else if p = 0x040 then some pgXlat
  else if p = 0x041 then some pgRpt
  else if 0x080 ≤ p ∧ p ≤ 0x0BF then some (pgMov (p - 0x080))
  else if 0x0C0 ≤ p ∧ p ≤ 0x0CF then some (pgAtp (p - 0x0C0))
  else if 0x0D0 ≤ p ∧ p ≤ 0x0D1 then some (pgFrt (p - 0x0D0))
  else if 0x0D8 ≤ p ∧ p ≤ 0x0D9 then some (pgXseq (p - 0x0D8))
  else if 0x0E0 ≤ p ∧ p ≤ 0x0E1 then some (pgHep (p - 0x0E0))
  else if 0x0E8 ≤ p ∧ p ≤ 0x0E9 then some (pgRdma (p - 0x0E8))
  else if p = 0x100 then some pgMgc
  else if p = 0x101 then some pgSec
  else if 0x108 ≤ p ∧ p ≤ 0x109 then some (pgPst (p - 0x108))
  else if 0x10C ≤ p ∧ p ≤ 0x10D then some (pgClk (p - 0x10C))
  else if p = 0x110 then some pgHlth
  else if p = 0x118 then some pgEvr
  else if p = 0x119 then some pgCde
  else none

/-- Whether an address lies in the ranges of register pages (R36). -/
def inPages (pa : Nat) : Bool :=
  (decide (cluPages ≤ pa) && decide (pa < cluPages + 0x400_0000)) ||
  (decide (devPages ≤ pa) && decide (pa < devPages + 0x20_0000))

/-- The page that holds an address, listed in R38; `none` for an unlisted page. -/
def pageAt (pa : Nat) : Option Page :=
  if cluPages ≤ pa ∧ pa < cluPages + 0x400_0000 then
    cluPageNo ((pa - cluPages) / 0x10000) ((pa - cluPages) % 0x10000 / 0x1000)
  else if devPages ≤ pa ∧ pa < devPages + 0x20_0000 then devPageNo ((pa - devPages) / 0x1000)
  else none

/-- Subsystem number of a page (R20, R38). -/
def Page.subsystem (p : Page) : Nat := p.type / 256

/-- Every page R38 places, device pages first, in ascending order. -/
def allPages : List Page :=
  (List.range 512).filterMap devPageNo ++
  (List.range 1024).flatMap (fun n => (List.range 16).filterMap (cluPageNo n))

/-! ### Header offsets (R49) -/

namespace Hdr
def ID : Nat := 0x000
def VERSION : Nat := 0x004
def CAPS : Nat := 0x008
def WORLD : Nat := 0x00C
def CTRL : Nat := 0x010
def STATE : Nat := 0x014
def IRQ_STATUS : Nat := 0x018
def IRQ_ENABLE : Nat := 0x01C
def ERR_CODE : Nat := 0x020
def ERR_INFO0 : Nat := 0x024
def ERR_INFO1 : Nat := 0x028
def LOCK : Nat := 0x02C
def POWER : Nat := 0x030
def CYCLE : Nat := 0x080
def CNT_CTRL : Nat := 0x088
def CNT : Nat := 0x090
def EVSEL : Nat := 0x0D0
def FILTER : Nat := 0x0F0
end Hdr

/-- Whether the device has FP64 (R1). -/
def hasFp64 (g : Grade) : Bool := g == .fgm9768
/-- Whether the clusters have GATH (R1). -/
def hasGath (g : Grade) : Bool := g == .fgm9768
/-- Atwin ports present (R1). -/
def atwinPorts (g : Grade) : Nat := if g = .fgm9768 then 16 else 12

/-- CAPS.BLOCK_CAPS of a page (R154, R166, R182, R183, R204, SKEEP, XLAT, MOV, ATP, XSEQ chapters). -/
def blockCaps (g : Grade) (type inst : Nat) : Nat :=
  match type with
  | 0x0201 => b2n (hasFp64 g)
  | 0x0202 => 256
  | 0x0301 => if hasGath g then 0x3F else 0x1F
  | 0x0302 => 34
  | 0x0303 => b2n (hasFp64 g)
  | 0x0309 => inst * 8192
  | 0x0501 => 0x7
  | 0x0601 => 256 * inst
  | 0x0701 => 1
  | 0x0703 => if inst = 1 ∧ g = .fgm7768 then 4 else 8
  | _ => 0

/-- Pages whose world is fixed (R47). -/
def fixedWorld (type : Nat) : Bool := type == 0x0901 || type == 0x0902 || type == 0x0C01

/-- Reset values that depend on an index and so have no row in the tables. -/
def indexedReset (type off : Nat) : Nat :=
  match type with
  | 0x0302 =>
    if 0x120 ≤ off ∧ off < 0x140 then
      let b := off - 0x120
      b + (b + 1) * 0x100 + (b + 2) * 0x10000 + (b + 3) * 0x1000000
    else 0
  | 0x0401 =>
    if 0x110 ≤ off ∧ off < 0x150 then
      let way (w : Nat) : Nat := w % 32 + (w / 32) * 32
      let w := off - 0x110
      way w + way (w + 1) * 0x100 + way (w + 2) * 0x10000 + way (w + 3) * 0x1000000
    else 0
  | 0x0A01 => if 0x110 ≤ off ∧ off < 0x150 then 300 * ((off - 0x110) / 4 + 1) else 0
  | _ => 0

/-- The offset at which the table's rows for a per-context register stand (the set of context 0). -/
def foldCtx (stride off : Nat) : Nat :=
  if stride ≠ 0 ∧ 0x400 ≤ off ∧ off < 0x400 + 8 * stride then 0x400 + (off - 0x400) % stride else off

/-- Whether a field row covers the word at `off`. -/
def FieldRow.covers (r : FieldRow) (off : Nat) : Bool :=
  let o := foldCtx r.ctx off
  decide (r.off ≤ o) && decide (o ≤ r.off + r.stride * (r.count - 1)) &&
  (r.off == o || (r.stride != 0 && (o - r.off) % r.stride == 0))

/-- The field rows of one word of a page (R49 header, then the block's own). -/
def fieldsAt (type off : Nat) : List FieldRow :=
  let r (o hi lo : Nat) (a : Access) (v : Nat) : FieldRow := ⟨o, 1, 0, 0, hi, lo, a, v⟩
  if off < 0x100 then
    match off with
    | 0x00C => [r off 0 0 .rws 1]
    | 0x010 => [r off 1 1 .wo 0, r off 0 0 .rw 0]
    | 0x018 => [r off 31 16 .w1c 0, r off 1 0 .w1c 0]
    | 0x01C => [r off 31 16 .rw 0, r off 1 0 .rw 0]
    | 0x020 => [r off 31 31 .wo 0]
    | 0x02C => [r off 0 0 .w1s 0]
    | 0x030 => [r off 1 0 .rwl 0]
    | 0x088 => [r off 23 16 .w1c 0, r off 15 8 .rw 0, r off 7 0 .rw 0]
    | 0x08C => [r off 2 2 .rw 0, r off 1 1 .wo 0, r off 0 0 .rw 0]
    | 0x0F0 => [r off 0 0 .rw 0]
    | 0x0F4 => [r off 31 0 .rw 0]
    | 0x0F8 => [r off 9 0 .rw 0]
    | _ =>
      if 0x090 ≤ off ∧ off < 0x0D0 then (if off % 8 = 0 then [r off 31 0 .rw 0] else [r off 15 0 .rw 0])
      else if 0x0D0 ≤ off ∧ off < 0x0F0 then [r off 25 24 .rw 0, r off 20 0 .rw 0]
      else []
  else (blockFields type).filter (fun f => f.covers off)

/-- IRQ_STATUS.BLOCK bits that a block defines; the others are reserved (each block's chapter). -/
def irqBlockMask (type : Nat) : Nat :=
  match type with
  | 0x0201 => 0xFFFF0000
  | 0x0301 => 0xFFFF0000
  | 0x0302 => 0x00070000
  | 0x0308 => 0x00010000
  | 0x0309 => 0x00070000
  | 0x0401 => 0x00070000
  | 0x0402 => 0x00010000
  | 0x0501 => 0x00010000
  | 0x0502 => 0x00010000
  | 0x0601 => 0x00070000
  | 0x0701 => 0x000F0000
  | 0x0702 => 0x00070000
  | 0x0703 => 0xFFFF0000
  | 0x0801 => 0x00030000
  | 0x0902 => 0x00030000
  | 0x0A01 => 0x00070000
  | 0x0A02 => 0x00030000
  | 0x0B01 => 0x00010000
  | 0x0C01 => 0x00030000
  | 0x0C02 => 0x00010000
  | _ => 0

/-- The reset value of a register word (R49, R54 and the register tables). -/
def resetWord (g : Grade) (pa : Nat) : Word :=
  match pageAt pa with
  | none => 0
  | some p =>
    let off := pa - p.base
    let v :=
      match off with
      | 0x000 => p.type * 65536 + p.inst
      | 0x004 => 0x01000001
      | 0x008 => blockCaps g p.type p.inst * 65536 + (if fixedWorld p.type then 4 else 0) + 1
      | 0x00C => if p.type = 0x0C01 then 0 else 1
      | _ =>
        if off < 0x100 then 0
        else indexedReset p.type off +
          ((blockFields p.type).filter (fun f => f.covers off)).foldl (fun a f => a + f.reset <<< f.lo) 0
    BitVec.ofNat 32 v

/-! ### Reading and writing register words -/

/-- The stored word of a register. -/
def regGet (s : State) (a : Nat) : Word := tget s.regs (resetWord s.fuses.grade a) a

/-- Store a register word. -/
def regSet (a : Nat) (w : Word) (s : State) : State := { s with regs := tput s.regs a w }

/-- Field [hi:lo] of a register. -/
def rf (s : State) (a hi lo : Nat) : Nat := fld (regGet s a) hi lo

/-- Set field [hi:lo] of a register. -/
def rfSet (a hi lo x : Nat) (s : State) : State := regSet a (setFld (regGet s a) hi lo x) s

/-- A 64-bit register. -/
def reg64 (s : State) (a : Nat) : Nat := (regGet s a).toNat + (regGet s (a + 4)).toNat * 2 ^ 32

/-- Set a 64-bit register. -/
def reg64Set (a v : Nat) (s : State) : State :=
  regSet (a + 4) (BitVec.ofNat 32 (v >>> 32)) (regSet a (BitVec.ofNat 32 v) s)

/-- Add to a saturating count field. -/
def rfAdd (a hi lo n : Nat) (s : State) : State :=
  rfSet a hi lo (satAdd (hi + 1 - lo) (rf s a hi lo) n) s

/-- A 16-bit counter of an array of counters two to a word, counter g at byte offset 2 × g. -/
def half (s : State) (a g : Nat) : Nat :=
  rf s (a + g / 2 * 4) (if g % 2 = 0 then 15 else 31) (if g % 2 = 0 then 0 else 16)

/-- Set such a counter. -/
def halfSet (a g v : Nat) (s : State) : State :=
  rfSet (a + g / 2 * 4) (if g % 2 = 0 then 15 else 31) (if g % 2 = 0 then 0 else 16) v s

/-- Byte b of an array of bytes held four to a word. -/
def byteReg (s : State) (a b : Nat) : Nat := rf s (a + b / 4 * 4) (b % 4 * 8 + 7) (b % 4 * 8)

/-- Set such a byte. -/
def byteRegSet (a b v : Nat) (s : State) : State := rfSet (a + b / 4 * 4) (b % 4 * 8 + 7) (b % 4 * 8) v s

/-- WORLD.S of a page. -/
def pageWorld (s : State) (p : Page) : Bool := rf s (p.base + Hdr.WORLD) 0 0 == 1

/-- STATE of a page: 0 OFF, 1 STARTING, 2 ON, 3 STOPPING. -/
def pageState (s : State) (p : Page) : Nat := rf s (p.base + Hdr.STATE) 1 0

/-- A page's STATE reads ON. -/
def isOn (s : State) (p : Page) : Bool := pageState s p == 2

/-- LOCK of a page (R48). -/
def locked (s : State) (p : Page) : Bool := rf s (p.base + Hdr.LOCK) 0 0 == 1

/-- CAPS.RETIRED of a page (R41). -/
def retired (s : State) (p : Page) : Bool := rf s (p.base + Hdr.CAPS) 1 1 == 1

/-! ### Events -/

/-- SOURCE of a page's records (R471). -/
def Page.source (p : Page) : Nat := p.type % 16 * 4096 + p.inst % 4096

/-- Send an event of a page to the Event Recorder (R471): event number `ev` of the page's subsystem. -/
def emit (p : Page) (ev payload : Nat) (s : State) : State :=
  { s with evq := s.evq ++ [{ source := p.source, code := p.subsystem * 256 + ev % 256, world := pageWorld s p
                              payload := payload % 2 ^ 64 }] }

/-- What the device sends to the outside. -/
def output (o : Sent) (s : State) : State := { s with sent := s.sent ++ [o] }

/-! ### The queues to the host (R377 to R380) -/

/-- HEP_CTXc_QUEUE, held at instance 0. -/
def queueReg (c : Nat) : Nat := (pgHep 0).base + Reg.HEP_CTX_QUEUE + 4 * c
/-- HEP_CTXc_BIND, held at instance 0. -/
def bindReg (c : Nat) : Nat := (pgHep 0).base + Reg.HEP_CTX_BIND + 4 * c

/-- An empty queue. -/
def HostQueue.empty : HostQueue := ⟨[], 0, false⟩

/-- An unused queue pair. -/
def Qp.unused : Qp := ⟨.reset, 0, false, 0, 0, 0, 1024, 64, 0, none, []⟩

/-- A queue pair of the device, by QPN − 0x400. -/
def qp (s : State) (q : Nat) : Qp := tget s.qps Qp.unused q

/-- Change a queue pair. -/
def qpMod (q : Nat) (f : Qp → Qp) (s : State) : State := { s with qps := tput s.qps q (f (qp s q)) }

/-- PSNs count modulo 2^24. -/
def psnAdd (a n : Nat) : Nat := (a + n) % 2 ^ 24

/-- Packets of a SEND of `len` bytes. -/
def Qp.packets (x : Qp) (len : Nat) : Nat := max 1 (ceilDiv len x.mtu)

/-- The port holds back its RoCEv2 packets: the priority that PFC_PRIO names is paused (R362). -/
def portPaused (s : State) (e : Nat) : Bool :=
  s.paused.contains (e, rf s ((pgHep e).base + Reg.HEP_PORT_CONFIG) 6 4)

/-- A port sends, or holds back, a RoCEv2 packet or message. -/
def portSend (e : Nat) (o : Sent) (s : State) : State :=
  if portPaused s e then { s with heldTx := s.heldTx ++ [(e, o)] } else output o s

/-- The 16-byte header of a message from the device, then its body (R369). -/
def msgBytes (type ctx status reqId seq : Nat) (body : List Byte) : List Byte :=
  leBytes 1 type ++ leBytes 1 1 ++ leBytes 1 ctx ++ leBytes 1 status ++ leBytes 4 reqId ++ leBytes 4 body.length ++
    leBytes 4 seq ++ body

/-- A message from the device on a queue pair. -/
def hostMessage (q type ctx status reqId seq : Nat) (body : List Byte) : Sent :=
  .hostMsg q (msgBytes type ctx status reqId seq body)

/-- A SEND of `len` bytes on a queue pair that is ready to send: it takes the next PSNs and stays unacknowledged (R368). A QP
in any other state sends nothing. -/
def sendOn (q len : Nat) (o : Sent) (s : State) : State :=
  let x := qp s q
  if x.state ≠ .rts then s
  else
    let n := x.packets len
    portSend x.port o (qpMod q (fun x => { x with
      psn := psnAdd x.psn n, unacked := x.unacked ++ [(x.psn, psnAdd x.psn (n - 1), o)] }) s)

/-- The bound control QP of a context while it is ready to send (R380). -/
def controlQp (s : State) (c : Nat) : Option Nat :=
  if rf s (bindReg c) 31 31 = 1 then
    let q := rf s (bindReg c) 9 0
    if (qp s q).state = .rts then some q else none
  else none

/-- Send every message of a context's queue that has not been sent on its control QP (R377, R380). The first message
after a drop carries LOST. -/
def flushQueue (c : Nat) (s : State) : State :=
  match controlQp s c with
  | none => s
  | some q =>
    let hq := tget s.queues HostQueue.empty c
    let fresh := hq.msgs.filter (fun m => m.sentOn != some q)
    fresh.foldl (fun s m =>
      let hq := tget s.queues HostQueue.empty c
      let len := 16 + m.body.length
      let x := qp s q
      let last := psnAdd x.psn (x.packets len - 1)
      let mark (y : QMsg) : QMsg := if y.seq = m.seq then { y with sentOn := some q, psn := last } else y
      sendOn q len (hostMessage q m.type (c + 128 * b2n hq.lostFlag) 0 0 m.seq m.body)
        { s with queues := tput s.queues c { hq with msgs := hq.msgs.map mark, lostFlag := false } }) s

/-- A context's world (ACON_CTXc_CTRL.WORLD): true is secure. -/
def ctxSecure (s : State) (c : Nat) : Bool := rf s (pgAcon.base + Reg.ACON_CTX_CTRL + c * 0x100) 8 8 == 1

/-- Queue a COMPLETION (0x81) or FAULT (0x82) of a context (R377). A full queue drops the cause, counts it in LOST and
records event 0x0823; `kind` is the record TYPE or the completion KIND for that event. A secure context's queue is
served inside the device and its messages go to the Management Controller (R416). -/
def postQueue (c type kind : Nat) (body : List Byte) (s : State) : State :=
  let hq := tget s.queues HostQueue.empty c
  if ctxSecure s c then output (.mgcQueue c type body) s
  else if hq.msgs.length ≥ 256 then
    let s := rfAdd (queueReg c) 31 16 1 s
    let s := { s with queues := tput s.queues c { hq with lostFlag := true } }
    emit (pgHep 0) 0x23 (c + type <<< 8 + kind <<< 16 + rf s (queueReg c) 31 16 <<< 32) s
  else
    let hq' := { hq with msgs := hq.msgs ++ [⟨hq.next, type, body, none, 0⟩], next := (hq.next + 1) % 2 ^ 32 }
    flushQueue c { s with queues := tput s.queues c hq' }

/-- A 64-byte FAULT record (R378) from its value as a number. -/
def postFault (c type value : Nat) (s : State) : State := postQueue c 0x82 type (leBytes 64 (type + value)) s

/-! ### Interrupts (R50, R379) -/

/-- The context that an interrupt bit of a page goes to (R379): per-context bits of ACON, CSEQ and XSEQ name theirs;
every other bit goes to the binding of the page's subsystem, or to context 0. -/
def irqCtx (s : State) (p : Page) (bit : Nat) : Nat :=
  if (p.type = 0x0201 ∨ p.type = 0x0301 ∨ p.type = 0x0703) ∧ 16 ≤ bit then bit % 8
  else
    let a := (pgHep 0).base + Reg.HEP_IRQ_BIND + 4 * p.subsystem
    if rf s a 31 31 = 1 then rf s a 2 0 else 0

/-- Deliver a page's interrupt for the bits in `bits`, which have just become set and enabled. -/
def deliverIrq (p : Page) (bits : Nat) (s : State) : State :=
  if bits = 0 then s
  else
    let s := { s with irqSent := tput s.irqSent p.base (tget s.irqSent 0 p.base ||| bits) }
    let st := rf s (p.base + Hdr.IRQ_STATUS) 31 0 &&& rf s (p.base + Hdr.IRQ_ENABLE) 31 0
    if pageWorld s p then output (.mgcInterrupt p.base st) s
    else
      let rec16 := st <<< 32 + p.base <<< 64 + rf s (p.base + Hdr.ERR_CODE) 31 0 <<< 128 +
        rf s (p.base + Hdr.ERR_INFO0) 31 0 <<< 160 + rf s (p.base + Hdr.ERR_INFO1) 31 0 <<< 192
      ((bitsOf 32 bits).map (irqCtx s p)).eraseDups.foldl (fun s c => postFault c 0x0001 rec16 s) s

/-- Set IRQ_STATUS bits; bits that were clear and are enabled request the interrupt. -/
def setIrq (p : Page) (mask : Nat) (s : State) : State :=
  let a := p.base + Hdr.IRQ_STATUS
  let old := rf s a 31 0
  let fresh := mask - (mask &&& old)
  deliverIrq p (fresh &&& rf s (p.base + Hdr.IRQ_ENABLE) 31 0) (regSet a (BitVec.ofNat 32 (old ||| mask)) s)

/-! ### Performance counters (R482 to R485) -/

/-- The attributes an occurrence carries (R484, R485); `none` where it does not carry one. -/
structure Attrs where
  world   : Option Bool := none
  master  : Option Nat := none
  addr    : Option Nat := none
  classes : List Nat := []        -- bit numbers of CLASS_MASK
deriving DecidableEq, Repr

/-- Whether an occurrence passes the filters that an EVSEL word enables. -/
def passes (s : State) (p : Page) (sel : Nat) (x : Attrs) : Bool :=
  let w0 := rf s (p.base + Hdr.FILTER) 0 0
  let m := rf s (p.base + Hdr.FILTER + 4) 31 0
  let cm := rf s (p.base + Hdr.FILTER + 8) 9 0
  let rng := nfld sel 25 24
  let base := regGet s (pgCde.base + Reg.CDE_RANGE + 8 * rng)
  let limit := regGet s (pgCde.base + Reg.CDE_RANGE + 8 * rng + 4)
  (!nbit sel 17 || x.world == some (w0 == 1)) &&
  (!nbit sel 18 || (match x.master with
    | some i => (i ^^^ (m % 65536)) &&& (m / 65536) == 0
    | none => false)) &&
  (!nbit sel 19 || (match x.addr with
    | some a => decide (base.toNat ≤ a / 65536) && decide (a / 65536 ≤ limit.toNat)
    | none => false)) &&
  (!nbit sel 20 || (x.classes != [] && x.classes.all (fun b => nbit cm b)))

/-- Add `n` to counter `i` of a page and carry the wrap along a chain (R482). -/
def cntAdd (p : Page) (n : Nat) : Nat → Nat → State → State
  | 0, _, s => s
  | fuel + 1, i, s =>
    let a := p.base + Hdr.CNT + 8 * i
    let v := reg64 s a % 2 ^ 48 + n
    let s := reg64Set a (v % 2 ^ 48) s
    if v < 2 ^ 48 then s
    else
      let ctl := p.base + Hdr.CNT_CTRL
      let chain := i < 7 && nbit (rf s ctl 15 8) i
      let s := rfSet ctl (16 + i) (16 + i) 1 s
      if chain && nbit (rf s ctl 7 0) (i + 1) then cntAdd p 1 fuel (i + 1) s else s

/-- An event of a page occurs `n` times in a cycle: every counter that selects it and whose filters pass counts. -/
def tally (p : Page) (ev n : Nat) (x : Attrs) (s : State) : State :=
  let en := rf s (p.base + Hdr.CNT_CTRL) 7 0
  if en = 0 ∨ n = 0 ∨ rf s (p.base + Hdr.CNT_CTRL + 4) 0 0 = 1 then s
  else
    (List.range 8).foldl (fun s i =>
      let sel := rf s (p.base + Hdr.EVSEL + 4 * i) 31 0
      let chained := 0 < i && nbit (rf s (p.base + Hdr.CNT_CTRL) 15 8) (i - 1)
      if nbit en i && !chained && nfld sel 15 0 == ev && passes s p sel x then
        cntAdd p (if nbit sel 16 then 1 else n) 8 i s
      else s) s

/-- Cluster and master IDs of R485. -/
def masterId (kind inst : Nat) : Nat := kind * 4096 + inst % 4096

/-! ### Error records (R51) -/

/-- Record one error of a page: the first after a clear sets REASON and INFO; COUNT rises, saturating; IRQ_STATUS.ERR
is set whenever COUNT increments. -/
def recordError (p : Page) (reason info0 info1 : Nat) (s : State) : State :=
  let a := p.base + Hdr.ERR_CODE
  let cnt := rf s a 15 8
  let s1 := if cnt = 0 then
      regSet (p.base + Hdr.ERR_INFO1) (BitVec.ofNat 32 info1)
        (regSet (p.base + Hdr.ERR_INFO0) (BitVec.ofNat 32 info0) (rfSet a 7 0 reason s))
    else s
  if cnt = 255 then s1
  else tally p 0x0003 1 {} (setIrq p 1 (rfSet a 15 8 (cnt + 1) s1))

/-- Two errors in one cycle: REASON takes the lower code and COUNT rises by two (R51). -/
def recordErrors2 (p : Page) (r1 r2 : Nat) (s : State) : State :=
  recordError p (max r1 r2) 0 0 (recordError p (min r1 r2) 0 0 s)

/-! ### Clocks -/

/-- Cycles of a page's own clock domain since device reset (R8): the array in ACLK, cluster blocks in ECLK, memory in
MCLK, the host attachment in HCLK, network blocks in NCLK, management blocks in SCLK (log entry 7). -/
def domainCount (s : State) (type : Nat) : Nat :=
  match type with
  | 0x0101 => s.clk.aclk
  | 0x0201 => s.clk.aclk
  | 0x0B02 => s.clk.aclk
  | 0x0401 => s.clk.mclk3 / 3
  | 0x0402 => s.clk.mclk3 / 3
  | 0x0801 => s.clk.hclk
  | 0x0802 => s.clk.hclk
  | _ =>
    if type / 256 = 2 ∨ (type / 256 = 3 ∧ type ≠ 0x0309) then s.clk.eclk
    else if 4 ≤ type / 256 ∧ type / 256 ≤ 7 ∨ type = 0x0309 then s.clk.nclk
    else s.clk.sclk

/-- Events that hold for whole cycles add their count in every cycle; an EDGE counter, which counts only their beginnings,
adds nothing here (R483; log entry 69). -/
def tallyHeld (p : Page) (ev n : Nat) (x : Attrs) (s : State) : State :=
  let en := rf s (p.base + Hdr.CNT_CTRL) 7 0
  if en = 0 ∨ n = 0 ∨ rf s (p.base + Hdr.CNT_CTRL + 4) 0 0 = 1 then s
  else
    (List.range 8).foldl (fun s i =>
      let sel := rf s (p.base + Hdr.EVSEL + 4 * i) 31 0
      let chained := 0 < i && nbit (rf s (p.base + Hdr.CNT_CTRL) 15 8) (i - 1)
      if nbit en i && !chained && nfld sel 15 0 == ev && !nbit sel 16 && passes s p sel x then cntAdd p n 8 i s else s) s

/-- The pages whose CNT_CTRL has been written: no other page counts (R482). -/
def countingPages (s : State) : List Page :=
  s.regs.filterMap (fun e => if e.1 % 4096 = Hdr.CNT_CTRL then pageAt e.1 else none)

/-- Events 0x0001 and 0x0002 of one page over `n` cycles of its clock (R484). -/
def countCycles (n : Nat) (p : Page) (s : State) : State :=
  let s := tallyHeld p 0x0001 n {} s
  if isOn s p then tallyHeld p 0x0002 n {} s else s

/-- Move the clocks: every page whose clock runs counts the cycles of its domain (R483, R484). -/
def clocksTo (k : Clocks) (s : State) : State :=
  let t := { s with clk := k }
  (countingPages s).foldl (fun t p =>
    if (tget? s.cycStop p.base).isSome then t else countCycles (domainCount { s with clk := k } p.type - domainCount s p.type) p t) t

/-- Move ACLK forward. -/
def aclkTo (t : Nat) (s : State) : State := clocksTo { s.clk with aclk := max s.clk.aclk t } s

/-- Move ECLK forward. -/
def eclkTo (t : Nat) (s : State) : State := clocksTo { s.clk with eclk := max s.clk.eclk t } s

/-- CYCLE of a page (R49): it stops in RETAIN and GATED. -/
def pageCycle (s : State) (p : Page) : Nat :=
  (match tget? s.cycStop p.base with
   | some c => c
   | none => domainCount s p.type) - tget s.cycOff 0 p.base

/-! ### Power states and STATE of a page (R49, R52) -/

/-- PSTATE and PSTATE_REQ. -/
def pstate (s : State) (p : Page) : Nat := rf s (p.base + Hdr.POWER) 9 8
def pstateWanted (s : State) (p : Page) : Nat := rf s (p.base + Hdr.POWER) 1 0

/-- The clock of a page stops, or runs again (R49, CYCLE). -/
def clockStop (p : Page) (s : State) : State := { s with cycStop := tput s.cycStop p.base (domainCount s p.type) }
def clockRun (p : Page) (s : State) : State :=
  match tget? s.cycStop p.base with
  | none => s
  | some t =>
    { s with cycStop := tdel s.cycStop p.base
             cycOff := tput s.cycOff p.base (tget s.cycOff 0 p.base + (domainCount s p.type - t)) }

/-- STATE.STATE, RESTART_PENDING and CTRL.ENABLE. -/
def stateSet (p : Page) (v : Nat) (s : State) : State := rfSet (p.base + Hdr.STATE) 1 0 v s
def pendingSet (p : Page) (v : Bool) (s : State) : State := rfSet (p.base + Hdr.STATE) 4 4 (b2n v) s

/-- STATE becomes OFF or ON: STATE_CHANGE. -/
def stateReached (p : Page) (v : Nat) (s : State) : State := setIrq p 2 (stateSet p v s)

/-- A block reaches OFF: STATE_CHANGE, and the power state that it was asked for (R49, POWER). -/
def reachOff (p : Page) (s : State) : State :=
  let s := stateReached p 0 (pendingSet p false s)
  let v := pstateWanted s p
  if v = 0 ∨ v = pstate s p then s
  else rfSet (p.base + Hdr.POWER) 9 8 v (if pstate s p = 0 then clockStop p s else s)

/-- Milliseconds of idle steps: the model's own measure of an interval that no register counts (log entry 2). -/
def msNow (s : State) : Nat := s.clk.ticks / 12500

/-- Draw a free value: a number the spec leaves open (log entry 5). -/
def draw (s : State) : Nat × State := (Config.freeValue s.draws, { s with draws := s.draws + 1 })

/-- Payload fields packed from bit 0 upward in the order listed (R471), each a width and a value. -/
def pack : List (Nat × Nat) → Nat
  | [] => 0
  | (w, v) :: r => v % 2 ^ w + pack r <<< w

/-- An event whose chapter lists its payload fields without bit positions (R471). -/
def emitFields (p : Page) (ev : Nat) (fields : List (Nat × Nat)) (s : State) : State := emit p ev (pack fields) s

/-- An event for which no chapter lists a payload field: the payload is 0 (R471; log entry 50). -/
def emitBare (p : Page) (ev : Nat) (s : State) : State := emit p ev 0 s

/-- An event whose PAYLOAD names a field that no chapter encodes: it is a free value (log entry 5). -/
def emitOpen (p : Page) (ev : Nat) (s : State) : State :=
  let (v, s) := draw s
  emit p ev v s

end Sys2Proof.Machine
end

