-- ==== Sys2Proof/Machine/Lines.lean ====
section
/-! DEFINITION. The lines of main memory (R247 to R258): packages and channels, ways and groups, the check symbols, failed members
and erasure mode, and what MEMC does with each line that it reads or writes; with the failure maps, the health windows and the
colour changes that these need (R400, R408, R410). -/

namespace Sys2Proof.Machine

/-! ### Failure maps, health windows and colours -/

/-- Change the failure maps in flash. -/
def mapsMod (f : FailureMaps → FailureMaps) (s : State) : State := { s with flash := { s.flash with maps := f s.flash.maps } }

/-- The number of the half-open window of `w` milliseconds that OP_MS lies in (R408). -/
def healthWindow (s : State) (w : Nat) : Nat := s.evr.opMs / max 1 w

/-- Set an HLTH_ALERT bit; the page's ALERT interrupt follows (R412, R413). -/
def alert (bitNo : Nat) (s : State) : State :=
  setIrq pgHlth 0x10000 (rfSet (pgHlth.base + Reg.HLTH_ALERT) bitNo bitNo 1 s)

/-- The state value of a colour code of R410 on the PLDM sensors: 1 Green, 2 Amber, 3 Red, 4 Grey (R411). -/
def pldmColour (c : Nat) : Nat := lget [1, 2, 2, 3, 4] c 4

/-- The worst colour of a unit kind as its state sensor shows it (R411). -/
def worstColour (s : State) (kind : Nat) : Nat :=
  (s.colours.filter (fun e => e.1 / 65536 == kind)).foldl (fun v e => max v (pldmColour e.2)) 1

/-- A unit of kind `kind` (R410) changes colour, by the event of CODE `code`: event 0x0B03, the alert, and a change entry for
the next health datagram. -/
def colourChange (kind inst old new code : Nat) (s : State) : State :=
  if old = new then s
  else
    let s := emitFields pgHlth 0x03 [(8, kind), (16, inst), (8, old), (8, new)] (alert 0 s)
    let was := worstColour s kind
    let s := { s with
      changes := s.changes ++ [[kind, new, old, inst, s.evr.opMs, code]]
      colours := if new = 0 then tdel s.colours (kind * 65536 + inst) else tput s.colours (kind * 65536 + inst) new }
    if worstColour s kind = was then s else output (.pldmEvent kind (worstColour s kind)) s

/-! ### Lines, ways and groups (R249 to R253) -/

/-- MEMC_TOP (instance 0; both are kept alike, R267). -/
def memTop (s : State) : Nat := reg64 s ((pgMemc 0).base + Reg.MEMC_TOP) % 2 ^ 48

/-- Way of line number L (R251). -/
def wayOf (l : Nat) : Nat := nfld l 5 0 ^^^ nfld l 11 6 ^^^ nfld l 17 12 ^^^ nfld l 23 18

/-- Line number of index j of a way (R251). -/
def lineAt (way j : Nat) : Nat := j * 64 + (way ^^^ nfld j 5 0 ^^^ nfld j 11 6 ^^^ nfld j 17 12)

/-- MEMC_WAYMAP byte of a way. -/
def wayMap (s : State) (w : Nat) : Nat := byteReg s ((pgMemc 0).base + Reg.MEMC_WAYMAP) w

/-- MEMC_MAP_STATE.RETIRED. -/
def retiredGroups (s : State) : Nat := rf s ((pgMemc 0).base + Reg.MEMC_MAP_STATE) 3 0

/-- Lines that each way holds after r retirements (R253). -/
def linesPerWay (r : Nat) : Nat := (32 - r) * 1572864

/-- Orphan ways in ascending number (R253). -/
def orphanWays (s : State) : List Nat := (List.range 64).filter (fun w => nbit (wayMap s w) 7)

/-- Surviving groups in ascending number. -/
def survivors (s : State) : List Nat :=
  let gone := (orphanWays s).map (fun w => nfld (wayMap s w) 4 0)
  (List.range 32).filter (fun g => !gone.contains g)

/-- Where spill index k lies: group, half and line in the half (R253). -/
def spillPlace (s : State) (k : Nat) : Nat × Nat × Nat :=
  let sv := survivors s
  let n := max 1 sv.length
  let h := k % (2 * n)
  (lget sv (h % n) 0, h / n, linesPerWay (retiredGroups s) + k / (2 * n))

/-- Spill index of line j of an orphan way. -/
def spillIndex (s : State) (way j : Nat) : Nat :=
  ((orphanWays s).findIdx (· == way)) * linesPerWay (retiredGroups s) + j

/-- Lines copied by the evacuation under way (R260). -/
def evacDone (s : State) : Nat := reg64 s ((pgMemc 0).base + Reg.MEMC_EVAC_PROGRESS)

/-- An evacuation is running. -/
def evacBusy (s : State) : Bool := rf s ((pgMemc 0).base + Reg.MEMC_EVAC) 31 31 == 1

/-- Lines of half a group, and of a group (R252). -/
def halfLines : Nat := 50331648
def groupLines : Nat := 2 * halfLines

/-- The group and the group line that hold a physical address of main memory now (R252, R253, R261). -/
def lineHome (s : State) (pa : Nat) : Nat × Nat :=
  let l := pa / 256
  let w := wayOf l
  let m := wayMap s w
  let own := (nfld m 4 0, nfld m 5 5 * halfLines + l / 64)
  if nbit m 7 then
    let k := spillIndex s w (l / 64)
    if evacBusy s && decide (evacDone s ≤ k) then own
    else
      let x := spillPlace s k
      (x.1, x.2.1 * halfLines + x.2.2)
  else own

/-- Group that serves a physical address now. -/
def groupOf (s : State) (pa : Nat) : Nat := (lineHome s pa).1

/-- MEMC instance of a group (R18, R247). -/
def memcOf (g : Nat) : Page := pgMemc (g / 16)

/-! ### Packages and channels (R247, R248, R252) -/

/-- The package of member c of group g (R248). -/
def memberPackage (g c : Nat) : Nat := if g < 16 then (g + 2 * c) % 18 else 18 + (g - 16 + 2 * c) % 18

/-- The groups that a package serves, in ascending order (R248). -/
def packageGroups (p : Nat) : List Nat := (List.range 32).filter (fun g => (List.range 9).any (fun c => memberPackage g c == p))

/-- The channel of its package that serves member c of group g (R248). -/
def memberChannel (g c : Nat) : Nat := (packageGroups (memberPackage g c)).findIdx (· == g)

/-- The member of group g that a package holds (R248). -/
def packageMember (p g : Nat) : Nat := (List.range 9).findIdx (fun c => memberPackage g c == p)

/-- The channel byte address of group line n: every chunk of a line lies at the same one (R249, R252). -/
def channelAddress (n : Nat) : Nat := 32 * n

/-- Where member c of its group stores its chunk of the line at a physical address: package, channel, channel byte address. -/
def chunkPlace (s : State) (pa c : Nat) : Nat × Nat × Nat :=
  let h := lineHome s pa
  (memberPackage h.1 c, memberChannel h.1 c, channelAddress h.2)

/-- The refresh rate of a member's channel: what its package last reported (R264). -/
def memberRate (s : State) (g c : Nat) : Nat := tget s.mr4 0 (memberPackage g c)

/-! ### Groups -/

/-- CGM_STATE of a group. -/
def cgmState (g : Nat) : Nat := (pgCgm g).base + Reg.CGM_STATE

/-- COLOUR of a group: 0 Green, 1 Amber, 2 Red, 3 Grey. -/
def groupColour (s : State) (g : Nat) : Nat := rf s (cgmState g) 1 0

/-- The erased member, or 15. -/
def erased (s : State) (g : Nat) : Nat := rf s (cgmState g) 15 12

/-- The second member, or 15. -/
def second (s : State) (g : Nat) : Nat := rf s (cgmState g) 19 16

/-- A member is FAILED. -/
def memberFailed (s : State) (g m : Nat) : Bool := s.flash.maps.members.contains (g, m)

/-- Groups that are Red or Grey. -/
def lostGroups (s : State) : Nat := ((List.range 32).filter (fun g => decide (2 ≤ groupColour s g))).length

/-- Set IRQ_STATUS bits of MEMC: both instances show the same values (R267). -/
def memcIrq (mask : Nat) (s : State) : State := setIrq (pgMemc 1) mask (setIrq (pgMemc 0) mask s)

/-- Change a group's colour (R258): IRQ_STATUS.COLOUR of MEMC and the health report. -/
def groupColourSet (g v code : Nat) (s : State) : State :=
  let old := groupColour s g
  let h (c : Nat) : Nat := if 2 ≤ c then c + 1 else c
  colourChange 5 g (h old) (h v) code (memcIrq 0x20000 (rfSet (cgmState g) 1 0 v s))

/-- A group reaches Red (R258, R259, R262): evacuation is requested, and the Management Controller forwards event 0x0424 to the
host and to the management network (log entry 104). After the first retirement the group is retired at the
next device reset; beyond 8 groups the spares are exhausted. -/
def groupRed (g cause : Nat) (s : State) : State :=
  let s := emitFields (memcOf g) 0x24 [(8, g), (8, cause)] (groupColourSet g 2 0x0424 s)
  let s := output (.evacForward false g cause) (output (.evacForward true g cause) s)
  if 8 < lostGroups s then emitFields (memcOf g) 0x14 [(8, g)] (alert 1 s)
  else if 1 ≤ retiredGroups s then
    rfSet (pgHlth.base + Reg.HLTH_ALERT) 8 8 1
      (mapsMod (fun m => { m with groups := if m.groups.contains g then m.groups else m.groups ++ [g] }) s)
  else s

/-- A member becomes FAILED (R256 to R258). -/
def memberFail (g m cause : Nat) (s : State) : State :=
  if 8 < m ∨ memberFailed s g m = true ∨ groupColour s g = 3 then s
  else
    let s := mapsMod (fun x => { x with members := x.members ++ [(g, m)] }) s
    let s := emitFields (memcOf g) 0x22 [(8, g), (8, m), (8, cause)] s
    if groupColour s g = 0 then
      let s := groupColourSet g 1 0x0422 (rfSet (cgmState g) 15 12 m s)
      if rf s ((pgMemc 0).base + Reg.MEMC_CONFIG) 0 0 = 1 then groupRed g 2 s else s
    else
      let s := if second s g = 15 then rfSet (cgmState g) 19 16 m s else s
      if groupColour s g = 1 then groupRed g 0 s else s

/-- A read identified member m of group g (R254): its count rises, in the register and in its window (R257); at the
thresholds the member fails (R256), or in an Amber group is marked SECOND. -/
def identHit (g m : Nat) (s : State) : State :=
  let a := (pgCgm g).base + Reg.CGM_MEMBER_ERR + 4 * m
  let th := (pgCgm g).base + Reg.CGM_THRESH
  let k := healthWindow s (rf s th 31 16 * 1000)
  let (k0, n0) := tget s.identWin (k, 0) (g * 9 + m)
  let n := (if k0 = k then n0 else 0) + 1
  let s := { rfAdd a 15 0 1 s with identWin := tput s.identWin (g * 9 + m) (k, n) }
  let s :=
    if groupColour s g = 1 ∧ erased s g ≠ m ∧ second s g = 15 ∧ rf s th 7 0 ≤ n then
      groupRed g 0 (emitFields (memcOf g) 0x23 [(8, g), (8, m), (32, n)] (rfSet (cgmState g) 19 16 m s))
    else s
  if rf s th 15 8 ≤ n then memberFail g m 2 s else s

/-! ### The line and its check symbols (R249) -/

/-- The exclusive-or of two chunks. -/
def xorBytes (a b : List Byte) : List Byte := (List.range 32).map (fun i => lget a i 0 ^^^ lget b i 0)

/-- The exclusive-or of chunks, byte position by byte position: over all nine, 0 where the codeword is consistent. -/
def xorChunks (c : List (List Byte)) : List Byte := c.foldl xorBytes (List.replicate 32 0)

/-- The nine chunks of a line as its group stores them (R249): eight of data, then the check symbols; a marker line has every
check symbol inverted (R260). -/
def chunksOf (line : List Byte) (marker : Bool) : List (List Byte) :=
  let data := (List.range 8).map (fun m => (line.drop (32 * m)).take 32)
  let check := xorChunks data
  data ++ [if marker then check.map (fun b => b ^^^ 0xFF) else check]

/-- The data of nine chunks. -/
def chunkData (c : List (List Byte)) : List Byte := (c.take 8).flatten

/-- All 32 codewords are consistent. -/
def consistent (c : List (List Byte)) : Bool := (xorChunks c).all (· == 0)

/-- Member m's chunk recovered as the exclusive-or of the other eight. -/
def recover (c : List (List Byte)) (m : Nat) : List (List Byte) := c.set m (xorBytes (lget c m []) (xorChunks c))

/-- What arrives at the channels where errors are added to members' chunks. -/
def arrive (c : List (List Byte)) (errs : List (Fin 9 × List Byte)) : List (List Byte) :=
  c.zipIdx.map (fun x => errs.foldl (fun b e => if e.1.val = x.2 then xorBytes b e.2 else b) x.1)

/-- What a read of a line shows where every chunk arrives right. -/
def cleanLine : LineObs := ⟨[], [], [], []⟩

/-- How MEMC's read of a line ends (R254): the data, wrong where an error went undetected; whether it is returned poisoned;
whether MEMC rewrites the line with it; and what the channels show of the line from then on. -/
structure LineRead where
  data     : List Byte
  poisoned : Bool
  rewrite  : Bool
  after    : LineObs
deriving DecidableEq, Repr

/-- CGM_LAST of an error. -/
def cgmLast (g pa ue : Nat) (s : State) : State := reg64Set ((pgCgm g).base + Reg.CGM_LAST) (ue <<< 63 + pa % 2 ^ 48) s

/-- A poisoned read: CGM_UE and its interrupts. -/
def poisonSeen (g pa : Nat) (s : State) : State :=
  memcIrq 0x10000 (setIrq (pgCgm g) 0x10000 (cgmLast g pa 1 (rfAdd ((pgCgm g).base + Reg.CGM_UE) 31 0 1 s)))

/-- A second member of a group in erasure mode has failed as well: no read of its lines decodes (R255, R258). -/
def linesLost (s : State) (g : Nat) : Bool :=
  erased s g != 15 && (List.range 9).any (fun m => m != erased s g && memberFailed s g m)

/-- Every chunk arrives right, with nothing corrected on the way. -/
def quiet (o : LineObs) : Bool := o.errors.isEmpty && o.linkBad.isEmpty && o.linkCe.isEmpty

/-- MEMC checks the chunks of a line of group g (R254, R255). The erased member is not accessed: its chunk is recovered from the
other eight. Link-ECC corrections are counted per member (R268). -/
def checkChunks (g pa : Nat) (line : List Byte) (marker : Bool) (o : LineObs) (s : State) : LineRead × State :=
  let e := erased s g
  let used (l : List (Fin 9)) : List Nat := (l.map (·.val)).eraseDups.filter (· != e)
  let s := (used o.linkCe).foldl (fun s m => rfAdd ((pgCgm g).base + Reg.CGM_MEMBER_ERR + 4 * m) 31 16 1 s) s
  let later : LineObs := { o with linkCe := [] }
  let stored := chunksOf line marker
  let c := arrive stored o.errors
  let bad := used o.linkBad
  if e ≠ 15 then
    let d := chunkData (recover c e)
    if linesLost s g then (⟨d, true, false, later⟩, poisonSeen g pa s)
    else
      match bad with
      | [] => (⟨d, false, false, later⟩, s)
      | [m] => (⟨d, true, false, later⟩, identHit g m (poisonSeen g pa s))
      | _ => (⟨d, true, false, later⟩, poisonSeen g pa s)
  else
    match bad with
    | _ :: _ :: _ => (⟨chunkData c, true, false, later⟩, poisonSeen g pa s)
    | [m] =>
      if consistent c then (⟨chunkData c, false, false, later⟩, s)
      else (⟨chunkData (recover c m), false, true, cleanLine⟩, identHit g m (cgmLast g pa 0 s))
    | [] =>
      let again := arrive stored o.reread
      if consistent c then (⟨chunkData c, false, false, later⟩, s)
      else if consistent again then
        (⟨chunkData again, false, false, { o with errors := o.reread, linkCe := [] }⟩,
          emitFields (memcOf g) 0x21 [(48, pa), (8, g)] (cgmLast g pa 0 (rfAdd ((pgCgm g).base + Reg.CGM_TRANSIENT) 31 0 1 s)))
      else (⟨chunkData c, true, false, later⟩, poisonSeen g pa s)

/-- MEMC checks a line of group g that it reads. Where every chunk arrives right and fits the others, the line is as stored. -/
def checkLine (g pa : Nat) (line : List Byte) (marker : Bool) (o : LineObs) (s : State) : LineRead × State :=
  if quiet o && !marker && !linesLost s g then (⟨line, false, false, cleanLine⟩, s) else checkChunks g pa line marker o s

/-- One transaction entry of the group's instance is in use (R265, R267). -/
def useEntry (g : Nat) (s : State) : State :=
  let a := (memcOf g).base + Reg.MEMC_INFLIGHT
  if rf s a 31 16 = 0 then rfSet a 31 16 1 s else s

/-- The channels show `o` at the line of number l from now on (log entry 10). -/
def showLine (l : Nat) (o : LineObs) (s : State) : State :=
  { s with memObs := if quiet o then tdel s.memObs l else tput s.memObs l o }

/-- Line number l is written whole: its check symbols fit its data again (R250, R260). -/
def lineWritten (l : Nat) (s : State) : State :=
  { s with memObs := tdel s.memObs l, markers := s.markers.filter (· != l) }

/-- What MEMC leaves of a line that it read: the data rewritten (R254), and what the channels show from then on. -/
def settleLine (l : Nat) (r : LineRead) (s : State) : State :=
  if r.rewrite then lineWritten l { s with mem := memPutBytes s.mem (l * 256) r.data } else showLine l r.after s

/-- MEMC reads `len` bytes at PA, within one line (R250, R254, R255); `none` is a poisoned completion. -/
def lineRead (pa len : Nat) (s : State) : Option (List Byte) × State :=
  let l := pa / 256
  let g := groupOf s pa
  let s := useEntry g s
  let o := tget s.memObs cleanLine l
  if quiet o && !s.markers.contains l && !linesLost s g then (some (memGetBytes s.mem pa len), s)
  else
    let (r, s) := checkLine g (l * 256) (memGetBytes s.mem (l * 256) 256) (s.markers.contains l) o s
    let s := settleLine l r s
    (if r.poisoned then none else some ((r.data.drop (pa % 256)).take len), s)

/-- MEMC writes bytes at PA, within one line: less than a line is merged with a read of it, and a poisoned read leaves the line as
it is (R250). `false` is a poisoned completion. -/
def lineWrite (pa : Nat) (data : List Byte) (s : State) : Bool × State :=
  let l := pa / 256
  if data.length = 256 then (true, lineWritten l (useEntry (groupOf s pa) { s with mem := memPutBytes s.mem pa data }))
  else
    match lineRead (l * 256) 256 s with
    | (none, s) => (false, s)
    | (some old, s) =>
      let s := if old = memGetBytes s.mem (l * 256) 256 then s else { s with mem := memPutBytes s.mem (l * 256) old }
      (true, lineWritten l { s with mem := memPutBytes s.mem pa data })

end Sys2Proof.Machine
end

