-- ==== Sys2Proof/Machine/Memory.lean ====
section
/-! DEFINITION. The named operations over memory: cluster memory with its banks, worlds, power states and ECC (R155 to
R165), the physical address map (R36, R37), the Region Protection Table (R277, R278), translation (R271 to R273) and
accesses that pass all of them, with the fault causes of R281. -/

namespace Sys2Proof.Machine

/-! ### Defaults of the hidden state -/

/-- A CSEQ's view of a context before anything has started. -/
def CseqCtx.fresh : CseqCtx := ⟨0, 0, [], [0, 0, 0, 0], [false, false, false, false], [], none, none, none, false, false, false, 0⟩

/-- A cluster right after device reset. -/
def ClusterState.fresh : ClusterState where
  ctxs := []
  guard := []
  nextCmd := 0
  engFree := []
  vecLatch := []
  convLatch := []
  accSets := []
  kstore := []
  lanes := []
  gath := []
  poison := []
  correct := []
  writeback := []
  bankErr := []
  errWindow := 0
  dueBanks := []
  failedCores := []
  bandDue := false
  move := none
  patrolWord := 0
  rotateNext := 0
  badBanks := []
  badLanes := []
  passMs := []
  lateSent := false
  suspects := []
  misWindow := 0
  misCounts := []
  coreWindow := 0
  patrolGap := none

/-- The hidden state of cluster n. -/
def clu (s : State) (n : Nat) : ClusterState := tget s.clusters ClusterState.fresh n

/-- Change the hidden state of cluster n. -/
def cluMod (n : Nat) (f : ClusterState → ClusterState) (s : State) : State :=
  { s with clusters := tput s.clusters n (f (clu s n)) }

/-! ### Cluster memory -/

/-- Line and logical bank of word number w (R156); CMEM has 16,384 lines. -/
def cmemLine (w : Nat) : Nat := w / 32 % 16384
def cmemBank (w : Nat) : Nat := (w % 32 + w / 32) % 32

/-- Physical bank behind a logical bank (R155). -/
def physBank (s : State) (n b : Nat) : Nat := byteReg s ((pgCmem n).base + Reg.CMEM_BANK_MAP) b % 64

/-- Key of a word within a cluster: physical bank and line. -/
def wordKey (s : State) (n w : Nat) : Nat := physBank s n (cmemBank w) * 16384 + cmemLine w

/-- Key of a byte of CMEM in `State.cmem`, from a cluster, a word key and the byte within the word: 64 bank numbers are set aside
for each cluster, of which 34 exist. -/
def cmemKey (n key i : Nat) : Nat := (n * 64 * 16384 + key) * 8 + i

/-- The stored byte at a CMEM offset. -/
def cmemByte (s : State) (n off : Nat) : Byte := memGet s.cmem (cmemKey n (wordKey s n (off / 8)) (off % 8))

/-- Store a byte at a CMEM offset, with no check. -/
def cmemPutByte (n off : Nat) (v : Byte) (s : State) : State :=
  { s with cmem := memPut s.cmem (cmemKey n (wordKey s n (off / 8)) (off % 8)) v }

/-- Store consecutive bytes, with no check. -/
def cmemPutRaw (n off : Nat) : List Byte → State → State
  | [], s => s
  | b :: bs, s => cmemPutRaw n (off + 1) bs (cmemPutByte n off b s)

/-- Consecutive stored bytes, with no check. -/
def cmemGetRaw (s : State) (n off : Nat) : Nat → List Byte
  | 0 => []
  | k + 1 => cmemByte s n off :: cmemGetRaw s n (off + 1) k

/-- Power state of a bank: 0 ON, 1 RET, 2 OFF (R162). -/
def bankCur (s : State) (n b : Nat) : Nat :=
  nfld (reg64 s ((pgCmem n).base + Reg.CMEM_BANK_PWR_CUR)) (2 * b + 1) (2 * b)

/-- Requested power state of a bank. -/
def bankReq (s : State) (n b : Nat) : Nat :=
  nfld (reg64 s ((pgCmem n).base + Reg.CMEM_BANK_PWR_REQ)) (2 * b + 1) (2 * b)

/-- Set the current power state of a bank. -/
def bankCurSet (n b v : Nat) (s : State) : State :=
  let a := (pgCmem n).base + Reg.CMEM_BANK_PWR_CUR
  reg64Set a (nset (reg64 s a) (2 * b + 1) (2 * b) v) s

/-- A bank is being zeroed (R164). -/
def bankBusy (s : State) (n b : Nat) : Bool := rf s ((pgCmem n).base + Reg.CMEM_BANK_BUSY) b b == 1

/-- A bank is secure (R165). -/
def bankSecure (s : State) (n b : Nat) : Bool := rf s ((pgCmem n).base + Reg.CMEM_BANK_WORLD) b b == 1

/-- Why an access to a bank is refused: the world check before the power check (R164, R165). -/
def bankRefusal (s : State) (n b : Nat) (secure : Bool) : Option Nat :=
  if bankSecure s n b && !secure then some 0x07
  else if bankCur s n b = 2 ∨ bankBusy s n b = true then some 0x0F
  else none

/-- The words that `len` bytes from `off` touch. -/
def wordsOf (off len : Nat) : List Nat :=
  if len = 0 then [] else List.range' (off / 8) ((off + len - 1) / 8 - off / 8 + 1)

/-- Which port reads or writes (R158, R159). -/
inductive Port2 where
  | a | b
deriving DecidableEq, Repr

/-- An access to a bank in RET wakes it (R163). -/
def wakeBank (n b : Nat) (s : State) : State :=
  if bankCur s n b = 1 then tally (pgCmem n) 0x0103 1 {} (bankCurSet n b 0 s) else s

/-- The PAYLOAD of events 0x03A0 and 0x03A1 (R161). -/
def eccPayload (w phys : Nat) (port : Port2) : Nat := w * 8 + phys <<< 24 + (if port = .b then 1 else 0) <<< 32

/-- A read of a word meets a correctable or an uncorrectable error (R161); `true` marks poison. A correctable error counts once
until the word is written back (log entry 84). -/
def eccRead (n : Nat) (port : Port2) (w : Nat) (s : State) : Bool × State :=
  let key := wordKey s n w
  let c := clu s n
  let pg := pgCmem n
  let last (ue : Nat) (s : State) : State := regSet (pg.base + Reg.CMEM_ECC_LAST) (BitVec.ofNat 32 (ue * 2 ^ 31 + w)) s
  let b := cmemBank w
  let due (l : List Nat) : List Nat := if l.contains b then l else l ++ [b]
  let k := s.evr.opMs / max 1 (rf s (pgHlth.base + Reg.HLTH_CONFIG) 31 16 * 1000)
  let errs := (if c.errWindow = k then c.bankErr else []) ++ [b]
  let limit := max 1 (rf s (pgHlth.base + Reg.HLTH_CONFIG) 15 8)
  if c.poison.contains key then
    (true, setIrq pg 0x20000 (emit pg 0xA1 (eccPayload w (key / 16384) port)
      (last 1 (rfAdd (pg.base + Reg.CMEM_ECC_UE) 31 0 1 (cluMod n (fun c => { c with dueBanks := due c.dueBanks }) s)))))
  else if c.correct.contains key && !c.writeback.contains key then
    (false, setIrq pg 0x10000 (emit pg 0xA0 (eccPayload w (key / 16384) port)
      (last 0 (rfAdd (pg.base + Reg.CMEM_ECC_CE) 31 0 1
        (cluMod n (fun c => { c with
          writeback := c.writeback ++ [key]
          bankErr := errs, errWindow := k
          dueBanks := if limit ≤ (errs.filter (· == b)).length then due c.dueBanks else c.dueBanks }) s)))))
  else (false, s)

/-- Outcome of a CMEM read: the bytes, or the reason and the offset of the first word that fails. -/
inductive CRead where
  | ok (data : List Byte)
  | fail (reason off : Nat)
deriving DecidableEq, Repr

/-- Check and touch the words of an access, in ascending order; the first failure ends it. Poison is looked for only
by reads. -/
def cmemTouch (n : Nat) (port : Port2) (secure reading : Bool) : List Nat → State → Option (Nat × Nat) × State
  | [], s => (none, s)
  | w :: ws, s =>
    let b := cmemBank w
    match bankRefusal s n b secure with
    | some r => (some (r, w * 8), s)
    | none =>
      let s := wakeBank n b s
      if reading then
        let (bad, s) := eccRead n port w s
        if bad then (some (0x15, w * 8), s) else cmemTouch n port secure reading ws s
      else cmemTouch n port secure reading ws s

/-- Physical address of a CMEM byte (R36). -/
def cmemPa (n off : Nat) : Nat := 0x0100_0000_0000 + n * 0x40_0000 + off

/-- Count the words of a CMEM access with their attributes, by the 64 KiB units that hold them (R484, R485). The words of
port A are an engine's; who uses port B is not carried here (log entry 70). -/
def tallyWords (n : Nat) (port : Port2) (secure write : Bool) (off len : Nat) (s : State) : State :=
  if len = 0 then s
  else
    (List.range' (off / 65536) ((off + len - 1) / 65536 - off / 65536 + 1)).foldl (fun s u =>
      let lo := max off (u * 65536)
      let hi := min (off + len) (u * 65536 + 65536)
      tally (pgCmem n) (if port = .a then 0x0100 else 0x0102) (wordsOf lo (hi - lo)).length
        { world := some secure, master := if port = .a then some (masterId 1 n) else none, addr := some (cmemPa n lo)
          classes := [0, if write then 5 else 4] } s) s

/-- Read `len` bytes of CMEM (R156 to R165). -/
def cmemRead (n : Nat) (port : Port2) (secure : Bool) (off len : Nat) (s : State) : CRead × State :=
  let ws := wordsOf off len
  let (bad, s) := cmemTouch n port secure true ws s
  let s := tallyWords n port secure false off len s
  match bad with
  | some (r, o) => (.fail r o, s)
  | none => (.ok (cmemGetRaw s n off len), s)

/-- Words of an access whose eight bytes are all written. -/
def wholeWords (off len : Nat) : List Nat := List.range' ((off + 7) / 8) ((off + len) / 8 - (off + 7) / 8)

/-- Write bytes word by word: a refused word keeps its contents, the others are written (R164, R165, R507). A whole-word
write clears poison and pending errors; a merge into a poisoned word leaves it poisoned (R161). Answers the first
refusal. -/
def cmemWriteGo (n : Nat) (port : Port2) (secure : Bool) (off : Nat) : List Byte → State →
    Option (Nat × Nat) → Option (Nat × Nat) × State
  | [], s, r => (r, s)
  | v :: vs, s, r =>
    match bankRefusal s n (cmemBank (off / 8)) secure with
    | some c =>
      cmemWriteGo n port secure (off + 1) vs s (match r with
        | some x => some x
        | none => some (c, off / 8 * 8))
    | none => cmemWriteGo n port secure (off + 1) vs (cmemPutByte n off v (wakeBank n (cmemBank (off / 8)) s)) r

/-- Words of an access of a row that is written from `lo` to `hi`: the row's first and last word are written in part, so that a
merge reads them (R159, R187). -/
def mergeWords (lo hi off len : Nat) : List Nat :=
  (wordsOf off len).filter (fun w => decide (w * 8 < lo) || decide (hi < w * 8 + 8))

/-- The reads of a write's merges are checked as any read (R159, R161); a refused word is not read. -/
def mergeReads (n : Nat) (port : Port2) (secure : Bool) (lo hi off len : Nat) (s : State) : State :=
  if (clu s n).poison.isEmpty && (clu s n).correct.isEmpty then s
  else (mergeWords lo hi off len).foldl (fun s w =>
    if (bankRefusal s n (cmemBank w) secure).isSome then s else (eccRead n port w s).2) s

/-- Write bytes that belong to a row written from `lo` to `hi`; the row's earlier bytes are written already. A word is written
whole, and reads without error from then on, once its last byte is (R161, R187). -/
def cmemWriteRow (n : Nat) (port : Port2) (secure : Bool) (lo hi off : Nat) (data : List Byte) (s : State) :
    Option (Nat × Nat) × State :=
  let len := data.length
  let s := mergeReads n port secure lo hi off len (tallyWords n port secure true off len s)
  let (r, s) := cmemWriteGo n port secure off data s none
  let from_ := max lo (off / 8 * 8)
  let keys := ((wholeWords from_ (min hi (off + len) - from_)).filter
    (fun w => bankRefusal s n (cmemBank w) secure == none)).map (wordKey s n)
  let c := clu s n
  if keys.any (fun k => c.poison.contains k || c.correct.contains k) then
    (r, cluMod n (fun c => { c with
      poison := c.poison.filter (fun k => !keys.contains k)
      correct := c.correct.filter (fun k => !keys.contains k)
      writeback := c.writeback.filter (fun k => !keys.contains k) }) s)
  else (r, s)

/-- Write bytes to CMEM. -/
def cmemWrite (n : Nat) (port : Port2) (secure : Bool) (off : Nat) (data : List Byte) (s : State) :
    Option (Nat × Nat) × State :=
  cmemWriteRow n port secure off (off + data.length) off data s

/-- Write within one 256-byte line as one access: a refused word refuses the whole line (R265, R277, R366, R374). -/
def cmemWriteLine (n : Nat) (port : Port2) (secure : Bool) (off : Nat) (data : List Byte) (s : State) :
    Option (Nat × Nat) × State :=
  match (wordsOf off data.length).findSome? (fun w => (bankRefusal s n (cmemBank w) secure).map (fun r => (r, w * 8))) with
  | some x => (some x, s)
  | none => cmemWrite n port secure off data s

/-- Clear every byte of a physical bank (zeroing, R164). -/
def zeroPhys (n phys : Nat) (s : State) : State :=
  let lo := cmemKey n (phys * 16384) 0
  let hi := cmemKey n (phys * 16384 + 16384) 0
  cluMod n (fun c => { c with
    poison := c.poison.filter (fun k => k / 16384 != phys)
    correct := c.correct.filter (fun k => k / 16384 != phys)
    writeback := c.writeback.filter (fun k => k / 16384 != phys) })
    { s with cmem := s.cmem.filter (fun e => e.1 < lo || hi ≤ e.1) }

/-- `k` words that a port-B writer wrote lose to port-A writes of the same words (R160). -/
def collide (n k : Nat) (s : State) : State :=
  setIrq (pgCmem n) 0x40000 (rfAdd ((pgCmem n).base + Reg.CMEM_COLLIDE) 31 0 k s)

/-! ### The physical address map -/

/-- Where a physical address lies (R36). -/
inductive Target where
  | main
  | cmem (n off : Nat)
  | vault
  | pages
  | unmapped
deriving DecidableEq, Repr

/-- Decode a physical address (R36, R42). -/
def decodePa (s : State) (pa : Nat) : Target :=
  if pa < memTop s then .main
  else if 0x0100_0000_0000 ≤ pa ∧ pa < 0x0101_0000_0000 then
    .cmem ((pa - 0x0100_0000_0000) / 0x40_0000) (pa % 0x40_0000)
  else if 0x0202_0000_0000 ≤ pa ∧ pa < 0x0202_0100_0000 then .vault
  else if inPages pa then .pages
  else .unmapped

/-- Attributes of a main-memory access (R484). -/
def memAttrs (k : AccClass) (secure write : Bool) (pa : Nat) : Attrs :=
  { world := some secure, addr := some pa
    classes := [match k with
      | .onDie => 0
      | .fabric => 1
      | .host => 2
      | .mgmt => 3, if write then 5 else 4] }

/-! ### Region protection -/

/-- CLASS field of RPT_LAST (R280). -/
def classCode : AccClass → Nat
  | .onDie => 0
  | .fabric => 1
  | .host => 2
  | .mgmt => 3

/-- The region register i. -/
def region (s : State) (i : Nat) : Nat := reg64 s (pgRpt.base + Reg.RPT_REGION + 8 * i)

/-- Whether a region holds a unit of PA[40:16] (R278). -/
def regionHolds (r unit : Nat) : Bool :=
  nbit r 0 && decide (nfld r 38 14 ≤ unit) && decide (unit ≤ nfld r 63 39)

/-- The lowest-numbered valid region that holds an address (R277). -/
def findRegion (s : State) (pa : Nat) : Option Nat :=
  (List.range 256).find? (fun i => regionHolds (region s i) (nfld pa 40 16))

/-- The verdict of the RPT on one access line: `none` when allowed, or cause REGION (9) or WORLD (0xA) (R277, R281). -/
def rptVerdict (s : State) (k : AccClass) (secure write : Bool) (pa : Nat) : Option Nat :=
  match findRegion s pa with
  | none => some 0x9
  | some i =>
    let r := region s i
    if !nbit r (10 + classCode k) then some 0x9
    else if !secure && nbit r 1 then some 0xA
    else if !nbit r (match secure, write with
      | false, false => 2
      | false, true => 3
      | true, false => 4
      | true, true => 5) then some 0x9
    else none

/-- Check one access line and record a failure in the RPT page (R277, R280). -/
def rptCheck (k : AccClass) (secure write : Bool) (pa : Nat) (s : State) : Option Nat × State :=
  match rptVerdict s k secure write pa with
  | none => (none, s)
  | some c =>
    let (nr, reg) := match findRegion s pa with
      | none => (1, 0)
      | some i => (0, i)
    let s := rfAdd (pgRpt.base + Reg.RPT_DENIED) 31 0 1 s
    let s := reg64Set (pgRpt.base + Reg.RPT_LAST)
      (b2n write <<< 63 + b2n secure <<< 62 + classCode k <<< 60 + nr <<< 59 + reg <<< 48 + pa / 256 * 256) s
    (some c, setIrq pgRpt 0x10000 s)

/-! ### Physical accesses -/

/-- A failed access: its cause (R281), the walk level (3 outside a walk), the virtual and physical addresses and the
direction. -/
structure Fail where
  cause : Nat
  level : Nat
  va    : Nat
  pa    : Nat
  write : Bool
deriving DecidableEq, Repr

/-- The reason code that a cause is reported with (R281). -/
def causeReason (c : Nat) : Nat := if c = 0xA then 0x07 else if c = 0xC then 0x15 else if c = 0xD then 0x0F else 0x08

/-- The cause of a CMEM refusal or poison by its reason. -/
def cmemCause (reason : Nat) : Nat := if reason = 0x07 then 0xA else if reason = 0x0F then 0xD else 0xC

/-- Cut an access into pieces that each lie in one 256-byte line. -/
def linePieces : Nat → Nat → Nat → List (Nat × Nat)
  | 0, _, _ => []
  | fuel + 1, a, len =>
    if len = 0 then []
    else
      let k := min len (256 - a % 256)
      (a, k) :: linePieces fuel (a + k) (len - k)

/-- The pieces of an access of `len` bytes from `a`. -/
def pieces (a len : Nat) : List (Nat × Nat) := linePieces (len / 256 + 2) a len

/-- Read within one line by physical address (R37, R254, R277). `asWrite` marks the read half of a partial write or of an atomic
add, which the region register judges as a write (R273, R277). -/
def readLineFor (asWrite : Bool) (k : AccClass) (secure : Bool) (pa len : Nat) (s : State) : Except Fail (List Byte) × State :=
  let bad (c : Nat) : Except Fail (List Byte) := .error ⟨c, 3, 0, pa, asWrite⟩
  match decodePa s pa with
  | .main =>
    let (c, s) := rptCheck k secure asWrite pa s
    match c with
    | some c => (bad c, s)
    | none =>
      let s := tally (memcOf (groupOf s pa)) 0x0100 1 (memAttrs k secure false pa) s
      match lineRead pa len s with
      | (some d, s) => (.ok d, s)
      | (none, s) => (bad 0xC, s)
  | .cmem n off =>
    let (c, s) := rptCheck k secure asWrite pa s
    match c with
    | some c => (bad c, s)
    | none =>
      let (r, s) := cmemRead n .b secure off len s
      match r with
      | .ok d => (.ok d, s)
      | .fail reason _ => (bad (cmemCause reason), s)
  | .vault => if secure then (.ok (memGetBytes s.mem pa len), s) else (bad 0x8, s)
  | _ => (bad 0x8, s)

/-- Read within one line by physical address. -/
def readLine (k : AccClass) (secure : Bool) (pa len : Nat) (s : State) : Except Fail (List Byte) × State :=
  readLineFor false k secure pa len s

/-- Write within one line by physical address. A partial write of a poisoned line is merged and fails as poison (R250). -/
def writeLine (k : AccClass) (secure : Bool) (pa : Nat) (data : List Byte) (s : State) : Except Fail Unit × State :=
  let bad (c : Nat) : Except Fail Unit := .error ⟨c, 3, 0, pa, true⟩
  match decodePa s pa with
  | .main =>
    let (c, s) := rptCheck k secure true pa s
    match c with
    | some c => (bad c, s)
    | none =>
      let pg := memcOf (groupOf s pa)
      let x := memAttrs k secure true pa
      let s := tally pg 0x0101 1 x s
      let s := if data.length < 256 then tally pg 0x0103 1 x s else s
      match lineWrite pa data s with
      | (true, s) => (.ok (), s)
      | (false, s) => (bad 0xC, s)
  | .cmem n off =>
    let (c, s) := rptCheck k secure true pa s
    match c with
    | some c => (bad c, s)
    | none =>
      let (r, s) := cmemWriteLine n .b secure off data s
      match r with
      | none => (.ok (), s)
      | some (reason, _) => (bad (cmemCause reason), s)
  | .vault =>
    if secure then (.ok (), { s with mem := memPutBytes s.mem pa data }) else (bad 0x8, s)
  | _ => (bad 0x8, s)

/-- Read pieces in order; the first failure ends the read. -/
def readPieces (k : AccClass) (secure : Bool) : List (Nat × Nat) → List Byte → State →
    Except Fail (List Byte) × State
  | [], acc, s => (.ok acc, s)
  | (a, n) :: r, acc, s =>
    match readLine k secure a n s with
    | (.ok d, s) => readPieces k secure r (acc ++ d) s
    | (.error e, s) => (.error e, s)

/-- Read by physical address. -/
def physRead (k : AccClass) (secure : Bool) (pa len : Nat) (s : State) : Except Fail (List Byte) × State :=
  readPieces k secure (pieces pa len) [] s

/-- Write pieces in order; the first failure ends the write, with earlier lines written. -/
def writePieces (k : AccClass) (secure : Bool) : List (Nat × Nat) → List Byte → State → Except Fail Unit × State
  | [], _, s => (.ok (), s)
  | (a, n) :: r, data, s =>
    match writeLine k secure a (data.take n) s with
    | (.ok _, s) => writePieces k secure r (data.drop n) s
    | (.error e, s) => (.error e, s)

/-- Write by physical address. -/
def physWrite (k : AccClass) (secure : Bool) (pa : Nat) (data : List Byte) (s : State) : Except Fail Unit × State :=
  writePieces k secure (pieces pa data.length) data s

/-! ### Translation -/

/-- A walk's result: the page of a leaf. -/
structure Leaf where
  base : Nat
  size : Nat
  r    : Bool
  w    : Bool
  pin  : Bool
deriving DecidableEq, Repr

/-- XLAT_CTXc_ROOT. -/
def xlatRoot (s : State) (c : Nat) : Nat := reg64 s (pgXlat.base + Reg.XLAT_CTX_ROOT + 8 * c)

/-- Size of the page a leaf at a level maps (R271). -/
def levelSize (level : Nat) : Nat := if level = 0 then 2 ^ 30 else if level = 1 then 2 ^ 21 else 2 ^ 16

/-- Index of a virtual address at a level (R271). -/
def levelIndex (va level : Nat) : Nat :=
  if level = 0 then nfld va 47 30 else if level = 1 then nfld va 29 21 else nfld va 20 16

/-- Walk from a table at a level (R271 to R273). Each read is a physical read with class ON_DIE and the context's
world. -/
def walkFrom (secure : Bool) (va : Nat) : Nat → Nat → Nat → State → Except Fail Leaf × State
  | 0, level, _, s => (.error ⟨0x4, level, va, 0, false⟩, s)
  | fuel + 1, level, table, s =>
    let a := table + 8 * levelIndex va level
    let err (c : Nat) : Except Fail Leaf := .error ⟨c, level, va, a, false⟩
    if memTop s ≤ a then (err 0x6, s)
    else
      match readLine .onDie secure a 8 s with
      | (.error e, s) => (err (if e.cause = 0xC then 0x7 else e.cause), s)
      | (.ok bytes, s) =>
        let e := leNat bytes
        let addr := nfld e 47 8 * 256
        let isLeaf := nbit e 1
        if !nbit e 0 then (err 0x2, s)
        else if nfld e 63 48 ≠ 0 ∨ nfld e 7 5 ≠ 0 then (err 0x4, s)
        else if isLeaf then
          if addr % levelSize level ≠ 0 then (err 0x5, s)
          else (.ok ⟨addr, levelSize level, nbit e 2, nbit e 3, nbit e 4⟩, s)
        else if level = 2 ∨ nfld e 4 2 ≠ 0 then (err 0x4, s)
        else if level = 0 ∧ addr % 4096 ≠ 0 then (err 0x5, s)
        else walkFrom secure va fuel (level + 1) addr s

/-- Walk the tables of context c (R271). -/
def walk (c va : Nat) (s : State) : Except Fail Leaf × State :=
  let root := xlatRoot s c
  if !nbit root 0 then (.error ⟨0x1, 3, va, 0, false⟩, s)
  else walkFrom (ctxSecure s c) va 3 0 (nfld root 47 21 * 2 ^ 21) s

/-- A cached translation of a virtual address (R274). -/
def tlbHit (s : State) (c va : Nat) : Option TlbEntry :=
  s.xlat.find? (fun e => e.ctx == c && decide (e.va ≤ va) && decide (va < e.va + e.size))

/-- XLAT_FILL.VALID follows the cache. -/
def setFill (s : State) : State := rfSet (pgXlat.base + Reg.XLAT_FILL) 16 0 s.xlat.length s

/-- The set that holds an entry, of the 2 × 2,048 (R274). -/
def TlbEntry.place (e : TlbEntry) : Nat := Config.tlbPlace e.ctx e.va e.size % 4096

/-- Remove the k-th of the entries that stand in a set. -/
def dropOf (set : Nat) : Nat → List TlbEntry → List TlbEntry
  | _, [] => []
  | k, e :: l => if e.place = set then (match k with
      | 0 => l
      | k + 1 => e :: dropOf set k l) else e :: dropOf set k l

/-- A leaf is cached in its set of 16 ways (R274). Which way of a full set gives way is a free value (log entry 16). -/
def cachePut (e : TlbEntry) (s : State) : State :=
  if s.xlat.length < 16 then setFill { s with xlat := s.xlat ++ [e] }
  else if (s.xlat.filter (fun x => x.place == e.place)).length < 16 then setFill { s with xlat := s.xlat ++ [e] }
  else
    let (v, s) := draw s
    setFill { s with xlat := dropOf e.place (v % 16) s.xlat ++ [e] }

/-- A miss takes a walker, walks the tables, and caches the leaf that it finds (R274, R276). -/
def missWalk (c va : Nat) (s : State) : Except Fail Leaf × State :=
  let x : Attrs := { world := some (ctxSecure s c), addr := some va }
  let a := pgXlat.base + Reg.XLAT_WALKERS
  let s := rfSet a 22 16 (max 1 (rf s a 22 16)) (tally pgXlat 0x0102 1 x (tally pgXlat 0x0101 1 x s))
  match walk c va s with
  | (.error e, s) => (.error e, s)
  | (.ok l, s) => (.ok l, cachePut ⟨c, va / l.size * l.size, l.size, l.base, l.r, l.w, l.pin⟩ s)

/-- Translate one address (R273, R274, R281): a cached entry serves the access, otherwise the walk's leaf does. -/
def translate (c va : Nat) (write rdma : Bool) (s : State) : Except Fail Nat × State :=
  let s := tally pgXlat 0x0100 1 { world := some (ctxSecure s c), addr := some va } s
  let grant (base size : Nat) (r w pin : Bool) (s : State) : Except Fail Nat × State :=
    if !(if write then w else r) then (.error ⟨0x3, 3, va, base + va % size, write⟩, s)
    else if rdma && !pin then (.error ⟨0xB, 3, va, base + va % size, write⟩, s)
    else (.ok (base + va % size), s)
  if !nbit (xlatRoot s c) 0 then (.error ⟨0x1, 3, va, 0, write⟩, s)
  else
    match tlbHit s c va with
    | some e => grant e.pa e.size e.r e.w e.pin s
    | none =>
      match missWalk c va s with
      | (.error e, s) => (.error { e with write := write }, s)
      | (.ok l, s) => grant l.base l.size l.r l.w l.pin s

/-- Who accesses through translation: the context, its class, its world and whether it is RDMA (R270). -/
structure Via where
  ctx    : Nat
  cls    : AccClass
  secure : Bool
  rdma   : Bool
deriving DecidableEq, Repr

/-- XLAT is ON: an access that needs translation otherwise waits (R274). -/
def xlatOn (s : State) : Bool := isOn s pgXlat

/-- An on-die access of a context. -/
def viaCtx (s : State) (c : Nat) : Via := ⟨c, .onDie, ctxSecure s c, false⟩

/-- Read pieces through translation; `asWrite` asks for the permission of a write (R273). -/
def vreadPieces (asWrite : Bool) (v : Via) : List (Nat × Nat) → List Byte → State → Except Fail (List Byte) × State
  | [], acc, s => (.ok acc, s)
  | (a, n) :: r, acc, s =>
    match translate v.ctx (a % 2 ^ 48) asWrite v.rdma s with
    | (.error e, s) => (.error e, s)
    | (.ok pa, s) =>
      match readLineFor asWrite v.cls v.secure pa n s with
      | (.ok d, s) => vreadPieces asWrite v r (acc ++ d) s
      | (.error e, s) => (.error { e with va := a }, s)

/-- Read by virtual address. -/
def virtRead (v : Via) (va len : Nat) (s : State) : Except Fail (List Byte) × State :=
  vreadPieces false v (pieces va len) [] s

/-- Read what a partial write or an atomic add is to change: W alone is needed (R273). -/
def virtReadToWrite (v : Via) (va len : Nat) (s : State) : Except Fail (List Byte) × State :=
  vreadPieces true v (pieces va len) [] s

/-- Write pieces through translation. -/
def vwritePieces (v : Via) : List (Nat × Nat) → List Byte → State → Except Fail Unit × State
  | [], _, s => (.ok (), s)
  | (a, n) :: r, data, s =>
    match translate v.ctx (a % 2 ^ 48) true v.rdma s with
    | (.error e, s) => (.error e, s)
    | (.ok pa, s) =>
      match writeLine v.cls v.secure pa (data.take n) s with
      | (.ok _, s) => vwritePieces v r (data.drop n) s
      | (.error e, s) => (.error { e with va := a }, s)

/-- Write by virtual address. -/
def virtWrite (v : Via) (va : Nat) (data : List Byte) (s : State) : Except Fail Unit × State :=
  vwritePieces v (pieces va data.length) data s

end Sys2Proof.Machine
end

