-- ==== Sys2Proof/Machine/Contexts.lean ====
section
/-! DEFINITION. Contexts as ACON and the CSEQs hold them: their registers, who holds the array (R125), the halt of ACON
(R148), of a CSEQ (R177) and what ACON does when an agent of the context halts (R152), signals (R25 to R27), and the
samples of the Counter Dump Engine (R488). -/

namespace Sys2Proof.Machine

/-! ### ACON contexts -/

/-- An ACON context with nothing loaded. -/
def AconCtx.fresh : AconCtx where
  pc := 0
  instrCount := 0
  vtabCount := 0
  vtabOff := 0
  lc := [0, 0, 0, 0]
  active := [false, false, false, false]
  swap := false
  win := none
  ended := []
  rec0 := BankRec.empty
  rec1 := BankRec.empty
  haltKind := .none
  preemptReq := false
  abortReq := false
  agentHalt := false
  revoked := false
  agentRec := []
  overrun := none
  drainSeq := 0
  savedBanks := 0
  ending := false
  movers := []
  resumed := false
  windowed := false
  due := false
  vgate := none
  notice := false
  noticed := []

/-- The hidden part of context c. -/
def actx (s : State) (c : Nat) : AconCtx := tget s.acon AconCtx.fresh c

/-- Change it. -/
def actxMod (c : Nat) (f : AconCtx → AconCtx) (s : State) : State := { s with acon := tput s.acon c (f (actx s c)) }

/-- Address of a register of context c on the ACON page; `off` is the offset in the set of context 0 (R154). -/
def acReg (c off : Nat) : Nat := pgAcon.base + off + c * 0x100

/-- ACON_CTXc_STATUS.STATE (R124). -/
def acState (s : State) (c : Nat) : Nat := rf s (acReg c Reg.ACON_CTX_STATUS) 2 0

/-- The codes of R124. -/
def stIdle : Nat := 0
def stReady : Nat := 1
def stRunning : Nat := 2
def stHalted : Nat := 3
def stPreempted : Nat := 4

/-- Set ACON_CTXc_STATUS.STATE. -/
def acStateSet (c v : Nat) (s : State) : State := rfSet (acReg c Reg.ACON_CTX_STATUS) 2 0 v s

/-- Address of ACON_ACTIVE. -/
def activeReg : Nat := pgAcon.base + Reg.ACON_ACTIVE

/-- The context that holds the array. -/
def running (s : State) : Option Nat := if rf s activeReg 7 7 = 1 then some (rf s activeReg 2 0) else none

/-- Nobody holds the array. -/
def freeArray (s : State) : State := regSet activeReg 0 s

/-- Context c leaves the array if it holds it. -/
def leaveArray (c : Nat) (s : State) : State := if running s = some c then freeArray s else s

/-- Virtual address of instruction i of context c (R122). -/
def instrVa (s : State) (c i : Nat) : Nat := reg64 s (acReg c Reg.ACON_CTX_PROG_VA) % 2 ^ 48 + 0x40 + 16 * i

/-- A gate counter of a context (R25). -/
def gateCtr (s : State) (c g : Nat) : Nat := half s (acReg c Reg.ACON_CTX_TOKEN) g

/-- Set a gate counter. -/
def gateCtrSet (c g v : Nat) (s : State) : State := halfSet (acReg c Reg.ACON_CTX_TOKEN) g v s

/-- Epoch of a context (ACON_CTXc_EPOCH). -/
def ctxEpoch (s : State) (c : Nat) : Nat := rf s (acReg c Reg.ACON_CTX_EPOCH) 31 0

/-- Audit mode of a context: 3 is treated as 2 (R154). -/
def auditMode (s : State) (c : Nat) : Nat := min 2 (rf s (acReg c Reg.ACON_CTX_CTRL) 2 1)

/-- Attributes of an occurrence of a context's work. -/
def ctxAttrs (s : State) (c : Nat) : Attrs := { world := some (ctxSecure s c) }

/-! ### Samples (R488) -/

/-- An agent counts a command it issued and, every N-th, writes a sample into its 256-entry ring. Agent 0 is ACON,
1 + n the CSEQ of cluster n. -/
def sample (agent every va opcode ctx : Nat) (halted replay : Bool) (cycle latency at_ : Nat) (s : State) : State :=
  if every = 0 then s
  else
    let k := tget s.sampleCnt 0 agent + 1
    let s := { s with sampleCnt := tput s.sampleCnt agent k }
    if k % every ≠ 0 then s
    else
      let seq := k / every
      let w0 := va % 2 ^ 48 + opcode <<< 48 + ctx <<< 56 + b2n halted <<< 59 + b2n replay <<< 60
      let w2 := min latency (2 ^ 32 - 1) + at_ <<< 32
      let e : SampleEntry := [BitVec.ofNat 64 w0, BitVec.ofNat 64 cycle, BitVec.ofNat 64 w2, BitVec.ofNat 64 (seq % 2 ^ 32)]
      { s with rings := tput s.rings (agent * 256 + (seq - 1) % 256) e }

/-- A sample of ACON. -/
def aconSample (va opcode ctx : Nat) (halted : Bool) (latency at_ : Nat) (s : State) : State :=
  sample 0 (rf s (pgCde.base + Reg.CDE_SAMPLE_CFG) 31 16) va opcode ctx halted
    (rf s (acReg ctx Reg.ACON_CTX_STATUS) 7 4 != 0) (pageCycle s pgAcon) latency at_ s

/-- A sample of the CSEQ of cluster n. -/
def cseqSample (n va opcode ctx : Nat) (halted replay : Bool) (latency at_ : Nat) (s : State) : State :=
  sample (1 + n) (rf s (pgCde.base + Reg.CDE_SAMPLE_CFG) 15 0) va opcode ctx halted replay
    (pageCycle s (pgCseq n)) latency at_ s

/-! ### Signals -/

/-- A statistics record is sent to its entry, where STATS_ABSORB takes it (R210 to R212). -/
def sendStats (m : StatMsg) (s : State) : State :=
  { s with statq := s.statq ++ [{ m with no := s.statNo }], statNo := s.statNo + 1 }

/-- Send a signal: it is on its way until SIGNAL_ARRIVAL counts it (R25, R27). -/
def sendSignal (x : Signal) (s : State) : State := { s with flying := s.flying ++ [x] }

/-- The clusters of a SCOPE and TARGET of SIG (06 R126): one, all, a cluster row or a cluster column. -/
def scopeClusters (scope target : Nat) : List Nat :=
  match scope with
  | 0 => [target]
  | 1 => List.range 1024
  | 2 => (List.range 32).map (fun cc => target * 32 + cc)
  | _ => (List.range 32).map (fun cr => cr * 32 + target)

/-- Whether a TARGET lies in its range (06 R126). -/
def targetOk (cls scope target counter : Nat) : Bool :=
  match cls with
  | 0 => (match scope with
    | 0 => decide (target < 1024)
    | 1 => target == 0
    | _ => decide (target < 32))
  | 1 => scope == 0 && decide (target < 16384)
  | 2 => scope == 0 && decide (target < 2)
  | _ => scope == 0 && target == 0 && decide (counter < 32)

/-- The signals of one SIG: one for each consumer. -/
def signalsOf (cls scope target counter incr ctx producer : Nat) : List Signal :=
  if cls = 0 then (scopeClusters scope target).map (fun n => ⟨0, ctx, n, counter, incr, producer, 0, [], []⟩)
  else [⟨cls, ctx, target, counter, incr, producer, 0, [], []⟩]

/-! ### What ACON does when an agent halts (R152) -/

/-- OPCODE of the instruction at a context's pc, read without effect; `none` when it cannot be read. -/
def opcodeAt (s : State) (c i : Nat) : Option Nat :=
  match (virtRead (viaCtx s c) (instrVa s c i) 16 s).1 with
  | .ok d => some (leNat d >>> 120)
  | .error _ => none

/-- A context is at a window boundary (R125): a window has ended, every window's signals are delivered, and WIN, VSEL or END is
next and not begun. A VSEL that waits at its gate is begun; a late verdict stops all (R389). -/
def atBoundary (s : State) (c : Nat) : Bool :=
  let a := actx s c
  a.windowed && a.win.isNone && a.ended.isEmpty && a.vgate.isNone && a.haltKind != .late &&
  (match opcodeAt s c a.pc with
   | some 0x01 => true
   | some 0x09 => true
   | some 0x0F => true
   | some _ => false
   | none => true)

/-- Write a context's halt registers. `inst` goes to HALT_PC[63:48]. -/
def setHaltRegs (c source inst va reason info0 info1 : Nat) (s : State) : State :=
  let s := reg64Set (acReg c Reg.ACON_CTX_HALT_PC) (va % 2 ^ 48 + inst <<< 48) s
  let s := regSet (acReg c Reg.ACON_CTX_HALT) (BitVec.ofNat 32 (source <<< 16 + reason)) s
  regSet (acReg c Reg.ACON_CTX_HALT_INFO1) (BitVec.ofNat 32 info1)
    (regSet (acReg c Reg.ACON_CTX_HALT_INFO0) (BitVec.ofNat 32 info0) s)

/-- Hold a context HALTED at its boundary after one of its agents halted (R152). -/
def holdAtBoundary (c : Nat) (s : State) : State :=
  let a := actx s c
  if a.agentHalt && (acState s c == stRunning || acState s c == stReady || acState s c == stPreempted) && atBoundary s c then
    match a.agentRec with
    | [src, inst, va, reason, i0, i1] =>
      let s := setHaltRegs c src inst va reason i0 i1 s
      let s := actxMod c (fun a => { a with agentHalt := false, haltKind := .agent, preemptReq := false }) s
      acStateSet c stHalted (leaveArray c s)
    | _ => s
  else s

/-- An agent of context c halts: ACON notes the first such halt and holds the context at its next boundary. -/
def agentHalted (c source inst va reason i0 i1 : Nat) (s : State) : State :=
  let a := actx s c
  if a.agentHalt || !(acState s c == stRunning || acState s c == stReady || acState s c == stPreempted) then s
  else
    holdAtBoundary c (actxMod c (fun a => { a with agentHalt := true, agentRec := [source, inst, va, reason, i0, i1] }) s)

/-! ### The halt of ACON (R148, R151) -/

/-- The SOURCE of ACON's own halts. -/
def srcAcon : Nat := 0x0201

/-- What every halt of ACON does (R148): the halt registers, ERR_CODE, IRQ_STATUS.CTX_HALT and the event. -/
def haltRecord (c va reason info0 info1 : Nat) (s : State) : State :=
  let s := setHaltRegs c srcAcon 0 va reason info0 info1 s
  let s := recordError pgAcon reason info0 info1 s
  let s := setIrq pgAcon (2 ^ (16 + c)) s
  emit pgAcon reason (va % 2 ^ 48 + c <<< 48) s

/-- A halt that leaves the context HALTED: at load, of a control instruction, of the header, of a copy. -/
def haltCtx (c va reason info0 info1 : Nat) (k : HaltKind) (s : State) : State :=
  let s := haltRecord c va reason info0 info1 s
  let s := actxMod c (fun a => { a with haltKind := k, preemptReq := false, vgate := none }) s
  acStateSet c stHalted (leaveArray c s)

/-- A halt in a started window (R151): the window waits for its automatic replay while its replays number fewer than
REPLAY_LIMIT and no PREEMPT waits (R153); otherwise the context is HALTED. -/
def haltWindow (c va reason info0 info1 : Nat) (s : State) : State :=
  let s := haltRecord c va reason info0 info1 s
  let a := actx s c
  let replays := (a.win.map (·.replays)).getD 0
  let limit := rf s (pgAcon.base + Reg.ACON_CONFIG) 3 0
  let s := actxMod c (fun a => { a with
    haltKind := .window
    win := a.win.map (fun w => { w with phase := .halted, held := [] }) }) s
  if replays < limit && !a.preemptReq then s
  else acStateSet c stHalted (leaveArray c (actxMod c (fun a => { a with preemptReq := false }) s))

/-! ### CSEQ contexts -/

/-- Address of a register of context c on the CSEQ page of cluster n (R182). -/
def csReg (n c off : Nat) : Nat := (pgCseq n).base + off + c * 0x100

/-- CSEQ_CTXc_STATUS.STATE: 0 IDLE, 1 RUNNING, 2 WAITING, 3 HALTED, 4 HELD, 5 SUSPENDED. -/
def csState (s : State) (n c : Nat) : Nat := rf s (csReg n c Reg.CSEQ_CTX_STATUS) 2 0

/-- Set it. -/
def csStateSet (n c v : Nat) (s : State) : State := rfSet (csReg n c Reg.CSEQ_CTX_STATUS) 2 0 v s

/-- The CSEQ's hidden view of a context. -/
def cctx (s : State) (n c : Nat) : CseqCtx := tget (clu s n).ctxs CseqCtx.fresh c

/-- Change it. -/
def cctxMod (n c : Nat) (f : CseqCtx → CseqCtx) (s : State) : State :=
  cluMod n (fun k => { k with ctxs := tput k.ctxs c (f (tget k.ctxs CseqCtx.fresh c)) }) s

/-- Virtual address of slot i of a stream (R167). -/
def slotVa (s : State) (n c i : Nat) : Nat := reg64 s (csReg n c Reg.CSEQ_CTX_STREAM_VA) % 2 ^ 48 + 0x40 + 16 * i

/-- The context whose stream the CSEQ runs (CSEQ_ACTIVE). -/
def csActive (s : State) (n : Nat) : Option Nat :=
  let a := (pgCseq n).base + Reg.CSEQ_ACTIVE
  if rf s a 7 7 = 1 then some (rf s a 2 0) else none

/-- Set CSEQ_ACTIVE. -/
def csActiveSet (n : Nat) (c : Option Nat) (s : State) : State :=
  regSet ((pgCseq n).base + Reg.CSEQ_ACTIVE) (match c with
    | some c => BitVec.ofNat 32 (0x80 + c)
    | none => 0) s

/-- A CSEQ token counter. -/
def csToken (s : State) (n c g : Nat) : Nat := half s (csReg n c Reg.CSEQ_CTX_TOKEN) g

/-- Set it. -/
def csTokenSet (n c g v : Nat) (s : State) : State := halfSet (csReg n c Reg.CSEQ_CTX_TOKEN) g v s

/-- Phase cycle of now. -/
def phaseCycle (s : State) (p : Phase) : Nat := s.clk.eclk - p.cycle0

/-- Every other CSEQ of the context that waits reads HELD (R177). -/
def holdOthers (n c : Nat) (s : State) : State :=
  (s.clusters.map (·.1)).foldl (fun s m =>
    if m ≠ n ∧ csState s m c = 2 then csStateSet m c 4 s else s) s

/-- SOURCE of a CSEQ halt (R177, R182): the engine code, 0 for CSEQ or GUARD. SCHEDULE_SLIP is the Guard's halt, and
QUEUE_OVERRUN the Guard's or the CSEQ's own. DEDUCED, log entry 85. -/
def csSource (src reason : Nat) : Nat := if reason = 0x04 ∨ reason = 0x0A then 0 else src

/-- A rollback of a context's exchange holds the context (R347): ACON halts it at its next window boundary, and after a RESUME where
it is HALTED; its waiting CSEQs read HELD, and its streams issue nothing (DEDUCED, log entry 103). -/
def revokeContext (c va op : Nat) (s : State) : State :=
  if acState s c == stIdle then s
  else
    let s := actxMod c (fun a => { a with revoked := true }) s
    let s := (s.clusters.map (·.1)).foldl (fun s n => if csState s n c = 2 then csStateSet n c 4 s else s) s
    if acState s c == stHalted then
      actxMod c (fun a => { a with agentHalt := true, agentRec := [0x0703, 0, va, 0x11, op, 0] }) s
    else agentHalted c 0x0703 0 va 0x11 op 0 s

/-- A halt of the CSEQ of cluster n (R177). `src` is the engine code of the halting command, 0 where no engine has it; the
event carries it, and SOURCE is `csSource`. `auto` says that the reason is one of those replayed automatically. -/
def cseqHalt (n c src va reason info0 info1 : Nat) (auto : Bool) (s : State) : State :=
  let s := reg64Set (csReg n c Reg.CSEQ_CTX_HALT_PC) (va % 2 ^ 48) s
  let s := regSet (csReg n c Reg.CSEQ_CTX_HALT) (BitVec.ofNat 32 (csSource src reason <<< 28 + reason)) s
  let s := regSet (csReg n c Reg.CSEQ_CTX_HALT_INFO0) (BitVec.ofNat 32 info0) s
  let s := regSet (csReg n c Reg.CSEQ_CTX_HALT_INFO1) (BitVec.ofNat 32 info1) s
  let s := recordError (pgCseq n) reason info0 info1 s
  let s := setIrq (pgCseq n) (2 ^ (16 + c)) s
  let s := emit (pgCseq n) reason (va % 2 ^ 48 + c <<< 48 + src <<< 52) s
  let replays := rf s (csReg n c Reg.CSEQ_CTX_STATUS) 7 4
  let limit := rf s ((pgCseq n).base + Reg.CSEQ_CONFIG) 3 0
  let ok := match (cctx s n c).phase with
    | some p => p.replayOk
    | none => false
  if auto && ok && decide (replays < limit) then cctxMod n c (fun k => { k with replayDue := true }) s
  else
    let s := holdOthers n c (csStateSet n c 3 s)
    agentHalted c 0x0301 n va reason info0 info1 s

end Sys2Proof.Machine
end

