-- ==== Sys2Proof/Machine/Gate.lean ====
section
/-! DEFINITION. Who reaches a register page (R36 to R48, R506): the decode of an access, absent and unpowered pages,
the world checks of R46 and R154, and what a refused access records. -/

namespace Sys2Proof.Machine

/-- The world of a register master (R42): only the host is non-secure. -/
def Master.secure : Sys2Proof.Master → Bool
  | .host _ => false
  | .mgc => true
  | .hlth => true

/-- Master ID (R485). -/
def Master.code : Sys2Proof.Master → Nat
  | .host q => masterId 4 q.val
  | .mgc => masterId 5 0
  | .hlth => masterId 6 0

/-- Key of what a master holds for itself (R44, R478). -/
def Master.key : Sys2Proof.Master → Nat
  | .host _ => 0
  | .mgc => 1
  | .hlth => 2

/-- Pages that the Health Manager's register bus reaches (R42). -/
def hlthReaches (type : Nat) : Bool :=
  [0x0101, 0x0B02, 0x0302, 0x0303, 0x0B01, 0x0402, 0x0601, 0x0701, 0x0702, 0x0C01].contains type

/-- Pages absent by grade (R1, R39). -/
def pageAbsent (s : State) (p : Page) : Bool :=
  (p.type == 0x0308 && !hasGath s.fuses.grade) || (p.type == 0x0701 && decide (atwinPorts s.fuses.grade ≤ p.inst))

/-- Blocks of the standby domain (R19). -/
def inStandby (type : Nat) : Bool := type == 0x0901 || type == 0x0902 || type == 0x0C01

/-- A page whose domain is unpowered (R40). -/
def unpowered (s : State) (p : Page) : Bool := if inStandby p.type then !s.pins.vstby else !s.power.rails

/-- The domain that serves a page has power and the page is present. -/
def pageLive (s : State) (p : Page) : Bool := !pageAbsent s p && !unpowered s p

/-- The logical stream that the window of a Mover page selects (R283). -/
def selStream (s : State) (m : Nat) : Nat := 256 * m + rf s ((pgMov m).base + Reg.MOV_SSEL) 7 0

/-- Context of a stream. -/
def streamCtx (s : State) (i : Nat) : Nat :=
  match tget? s.streams i with
  | some x => x.ctx
  | none => 0

/-- Whether an offset belongs to a secure context's own registers on a page of the other world: the set of a secure context
on the ACON page (R154) and the entry of a stream of a secure context (R283). -/
def secureOffset (s : State) (p : Page) (off : Nat) : Bool :=
  (p.type == 0x0201 && decide (0x400 ≤ off) && decide (off < 0xC00) && ctxSecure s ((off - 0x400) / 0x100)) ||
  (p.type == 0x0601 && (decide (0x140 ≤ off && off < 0x180) || off == Reg.MOV_SCMD) &&
    ctxSecure s (streamCtx s (selStream s p.inst)))

/-- What a page records when it refuses a register access (R46, R506). -/
def refuseAccess (p : Page) (m : Sys2Proof.Master) (pa : Nat) (write : Bool) (s : State) : State :=
  emit p 0xF7 (pa % 2 ^ 42 + b2n write <<< 42 + Master.code m <<< 48) (recordError p 0x07 0 0 s)

/-- How a register access arrives at its page. -/
inductive Entry where
  | bus (decodeError : Bool)   -- no page answers: a decode error, or an absent page
  | off                        -- the page's domain is unpowered (R40)
  | denied (p : Page)          -- R46
  | go (p : Page)
deriving DecidableEq, Repr

/-- The decode and the world check of a register access (R36, R39, R40, R42, R43, R46, R154). An access of the Health Manager
outside its pages is a decode error (DESIGN CHOICE, log entry 87). -/
def entry (m : Sys2Proof.Master) (pa size : Nat) (s : State) : Entry :=
  if (size ≠ 4 ∧ size ≠ 8) ∨ pa % size ≠ 0 then .bus true
  else
    match pageAt pa with
    | none => .bus (!inPages pa)
    | some p =>
      if m = .hlth ∧ hlthReaches p.type = false then .bus true
      else if unpowered s p then .off
      else if pageAbsent s p then .bus false
      else
        let off := pa - p.base
        if Master.secure m then .go p
        else if (pageWorld s p && decide (0x10 ≤ off)) || secureOffset s p off then .denied p
        else .go p

/-- A register write that has an action: `f` runs when the access reaches the page (R36 to R46). -/
def onPage (m : Sys2Proof.Master) (pa size : Nat) (f : Page → State → State) (s : State) : State :=
  match entry m pa size s with
  | .bus true => output (.decodeError m pa) s
  | .bus false => s
  | .off => if m = .mgc then output (.poweredOff m pa) s else s
  | .denied p => refuseAccess p m pa true s
  | .go p => f p s

/-- A write to a field that only a secure master may write (R11): a refused change is recorded. -/
def onlySecure (m : Sys2Proof.Master) (p : Page) (pa : Nat) (changes : Bool) (f : State → State) (s : State) : State :=
  if Master.secure m then f s
  else if changes then refuseAccess p m pa true s
  else s

end Sys2Proof.Machine
end

