-- ==== Sys2Proof/Machine/CmemBanks.lean ====
section
/-! DEFINITION. The banks of cluster memory: power requests (R162 to R164), worlds (R165), the write-back of corrected
words (R161) and the effect of a SOFT_RESET (R508). -/

namespace Sys2Proof.Machine

/-- CMEM_BANK_BUSY bit. -/
def bankBusySet (n b v : Nat) (s : State) : State := rfSet ((pgCmem n).base + Reg.CMEM_BANK_BUSY) b b v s

/-- Begin to zero logical bank b (R164). -/
def zeroBank (n b : Nat) (s : State) : State := bankBusySet n b 1 (zeroPhys n (physBank s n b) s)

/-- A request for the power state of bank b takes effect (R162, R164). A bank that leaves OFF is zeroed; one that goes OFF
loses its contents. -/
def bankRequest (n b req : Nat) (s : State) : State :=
  if req = 3 then s
  else
    let a := (pgCmem n).base + Reg.CMEM_BANK_PWR_REQ
    let cur := bankCur s n b
    let s := reg64Set a (nset (reg64 s a) (2 * b + 1) (2 * b) req) s
    if req = 2 then
      if cur = 2 then s else bankBusySet n b 0 (zeroPhys n (physBank s n b) (bankCurSet n b 2 s))
    else
      let s := bankCurSet n b req s
      if cur = 2 then zeroBank n b s else s

/-- A write of CMEM_BANK_PWR_REQ. -/
def bankPwrWrite (n v : Nat) (s : State) : State :=
  (List.range 32).foldl (fun s b => bankRequest n b (nfld v (2 * b + 1) (2 * b)) s) s

/-- The world of bank b changes (R165): from S to NS the bank is zeroed. -/
def bankWorldSet (n b : Nat) (sec : Bool) (s : State) : State :=
  let was := bankSecure s n b
  let s := rfSet ((pgCmem n).base + Reg.CMEM_BANK_WORLD) b b (b2n sec) s
  if was && !sec && bankCur s n b != 2 then zeroBank n b s else s

/-- A write of CMEM_BANK_WORLD by a secure master. -/
def bankWorldWrite (n v : Nat) (s : State) : State :=
  (List.range 32).foldl (fun s b => bankWorldSet n b (nbit v b) s) s

/-- RET_IDLE_EXPIRY (R163). -/
def retIdleState (n b : Nat) (s : State) : State :=
  if bankReq s n b = 1 ∧ bankCur s n b = 0 ∧ bankBusy s n b = false ∧
      rf s ((pgCmem n).base + Reg.CMEM_RET_IDLE) 15 0 ≠ 0 then bankCurSet n b 1 s
  else s

/-- BANK_ZERO_DONE (R164). -/
def bankZeroDoneState (n b : Nat) (s : State) : State := if bankBusy s n b then bankBusySet n b 0 s else s

/-- ECC_WRITEBACK (R161): the corrected word is stored and reads without an error from then on. -/
def eccWritebackState (n w : Nat) (s : State) : State :=
  let key := wordKey s n w
  if (clu s n).writeback.contains key then
    cluMod n (fun c => { c with
      writeback := c.writeback.filter (· != key), correct := c.correct.filter (· != key) }) s
  else s

/-- SOFT_RESET of the CMEM page reaches OFF (R508). -/
def cmemSoftReset (n : Nat) (s : State) : State := bankWorldWrite n 0 (bankPwrWrite n 0 s)

end Sys2Proof.Machine
end

