-- ==== Sys2Proof/Machine/Guard.lean ====
section
/-! DEFINITION. The Schedule Guard (R179 to R183): live entries, conflicts, the three pools, the refusal of engine
commands and chunks, and the array owners that cannot be refused. -/

namespace Sys2Proof.Machine

/-- An operand range that is to enter the Guard: [first, last) with its kind. -/
structure GRange where
  write : Bool
  first : Nat
  last  : Nat
deriving DecidableEq, Repr

/-- Entries still live at ECLK `now`: an entry is live through the ECLK of its last access (R179). -/
def liveEntries (now : Nat) (g : List GEntry) : List GEntry :=
  g.filter (fun e => match e.leave with
    | none => true
    | some t => decide (now ≤ t))

/-- First overlapping byte of two ranges, if any. -/
def overlap (a0 a1 b0 b1 : Nat) : Option Nat := if max a0 b0 < min a1 b1 then some (max a0 b0) else none

/-- The conflict of a new range with a live entry (R180). -/
def conflictWith (r : GRange) (e : GEntry) : Option Nat :=
  if r.write || e.write then overlap r.first r.last e.first e.last else none

/-- The conflict that is reported: the lowest first overlapping byte, and among those the entry that entered first. -/
def firstConflict (rs : List GRange) (g : List GEntry) : Option (Nat × GRange × GEntry) :=
  (g.flatMap (fun e => rs.filterMap (fun r => (conflictWith r e).map (fun b => (b, r, e))))).foldl
    (fun best x => match best with
      | none => some x
      | some y => if x.1 < y.1 then some x else some y) none

/-- The pool of an owner code and its size (R181): engines 224, array 16, Movers and XSEQ 16. -/
def poolSize (owner : Nat) : Nat := if owner ≤ 6 then 224 else 16

/-- Whether two owners share a pool. -/
def samePool (a b : Nat) : Bool :=
  (decide (a ≤ 6) && decide (b ≤ 6)) || (decide (8 ≤ a) && decide (a ≤ 0xA) && decide (8 ≤ b) && decide (b ≤ 0xA)) ||
  (decide (0xB ≤ a) && decide (0xB ≤ b))

/-- What the Guard answers to a newcomer. -/
inductive GAnswer where
  | enter
  | slip (byte : Nat) (new : GRange) (old : GEntry)
  | full
deriving DecidableEq, Repr

/-- Number of the command that a chunk belongs to: the chunks of one COPY are one command (R180). Mover and XSEQ chunks
carry numbers from 2^40 upward, 2^20 to a stream or operation. -/
def chunkCmd (agent off : Nat) : Nat := 2 ^ 40 + agent * 2 ^ 20 + off / 4096

/-- Whether two entries belong to one command. -/
def sameCmd (a b : Nat) : Bool := a == b || (decide (2 ^ 40 ≤ a) && decide (2 ^ 40 ≤ b) && a / 2 ^ 20 == b / 2 ^ 20)

/-- Judge a newcomer of cluster n that carries command number `cmd` (R180, R181). -/
def guardJudgeAs (s : State) (n owner cmd : Nat) (rs : List GRange) : GAnswer :=
  let g := liveEntries s.clk.eclk (clu s n).guard
  match firstConflict rs (g.filter (fun e => !sameCmd e.cmd cmd)) with
  | some (b, r, e) => .slip b r e
  | none => if poolSize owner < (g.filter (fun e => samePool owner e.owner)).length + rs.length then .full else .enter

/-- Judge a command that has no entry yet. -/
def guardJudge (s : State) (n owner : Nat) (rs : List GRange) : GAnswer := guardJudgeAs s n owner (clu s n).nextCmd rs

/-- The SLIP register layout (R183). -/
def slipWord (owner : Nat) (write : Bool) (first last : Nat) : Nat :=
  owner <<< 60 + b2n write <<< 59 + last <<< 22 + first

/-- Latch the SLIP registers (R183). -/
def latchSlip (n owner : Nat) (r : GRange) (e : GEntry) (external : Bool) (cycle : Nat) (s : State) : State :=
  let b := (pgGuard n).base
  let s := reg64Set (b + Reg.GUARD_SLIP_NEW) (slipWord owner r.write r.first r.last) s
  let s := reg64Set (b + Reg.GUARD_SLIP_OLD) (slipWord e.owner e.write e.first e.last) s
  regSet (b + Reg.GUARD_SLIP_CYCLE) (BitVec.ofNat 32 (b2n external <<< 16 + cycle % 65536)) s

/-- Let ranges of master `who` enter under a command number; an entry counts with its master and address (R484). -/
def guardEnterAs (n owner who cmd : Nat) (rs : List GRange) (leave : Option Nat) (s : State) : State :=
  let k := clu s n
  let g := liveEntries s.clk.eclk k.guard ++ rs.map (fun r => ⟨owner, r.write, r.first, r.last, cmd, leave, who⟩)
  let s := cluMod n (fun k => { k with guard := g }) s
  let a := (pgGuard n).base + Reg.GUARD_USE
  let s := rfSet a 24 16 (max (rf s a 24 16) (min 256 g.length)) s
  rs.foldl (fun s r => tally (pgGuard n) 0x0100 1 { master := some who, addr := some (cmemPa n r.first) } s) s

/-- Let ranges enter as one command's entries; answers the command number they carry. -/
def guardEnter (n owner : Nat) (rs : List GRange) (leave : Option Nat) (s : State) : Nat × State :=
  let cmd := (clu s n).nextCmd
  (cmd, guardEnterAs n owner (if 8 ≤ owner then masterId 0 0 else masterId 1 n) cmd rs leave (cluMod n (fun k => { k with nextCmd := k.nextCmd + 1 }) s))

/-- A command's entries leave at ECLK `t`. -/
def guardLeave (n cmd t : Nat) (s : State) : State :=
  cluMod n (fun k => { k with guard := k.guard.map (fun e => if e.cmd = cmd then { e with leave := some t } else e) }) s

/-- The working state of an engine at OFF (R53, R204): latches, accumulator sets with their registers, the kernel store, the
VEC registers, and _M commands under way. -/
def engineOff (p : Page) (s : State) : State :=
  let n := p.inst
  match p.type with
  | 0x0303 =>
    let s := (List.range 8).foldl (fun s c => reg64Set (p.base + Reg.VEC_CTX_ACC + 0x40 * c) 0 s) s
    cluMod n (fun c => { c with vecLatch := [], accSets := [], kstore := [], lanes := [] }) s
  | 0x0306 => cluMod n (fun c => { c with convLatch := [] }) s
  | 0x0308 =>
    let s := (clu s n).gath.foldl (fun s j => guardLeave n j.cmd s.clk.eclk s) s
    rfSet (p.base + Reg.GATH_POSTED) 2 0 0 (cluMod n (fun c => { c with gath := [] }) s)
  | _ => s

/-- INFO0 of a SCHEDULE_SLIP of the Guard (R182). -/
def slipInfo0 (old new byte : Nat) : Nat := old <<< 28 + new <<< 24 + byte

/-- Phase cycle of the CSEQ of cluster n for context c; 0 outside a phase. -/
def cseqCycle (s : State) (n c : Nat) : Nat :=
  match (cctx s n c).phase with
  | some p => phaseCycle s p % 65536
  | none => 0

/-- A refused chunk is latched in the Guard of a cluster where it conflicts, with that cluster's phase cycle (R180, R183). -/
def latchChunk (n owner cmd : Nat) (r : GRange) (s : State) : State :=
  match guardJudgeAs s n owner cmd [r] with
  | .slip _ nw old => latchSlip n owner nw old false (((csActive s n).map (cseqCycle s n)).getD 0) s
  | _ => s

/-- A port-B chunk finds every place of its pool held by an entry with no end in sight: it waits (R181). -/
def portBFull (s : State) (n : Nat) : Bool :=
  decide (16 ≤ ((clu s n).guard.filter (fun e => samePool 0xB e.owner && e.leave.isNone)).length)

/-- The ECLK from which a place of the port-B pool is free: the first of its entries to leave has left (R181). -/
def portBFreeAt (s : State) (n : Nat) : Nat :=
  let l := ((liveEntries s.clk.eclk (clu s n).guard).filter (fun e => samePool 0xB e.owner)).filterMap (·.leave)
  match l with
  | [] => s.clk.eclk
  | t :: ts => ts.foldl min t + 1

/-- ACON withholds the signals of window `serial` of context c (R180), be it current or ended. -/
def withhold (c serial : Nat) (s : State) : State :=
  let mark (w : Window) : Window := if w.serial = serial then { w with withheld := true } else w
  actxMod c (fun a => { a with
    win := a.win.map mark
    ended := a.ended.map (fun e => { e with window := mark e.window }) }) s

/-- An array owner's entries enter whatever they meet (R180). A conflict halts the CSEQ with EXTERNAL = 1 and ACON
withholds the signals of the issuing window `serial`. -/
def guardArray (n c serial owner : Nat) (rs : List GRange) (leave : Option Nat) (s : State) : Nat × State :=
  let g := liveEntries s.clk.eclk (clu s n).guard
  let hit := firstConflict rs g
  let (cmd, s) := guardEnter n owner rs leave s
  match hit with
  | none => (cmd, s)
  | some (b, r, e) =>
    let cc := (csActive s n).getD c
    let cyc := cseqCycle s n cc
    let s := latchSlip n owner r e true cyc s
    let s := withhold c serial s
    (cmd, cseqHalt n cc 0 (reg64 s (csReg n cc Reg.CSEQ_CTX_PC)) 0x04 (slipInfo0 e.owner owner b) (65536 + cyc) false s)

end Sys2Proof.Machine
end

