-- ==== Sys2Proof/Machine/Tensors.lean ====
section
/-! DEFINITION. Tensor descriptors (R137 to R139), Scale Keeper values that they name (R229), and the placement of
elements in cluster memory (R62, R138, R156). -/

namespace Sys2Proof.Machine

/-- An entry of the Scale Keeper as device reset leaves it: all zero, history empty, COLD (R245). -/
def skReset : SkEntry where
  hist := List.replicate 16 (-32768)
  scaleExp := 0
  gradFrame := 0
  headroom := 0
  hrMin := 0
  cold := true
  kind := false
  action := false
  jobWide := false
  ctx := 0
  fmt := 0
  sumLog2 := 0
  clean := 0
  zeros := 0
  sats := 0
  nonfinite := 0
  drops := 0
  elements := 0
  wAmax := -32768
  wCorr := 0
  wCounts := zeroCounts
  wElements := 0

/-- Entry i of the Scale Keeper. -/
def sk (s : State) (i : Nat) : SkEntry := tget s.skeep skReset i

/-- The descriptor that 64 bytes of the TDT hold (R138), its exponent not yet resolved. -/
def parseTensor (v : Nat) : Tensor :=
  let f8 (o : Nat) := nfld v (8 * o + 7) (8 * o)
  let f16 (o : Nat) := nfld v (8 * o + 15) (8 * o)
  let f32 (o : Nat) := nfld v (8 * o + 31) (8 * o)
  let base := nfld v 63 0
  let flags := f16 0x0A
  let resident := nbit flags 1
  { base := if resident then base % 2 ^ 22 else base % 2 ^ 48
    format := f8 0x08 % 32
    rank := f8 0x09
    valid := nbit flags 0
    resident := resident
    transposed := nbit flags 2
    secure := nbit flags 3
    expSrc := nbit flags 4
    skeepIndex := f16 0x0C % 2 ^ 14
    exp := sext 12 (f16 0x0E)
    tensorId := f32 0x10
    bscaleOff := f32 0x14
    dims := (List.range 5).map (fun i => f32 (0x18 + 4 * i))
    strides := (List.range 4).map (fun i => f32 (0x2C + 4 * i))
    reservedOk :=
      (if resident then base >>> 22 == 0 else base >>> 48 == 0) && f8 0x08 / 32 == 0 && flags / 32 == 0 &&
      f16 0x0C / 2 ^ 14 == 0 && f16 0x0E / 2 ^ 12 == 0 && f32 0x3C == 0 }

/-- DIM d of a tensor. -/
def Tensor.dim (t : Tensor) (d : Nat) : Nat := lget t.dims d 1
/-- STRIDE d of a tensor; dimension 0 is dense. -/
def Tensor.stride (t : Tensor) (d : Nat) : Nat := if d = 0 then 1 else lget t.strides (d - 1) 0

/-- The tests of R139 that every reader of a descriptor applies: VALID, reserved fields, RANK, format code, dimensions
above RANK. -/
def tensorBad (t : Tensor) : Bool :=
  !t.valid || !t.reservedOk || t.rank == 0 || decide (5 < t.rank) || fmtReserved t.format ||
  (List.range 5).any (fun d => decide (t.rank ≤ d) && t.dim d != 1)

/-- The exponent a descriptor names (R138, R229): its EXP field, or the Scale Keeper entry's scale exponent, or its
gradient frame for G64. A COLD entry reads 0 and counts SKEEP_COLD_USE (R237). -/
def resolveExp (t : Tensor) (s : State) : Int × State :=
  if t.expSrc then
    let e := sk s t.skeepIndex
    let v := if t.format = 0x0E then e.gradFrame else e.scaleExp
    if e.cold then
      let p := pgSkeep (t.skeepIndex / 8192)
      (0, emitBare p 0xC4 (rfAdd (p.base + Reg.SKEEP_COLD_USE) 31 0 1 s))
    else (v, s)
  else (t.exp, s)

/-- Context c's TDT partition: FIRST and COUNT (R137). -/
def tdtFirst (s : State) (c : Nat) : Nat := rf s (acReg c Reg.ACON_CTX_TDT) 15 0
def tdtCount (s : State) (c : Nat) : Nat := rf s (acReg c Reg.ACON_CTX_TDT) 31 16

/-- How a handle resolves: the descriptor, a handle error, a world error, or a failed read of the table. -/
inductive TRead where
  | ok (t : Tensor)
  | invalid
  | world
  | fail (e : Fail)
deriving DecidableEq, Repr

/-- Read the descriptor of a handle (R137): a physical read with class ON_DIE and world S (R270); none where the handle is not
below COUNT. An index FIRST + h past the table reads on in memory (DESIGN CHOICE, log entry 98). -/
def fetchTensor (c h : Nat) (s : State) : Except Fail (Option Tensor) × State :=
  if tdtCount s c ≤ h then (.ok none, s)
  else
    let a := reg64 s (pgAcon.base + Reg.ACON_TDT_BASE) % 2 ^ 48 + 64 * (tdtFirst s c + h)
    match physRead .onDie true a 64 s with
    | (.error e, s) => (.error e, s)
    | (.ok bytes, s) => (.ok (some (parseTensor (leNat bytes))), s)

/-- ACON's reading of a handle (R139): of two failures the lower code, WORLD_DENIED, is reported. The exponent is resolved. -/
def readTensor (c h : Nat) (secureCtx : Bool) (s : State) : TRead × State :=
  match fetchTensor c h s with
  | (.error e, s) => (.fail e, s)
  | (.ok none, s) => (.invalid, s)
  | (.ok (some t), s) =>
    if t.secure && !secureCtx then (.world, s)
    else if tensorBad t then (.invalid, s)
    else
      let (x, s) := resolveExp t s
      (.ok { t with exp := x }, s)

/-! ### Elements in cluster memory -/

/-- Bit offset of element (k, x) of a slice: dimension 0 dense, dimension 1 on STRIDE1, exchanged when transposed
(R138). -/
def sliceBit (t : Tensor) (tr : Bool) (k x : Nat) : Nat :=
  (if tr then k * t.stride 1 + x else x * t.stride 1 + k) * fmtBits t.format

/-- Byte offset and bit within the byte of an element at bit offset `b` of a tensor based at `base` (R62). -/
def elemByte (base b : Nat) : Nat × Nat := (base + b / 8, b % 8)

/-- Bytes that an element of `bits` at bit offset `b` touches. -/
def elemLen (b bits : Nat) : Nat := (b % 8 + bits + 7) / 8

/-- The code of an element from the bytes that hold it. -/
def codeOf (b bits : Nat) (data : List Byte) : Nat := (leNat data >>> (b % 8)) % 2 ^ bits

/-- CMEM addresses wrap at no point: an offset at or above 4 MiB does not exist (R156). -/
def cmemTop : Nat := 0x40_0000

end Sys2Proof.Machine
end

