-- ==== Sys2Proof/Machine/Checks.lean ====
section
/-! DEFINITION. Residues of the array (R385 to R388), the maps from logical to physical core lines (R402), wave offsets
(R97, R98), surviving bands (R17, R119), retired pages (R41) and mismatch counts (R399). -/

namespace Sys2Proof.Machine

/-- The modulus of the residue checks. -/
def resMod : Nat := 8191

/-- V mod 8191, the least non-negative residue (R385). -/
def residue (v : Int) : Nat := (v % (resMod : Int)).toNat

/-- 2^g mod 8191 for any integer g: 2 has order 13 (R386). -/
def pow2Res (g : Int) : Nat := 2 ^ (g % 13).toNat

/-- The residue X × 2^g mod 8191 of an operand; 0 for NaN and ±∞ (R386). -/
def operandRes : Val → Nat
  | .fin s m e => residue ((if s then -(m : Int) else m) * (pow2Res e : Int))
  | _ => 0

/-! ### Lines and bands -/

/-- Failed physical row and column lines of a cluster (R402). -/
def rowFailed (s : State) (n : Nat) : Nat := rf s ((pgCore n).base + Reg.CORE_ROW_MAP) 17 0
def colFailed (s : State) (n : Nat) : Nat := rf s ((pgCore n).base + Reg.CORE_COL_MAP) 17 0

/-- Number of failed lines. -/
def failCount (mask : Nat) : Nat := (bitsOf 18 mask).length

/-- Physical positions of logical lines 0 to 15 (R402). -/
def linePositions (mask : Nat) : List Nat := ((List.range 18).filter (fun p => !nbit mask p)).take 16

/-- Physical position of a logical line. -/
def linePos (mask l : Nat) : Nat := lget (linePositions mask) l l

/-- Whether a dimension has its check line (R402). -/
def hasCheckLine (mask : Nat) : Bool := failCount mask == 0 || (failCount mask == 1 && !nbit mask 17)

/-- CHECK.REDUCED of a cluster: a dimension has no check line (R94, R388). -/
def reducedCheck (s : State) (n : Nat) : Bool := !(hasCheckLine (rowFailed s n) && hasCheckLine (colFailed s n))

/-- Wave position of a line (R98). -/
def wavePos (x p : Nat) : Nat := 18 * x + p + (if 16 ≤ x then 6 else 0)

/-- Surviving row bands and column bands in order (R17, R119). -/
def rowBands (s : State) : List Nat := bitsOf 32 (rf s (pgAcon.base + Reg.ACON_ROW_BANDS) 31 0)
def colBands (s : State) : List Nat := bitsOf 32 (rf s (pgAcon.base + Reg.ACON_COL_BANDS) 31 0)

/-- Clusters that are in no retired band: surviving row index, surviving column index, cluster number. -/
def arrayClusters (s : State) : List (Nat × Nat × Nat) :=
  ((rowBands s).zipIdx).flatMap (fun (cr, sr) => ((colBands s).zipIdx).map (fun (cc, sc) => (sr, sc, cr * 32 + cc)))

/-- M and N of ACON_GEOMETRY. -/
def geomM (s : State) : Nat := rf s (pgAcon.base + Reg.ACON_GEOMETRY) 9 0
def geomN (s : State) : Nat := rf s (pgAcon.base + Reg.ACON_GEOMETRY) 25 16

/-- Wave offset of the last logical core of the array. -/
def lastOffset (s : State) : Nat :=
  match (arrayClusters s).getLast? with
  | some (_, _, n) => wavePos (n / 32) (linePos (rowFailed s n) 15) + wavePos (n % 32) (linePos (colFailed s n) 15)
  | none => 0

/-! ### Failure maps (R41, R400) -/

/-- A page's unit serves no more (R41): CAPS.RETIRED, and STATE OFF. -/
def pageRetired (p : Page) (s : State) : State :=
  let s := rfSet (p.base + Hdr.CAPS) 1 1 1 s
  if pageState s p = 0 then s else reachOff p s

/-- A page's unit is retired for good (R41, R400): the failure maps record it too. -/
def retirePage (p : Page) (s : State) : State :=
  let s := pageRetired p s
  mapsMod (fun m => { m with pages := if m.pages.contains p.base then m.pages else m.pages ++ [p.base] }) s

/-! ### Health windows and mismatch counts -/

/-- MISMATCH_LIMIT; 0 is treated as 1 (R413). -/
def mismatchLimit (s : State) : Nat := max 1 (rf s (pgHlth.base + Reg.HLTH_CONFIG) 15 8)

/-- SPARE_EXHAUSTED of the Health Manager (R406). -/
def spareExhausted (kind inst : Nat) (s : State) : State := emitFields pgHlth 0x14 [(8, kind), (16, inst)] (alert 1 s)

/-- A unit of cluster n disagrees once: its mismatch count rises in the current window, and at the limit it becomes
SUSPECT (R399). -/
def unitMismatch (n : Nat) (u : Unit3) (s : State) : State :=
  let k := healthWindow s (rf s (pgHlth.base + Reg.HLTH_CONFIG) 31 16 * 1000)
  let c := clu s n
  let counts := if c.misWindow = k then c.misCounts else []
  let old := ((counts.find? (fun e => e.1 == u)).map (·.2)).getD 0
  let counts := (u, old + 1) :: counts.filter (fun e => e.1 != u)
  let sus := if mismatchLimit s ≤ old + 1 && !c.suspects.contains u then c.suspects ++ [u] else c.suspects
  cluMod n (fun c => { c with misWindow := k, misCounts := counts, suspects := sus }) s

/-- Event 0x0B01 of a check mismatch (R414). Where no one core is named, the core is a free value (log entry 5). -/
def mismatchEvent (n kind : Nat) (core : Option (Fin 324)) (s : State) : State :=
  match core with
  | some k => emitFields pgHlth 0x01 [(16, n), (8, kind), (9, k.val)] s
  | none =>
    let (v, s) := draw s
    emitFields pgHlth 0x01 [(16, n), (8, kind), (9, v)] s

/-- The health window of MISMATCH_WINDOW_S that now is (R399, R408). -/
def coreWindowNow (s : State) : Nat := healthWindow s (rf s (pgHlth.base + Reg.HLTH_CONFIG) 31 16 * 1000)

/-- A check mismatch of one physical core (R399): CORE_MISMATCH of the cluster and its count. -/
def coreMismatch (n : Nat) (core : Fin 324) (s : State) : State :=
  let a := (pgCore n).base + Reg.CORE_MISMATCH
  let k := coreWindowNow s
  let s := if (clu s n).coreWindow = k then s else rfSet a 31 16 0 (cluMod n (fun c => { c with coreWindow := k }) s)
  let s := rfSet a 8 0 core.val (rfAdd a 31 16 1 s)
  unitMismatch n (.core core) s

/-- Physical core of logical core (r, c) of a cluster (R402, R413). -/
def physCore (s : State) (n r c : Nat) : Fin 324 :=
  Fin.ofNat 324 (linePos (rowFailed s n) r * 18 + linePos (colFailed s n) c)

end Sys2Proof.Machine
end

