-- ==== Sys2Proof/Machine/Array.lean ====
section
/-! DEFINITION. The Great Array: operand panels (R101 to R106, R138), the products of an MMA (R104, R111), the issue
checks of ACON (R110, R116, R127, R130, R134, R135), DRAIN and SAVE with their comparison and records (R86 to R96,
R113 to R115, R388, R389, R507), and RESTORE (R143, R144). -/

namespace Sys2Proof.Machine

/-! ### Depth and pairings -/

/-- Products per accumulator and ACLK of a format (R100). -/
def depthOf (fmt : Nat) : Nat :=
  if fmt = 1 ∨ fmt = 2 ∨ fmt = 6 then 4 else if fmt = 3 then 8 else if fmt = 4 ∨ fmt = 5 then 16 else 1

/-- The pairings of R77. -/
def pairingOk (a b : Nat) : Bool :=
  (a == b && arrayInput a) || ((a == 1 || a == 2) && (b == 1 || b == 2))

/-- The default frame of a pairing, where it has one (R77). -/
def defaultFrame (a b : Nat) : Option Int :=
  if a = 1 ∧ b = 1 then some (-18)
  else if (a = 1 ∧ b = 2) ∨ (a = 2 ∧ b = 1) then some (-25)
  else if a = 2 ∧ b = 2 then some (-32)
  else if a = 8 ∧ b = 8 then some (-48)
  else if (a = 5 ∧ b = 5) ∨ (a = 6 ∧ b = 6) then some 0
  else none

/-! ### Operand panels -/

/-- Why a word of CMEM cannot be used by an array access: refused, or poisoned (R109, R161). -/
def wordBad (s : State) (n : Nat) (secure : Bool) (w : Nat) : Option Nat :=
  match bankRefusal s n (cmemBank w) secure with
  | some r => some r
  | none => if (clu s n).poison.contains (wordKey s n w) then some 0x15 else none

/-- The first bad word of an access: reason and offset. -/
def spanBad (s : State) (n : Nat) (secure : Bool) (off len : Nat) : Option (Nat × Nat) :=
  (wordsOf off len).findSome? (fun w => (wordBad s n secure w).map (fun r => (r, w * 8)))

/-- One operand as an injector presents it: a value, or the reason and offset of the word it cannot use. -/
inductive PElem where
  | val (v : Val)
  | bad (reason off : Nat)
deriving DecidableEq, Repr

/-- Element k of slice row x of a panel, which is row 32 × band + x of the tensor: +0 beyond the extents (R101, R139).
Integer codes are read without their scale exponent, which F_eff carries (R76). -/
def panelElem (s : State) (n : Nat) (secure : Bool) (t : Tensor) (tr : Bool) (band x k : Nat) : PElem :=
  if t.dim 0 ≤ k ∨ t.dim 1 ≤ 32 * band + x then .val (.fin false 0 0)
  else
    let b := sliceBit t tr k x
    let bits := fmtBits t.format
    let o := (t.base + b / 8) % cmemTop
    match spanBad s n secure o (elemLen b bits) with
    | some (r, w) => .bad r w
    | none =>
      let code := codeOf b bits (cmemGetRaw s n o (elemLen b bits))
      if isBlockFmt t.format then
        let so := (t.base + t.bscaleOff + x * ceilDiv (t.dim 0) 32 + k / 32) % cmemTop
        match spanBad s n secure so 1 with
        | some (r, w) => .bad r w
        | none => .val (decodeBlock ((floatOf t.format).getD fMace) (cmemByte s n so).toNat code)
      else .val (decodeFmt t.format 0 code)

/-- `count` elements of a panel row from K position `kpos`. -/
def panelRow (s : State) (n : Nat) (secure : Bool) (t : Tensor) (tr : Bool) (band x kpos count : Nat) : List PElem :=
  (List.range count).map (fun i => panelElem s n secure t tr band x (kpos + i))

/-- The first bad element of a row: its index, reason and offset. -/
def firstBad : List PElem → Nat → Option (Nat × Nat × Nat)
  | [], _ => none
  | .bad r o :: _, i => some (i, r, o)
  | .val _ :: t, i => firstBad t (i + 1)

/-- The values of a row; a bad element beyond the halt is never used. -/
def rowVals (l : List PElem) : List Val := l.map (fun e => match e with
  | .val v => v
  | .bad _ _ => .fin false 0 0)

/-- The earlier of two underruns or bad words, by step: step, cluster, reason, offset. -/
def earlier (a b : Option (Nat × Nat × Nat × Nat)) : Option (Nat × Nat × Nat × Nat) :=
  match a, b with
  | none, y => y
  | x, none => x
  | some x, some y => if y.1 < x.1 then some y else some x

/-- What both injectors of a pass present: for every surviving band its cluster and 32 rows of elements. -/
def panelRows (s : State) (secure : Bool) (t : Tensor) (tr : Bool) (feeds : List Nat) (kpos count : Nat) :
    List (Nat × List (List PElem)) :=
  (feeds.zipIdx).map (fun (n, band) =>
    (n, (List.range 32).map (fun x => panelRow s n secure t tr band x kpos count)))

/-- The earliest step at which a panel cannot be presented. -/
def panelFault (d : Nat) (rows : List (Nat × List (List PElem))) : Option (Nat × Nat × Nat × Nat) :=
  rows.foldl (fun best (n, rs) =>
    rs.foldl (fun best r => earlier best ((firstBad r 0).map (fun (i, reason, o) => (i / d, n, reason, o)))) best) none

/-- The words that an injector reads for `count` K positions of a panel: elements, and block scales (R57, R138). -/
def panelWords (t : Tensor) (tr : Bool) (kpos count : Nat) : List Nat :=
  ((List.range 32).flatMap (fun x => (List.range count).flatMap (fun i =>
    let k := kpos + i
    let b := sliceBit t tr k x
    if t.dim 0 ≤ k then []
    else
      wordsOf ((t.base + b / 8) % cmemTop) (elemLen b (fmtBits t.format)) ++
      (if isBlockFmt t.format then
        wordsOf ((t.base + t.bscaleOff + x * ceilDiv (t.dim 0) 32 + k / 32) % cmemTop) 1 else [])))).eraseDups

/-- Touch the words a panel reads, so that a correctable or an uncorrectable error is counted (R161) and a bank in RET
wakes (R163). -/
def touchPanel (secure : Bool) (t : Tensor) (tr : Bool) (kpos count : Nat) (feeds : List Nat) (s : State) : State :=
  let ws := panelWords t tr kpos count
  feeds.foldl (fun s n =>
    ws.foldl (fun s w =>
      if (bankRefusal s n (cmemBank w) secure).isSome then s
      else (eccRead n .a w (wakeBank n (cmemBank w) s)).2) s) s

/-- Whether the injector of cluster n can miss a step of a panel (R109): a bank that it reads is in RET, or several of its reads
for one step fall in one bank. -/
def canMiss (s : State) (n : Nat) (t : Tensor) (tr : Bool) (kpos d steps : Nat) : Bool :=
  (List.range steps).any (fun st =>
    let bs := (panelWords t tr (kpos + st * d) d).map cmemBank
    bs.any (fun b => bankCur s n b == 1) || bs.eraseDups.length != bs.length)

/-! ### Adding products -/

/-- An accumulator never written. -/
def CoreAcc.empty : CoreAcc := ⟨accEmpty, 0⟩

/-- Add one row's and one column's operand pairs to an accumulator of 280 bits, with its residue, which adds what each
product adds (R73, R79, R385). -/
def coreAdd (n : Nat) (f : Int) (k0 : Nat) (zero : Bool) (a b : List Val) (old : CoreAcc) : CoreAcc :=
  let old := if zero then CoreAcc.empty else old
  let acc := accPairs n f k0 (a.zip b) old.acc
  { acc := accWrap acc, residue := residue ((old.residue : Int) + (acc.value - old.acc.value)) }

/-- Σ over k of the products of two residue rows, times 2^(−f) (R387). -/
def checkAdd (f : Int) (a b : List Nat) (old : Nat) : Nat :=
  ((List.zipWith (· * ·) a b).foldl (· + ·) 0 * pow2Res (-f) + old) % resMod

/-- The sums of residues over the 16 rows of each parity: step k of parity p (R387). -/
def parityRes (rows : List (List Val)) (p : Nat) : List Nat :=
  ((rows.zipIdx).filter (fun e => e.2 % 2 == p)).foldl
    (fun acc (r, _) => match acc with
      | [] => r.map operandRes
      | _ => List.zipWith (fun x v => (x + operandRes v) % resMod) acc r) []

/-- Put a list of keyed values into a table. -/
def tputAll {α : Type} (t : Table α) (l : List (Nat × α)) : Table α := l.foldl (fun t e => tput t e.1 e.2) t

/-- Add the products of an MMA to one cluster's accumulators and check lines. -/
def clusterMma (lim : Nat) (f : Int) (k0 : Nat) (zero : Bool) (n : Nat) (a b : List (List Val)) (bk : Bank) : Bank :=
  let accs := (a.zipIdx).flatMap (fun (ra, x) => (b.zipIdx).map (fun (cb, y) =>
    let key := n * 1024 + x * 32 + y
    (key, coreAdd lim f k0 zero ra cb (tget bk.accs CoreAcc.empty key))))
  let rowsOf (t : Table Nat) (par : List (List Val)) (side : List (List Val)) : List (Nat × Nat) :=
    (List.range 2).flatMap (fun p =>
      let sums := parityRes par p
      (side.zipIdx).map (fun (r, y) =>
        let key := n * 64 + p * 32 + y
        (key, checkAdd f sums (r.map operandRes) (if zero then 0 else tget t 0 key))))
  { bk with
    accs := tputAll bk.accs accs
    checkRow := tputAll bk.checkRow (rowsOf bk.checkRow a b)
    checkCol := tputAll bk.checkCol (rowsOf bk.checkCol b a) }

/-! ### Banks -/

/-- A physical bank. -/
def bankOf (s : State) (p : Nat) : Bank := if p = 0 then s.array.bank0 else s.array.bank1

/-- Replace it. -/
def bankPut (p : Nat) (b : Bank) (s : State) : State :=
  { s with array := if p = 0 then { s.array with bank0 := b } else { s.array with bank1 := b } }

/-- ACON's bank record of context c for a physical bank (R145). -/
def recOf (s : State) (c p : Nat) : BankRec := if p = 0 then (actx s c).rec0 else (actx s c).rec1

/-- Replace it. -/
def recPut (c p : Nat) (r : BankRec) (s : State) : State :=
  actxMod c (fun a => if p = 0 then { a with rec0 := r } else { a with rec1 := r }) s

/-- Physical bank of a logical bank now (R112). -/
def physOf (s : State) (c lb : Nat) : Nat := if (actx s c).swap then 1 - lb else lb

/-! ### Issue -/

/-- The window that context c runs. -/
def curWin (s : State) (c : Nat) : Option Window := (actx s c).win

/-- Change the current window. -/
def winMod (c : Nat) (f : Window → Window) (s : State) : State :=
  actxMod c (fun a => { a with win := a.win.map f }) s

/-- A timed instruction ready to issue: the context, the window and the instruction. -/
structure Issue where
  ctx : Nat
  win : Window
  ins : Timed
deriving DecidableEq, Repr

/-- AT of an instruction (R126). -/
def Issue.at_ (i : Issue) : Nat := fld i.ins.word 119 104
/-- Window cycle of the issue: the second pass of an audited window runs from cycle LEN (R136). -/
def Issue.cycle (i : Issue) : Nat := i.at_ + (if i.win.second then i.win.len else 0)
/-- ACLK of the issue. -/
def Issue.t (i : Issue) : Nat := i.win.cycle0 + i.at_

/-- The instruction of opcode `op` that the running window issues next (R130). -/
def nextIssue (s : State) (op : Nat) : Option Issue :=
  match running s with
  | none => none
  | some c =>
    match curWin s c with
    | none => none
    | some w =>
      match w.phase, w.instrs with
      | .running, i :: _ => if fld i.word 127 120 = op then some ⟨c, w, i⟩ else none
      | _, _ => none

/-- The effect of a FRAME on physical bank p (06 R126): it sets the bank's frame, or marks it not set. -/
def frameEffect (c p : Nat) (w : Slot) (s : State) : State :=
  let r := recOf s c p
  let fa := fld w 100 96
  let fb := fld w 95 91
  let f := if bit w 101 then (defaultFrame fa fb).getD 0 else sext 12 (fld w 90 79)
  recPut c p (if bit w 102 then { r with frameSet := false }
    else if r.frameSet && r.f == f && r.fmtA == fa && r.fmtB == fb then r
    else { r with frameSet := true, reframed := true, f := f, fmtA := fa, fmtB := fb }) s

/-- The effect of a FRAME or SWAP (R111, R112). -/
def afterEffect (c : Nat) (e : Nat × Nat × Slot) (s : State) : State :=
  if fld e.2.2 127 120 = 0x05 then actxMod c (fun a => { a with swap := !a.swap }) s else frameEffect c e.2.1 e.2.2 s

/-- FRAMEs and SWAPs of window cycles before `upTo` take effect, in program order (R111). -/
def settle (c upTo : Nat) (s : State) : State :=
  match curWin s c with
  | none => s
  | some w =>
    (w.after.filter (fun e => decide (e.1 < upTo))).foldl (fun s e => afterEffect c e s)
      (winMod c (fun w => { w with after := w.after.filter (fun e => decide (upTo ≤ e.1)) }) s)

/-- A FRAME or SWAP issues: it takes effect for what issues after its cycle (R111). -/
def afterPut (i : Issue) (p : Nat) (s : State) : State :=
  winMod i.ctx (fun w => { w with after := w.after ++ [(i.at_, p, i.ins.word)] }) s

/-- Bounding interval of a cluster's 32×32 outputs. -/
def outRange (t : Tensor) : GRange :=
  let last := sliceBit t t.transposed 31 31 + fmtBits t.format
  ⟨true, t.base, t.base + (last + 7) / 8⟩

/-- What a drain or save writes in each cluster (R179): outputs and status record, or an image with its bank record. -/
def jobRanges (j : DrainJob) : List GRange :=
  match j.out with
  | some o => [outRange o, ⟨true, fld j.word 75 60 * 64, fld j.word 75 60 * 64 + 64⟩]
  | none => [⟨true, j.imageOff, j.imageOff + 41024⟩]

/-- The wave of a drain reaches cluster n: its entries enter the Guard there (R96, R179). -/
def waveEnter (n : Nat) (j : DrainJob) (s : State) : State :=
  let (cmd, s) := guardArray n j.ctx j.window (if j.isSave then 0xA else 0x9) (jobRanges j) none s
  { s with array := { s.array with jobs := s.array.jobs.map (fun x =>
      if x.id = j.id then { x with due := x.due.filter (fun e => e.1 != n), cmds := tput x.cmds n cmd } else x) } }

/-- The waves that have reached cluster n by now. -/
def wavesAt (n : Nat) (s : State) : State :=
  (s.array.jobs.filter (fun j => j.due.any (fun e => e.1 == n && decide (e.2 ≤ s.clk.aclk)))).foldl
    (fun s j => waveEnter n j s) s

/-- The waves that have reached their clusters by now. -/
def wavesReach (s : State) : State :=
  s.array.jobs.foldl (fun s j =>
    (j.due.filter (fun e => decide (e.2 ≤ s.clk.aclk))).foldl (fun s e => waveEnter e.1 j s) s) s

/-- Move ACLK to the cycle of an issue and take the instruction out of the window. FRAMEs and SWAPs of earlier cycles are in
effect (R111). -/
def issueAdvance (i : Issue) (s : State) : State :=
  settle i.ctx i.at_ (wavesReach (winMod i.ctx (fun w => { w with instrs := w.instrs.tail }) (aclkTo i.t s)))

/-- A halt at issue (R127, R148, R151). -/
def issueHalt (i : Issue) (reason info0 info1 : Nat) (s : State) : State :=
  let va := instrVa s i.ctx i.ins.index
  aconSample va (fld i.ins.word 127 120) i.ctx true 0 i.at_
    (haltWindow i.ctx va reason info0 info1 s)

/-- A candidate halt of an issue: reason, INFO0, INFO1. -/
abbrev Cand := Option (Nat × Nat × Nat)

/-- The candidate with the numerically lowest reason; the first listed among equals (R127). -/
def lowest : List Cand → Cand
  | [] => none
  | none :: r => lowest r
  | some x :: r =>
    match lowest r with
    | none => some x
    | some y => if y.1 < x.1 then some y else some x

/-- A candidate that applies when `b`. -/
def cand (b : Bool) (reason i0 i1 : Nat) : Cand := if b then some (reason, i0, i1) else none

/-- A saturated gate counter halts ACON at its next command (R29). -/
def overrunCand (s : State) (c : Nat) : Cand := (actx s c).overrun.map (fun g => (0x0A, g, gateCtr s c g))

/-- The halt of a saturated counter is taken once. -/
def overrunTaken (c reason : Nat) (s : State) : State :=
  if reason = 0x0A then actxMod c (fun a => { a with overrun := none }) s else s

/-- What stops an instruction at its issue: the lowest of its own candidates and a saturated counter (R29, R127). -/
def issueStop (i : Issue) (own : Cand) (s : State) : Option State :=
  (lowest [own, overrunCand s i.ctx]).map (fun (r, i0, i1) => issueHalt i r i0 i1 (overrunTaken i.ctx r s))

/-- The cause of an injection overlap (R110, R111). -/
def injectOverlap (s : State) (t : Nat) : Bool :=
  match s.array.lastInject with
  | some (t0, l) => decide (t < t0 + l)
  | none => false

/-- Bank reuse (R116): fewer than 256 ACLK after the bank's last DRAIN or SAVE. -/
def bankReuse (s : State) (p t : Nat) : Bool :=
  match (bankOf s p).lastRead with
  | some t0 => decide (t < t0 + 256)
  | none => false

/-- Drain spacing (R116). -/
def drainSpacing (s : State) (t : Nat) : Bool :=
  match s.array.lastDrain with
  | some t0 => decide (t < t0 + 256)
  | none => false

/-- A product of the bank would be pending at core (0, 0) (R113). -/
def drainEarly (s : State) (p t : Nat) : Bool :=
  match (bankOf s p).lastMma with
  | some (t0, l) => decide (t < t0 + l + 8)
  | none => false

/-- An array instruction issues inside a declared quiet gap (R135). -/
def inGap (i : Issue) : Bool :=
  i.win.quiet || i.win.gaps.any (fun g => decide (g.1 ≤ i.at_) && decide (i.at_ < g.1 + g.2))

/-- The bank's state is neither made in this window nor carried into it (R134). -/
def carryMissing (i : Issue) (p : Nat) : Bool :=
  let made := if p = 0 then i.win.zeroed0 else i.win.zeroed1
  let lb := if i.win.startState.swap then 1 - p else p
  !made && !bit i.win.carry lb

/-- Clusters that feed the west edge and the north edge, by surviving band; the second pass of an audited window swaps
the edges when M = N (R105, R391). -/
def westFeeds (s : State) (second : Bool) : List Nat :=
  if second && geomM s == geomN s then colBands s else (rowBands s).map (fun cr => cr * 32)
def northFeeds (s : State) (second : Bool) : List Nat :=
  if second && geomM s == geomN s then (rowBands s).map (fun cr => cr * 32) else colBands s

/-- Bounding interval of a panel in CMEM for the Guard (R179). -/
def panelRange (t : Tensor) (tr : Bool) (kpos count : Nat) : List GRange :=
  let kEnd := min (kpos + count) (t.dim 0)
  if kEnd ≤ kpos then []
  else
    let b0 := sliceBit t tr kpos 0
    let b1 := sliceBit t tr (kEnd - 1) 31 + fmtBits t.format
    let scales := if isBlockFmt t.format then
        [⟨false, t.base + t.bscaleOff + kpos / 32, t.base + t.bscaleOff + 31 * ceilDiv (t.dim 0) 32 + (kEnd - 1) / 32 + 1⟩]
      else []
    (⟨false, t.base + b0 / 8, t.base + (b1 + 7) / 8⟩ : GRange) :: scales

/-- ECLK that `n` ACLK take at the present clocks (R447). -/
def aclkToEclk (s : State) (n : Nat) : Nat :=
  ceilDiv (n * rf s ((pgPst 0).base + Reg.PST_FREQ) 15 8) (max 1 (rf s ((pgPst 0).base + Reg.PST_FREQ) 7 0))

/-- Enter array entries of window `serial` in the Guards of several clusters. -/
def guardArrayAll (c serial owner : Nat) (leave : Option Nat) (l : List (Nat × List GRange)) (s : State) : State :=
  l.foldl (fun s e => (guardArray e.1 c serial owner e.2 leave s).2) s

/-- The entries of a RESTORE's reads of the images at `off`, for 256 ACLK (R143, R179). -/
def guardRestore (c serial off : Nat) (s : State) : State :=
  guardArrayAll c serial 0xA (some (s.clk.eclk + aclkToEclk s 256))
    ((arrayClusters s).map (fun e => (e.2.2, [(⟨false, off, off + 41024⟩ : GRange)]))) s

/-! ### MMA -/

/-- Issue-time checks of an MMA into physical bank p (R78, R82, R110, R116, R127, R130, R134, R135). Of several SCHEDULE_SLIP causes
the lowest cause code is reported (DESIGN CHOICE, log entry 92). -/
def mmaChecks (s : State) (i : Issue) (p : Nat) (a b : Tensor) : Cand :=
  let w := i.ins.word
  let r := recOf s i.ctx p
  let zero := bit w 5
  let steps := fld w 73 57
  let lim := limbsOf a.format
  let l := steps * lim * lim
  let len := steps * depthOf a.format
  let perAcc := steps * depthOf a.format * (lim * lim)
  let fEff := r.f + a.exp + b.exp
  let count := (if zero then 0 else r.pcount) + perAcc
  let fInfo := wrapInt 32 fEff
  lowest
    [cand (injectOverlap s i.t) 0x04 0x01 i.cycle,
     cand (bankReuse s p i.t) 0x04 0x02 i.cycle,
     cand (i.at_ < 64) 0x04 0x04 i.cycle,
     cand (2 ^ 24 < count || 2 ^ 24 < fld w 56 33 + len) 0x0D p count,
     cand (!r.frameSet || r.fmtA != a.format || r.fmtB != b.format) 0x12 p 0,
     cand (fEff < -2048 || 2047 < fEff) 0x12 p fInfo,
     cand (!zero && (r.reframed || (r.fEffFixed && r.fEff != fEff))) 0x12 p fInfo,
     cand (i.win.len < i.at_ + l) 0x21 0 0,
     cand (inGap i) 0x22 0 0,
     cand (!zero && carryMissing i p) 0x26 0 0]

/-- INFO of a halt at the step that carries a bad CMEM word, for an MMA into physical bank p (R109, R150, R389). -/
def panelInfo (p n reason off cycle : Nat) : Nat × Nat × Nat :=
  if reason = 0x15 then (0x09, n <<< 16 + 4 <<< 12, p <<< 16 + cycle % 65536)
  else (reason, off, 2 <<< 30 + n <<< 16 + cycle % 65536)

/-- MMA (R104, R109, R111): inject both panels for K_STEPS steps and add the products. `underrun` is an injector that
could not present a step when due, which happens only where `canMiss` allows it. A wave that is cut ends at the step that
reached no core. -/
def mmaState (underrun : Option (Nat × Nat)) (s : State) : State :=
  match nextIssue s 0x03 with
  | none => s
  | some i =>
    match i.ins.a, i.ins.b with
    | some a, some b =>
      let s := issueAdvance i s
      let w := i.ins.word
      let c := i.ctx
      let p := physOf s c (fld w 8 8)
      match issueStop i (mmaChecks s i p a b) s with
      | some s => s
      | none =>
        let r := recOf s c p
        let zero := bit w 5
        let steps := fld w 73 57
        let d := depthOf a.format
        let lim := limbsOf a.format
        let l := steps * lim * lim
        let k0 := fld w 56 33
        let kpos := fld w 32 9
        let secure := ctxSecure s c
        let tra := a.transposed != bit w 7
        let trb := b.transposed != bit w 6
        let west := westFeeds s i.win.second
        let north := northFeeds s i.win.second
        let missed (n : Nat) : Bool :=
          (west.contains n && canMiss s n a tra kpos d steps) || (north.contains n && canMiss s n b trb kpos d steps)
        let underrun := match underrun with
          | some (n, st) => if missed n then some (st, n, 0x04, 0) else none
          | none => none
        let leave := some (s.clk.eclk + aclkToEclk s l)
        let s := guardArrayAll c i.win.serial 0x8 leave (west.map (fun n => (n, panelRange a tra kpos (steps * d)))) s
        let s := guardArrayAll c i.win.serial 0x8 leave (north.map (fun n => (n, panelRange b trb kpos (steps * d)))) s
        let pa := panelRows s secure a tra west kpos (steps * d)
        let pb := panelRows s secure b trb north kpos (steps * d)
        let fault := earlier (earlier (panelFault d pa) (panelFault d pb)) underrun
        let fault := match fault with
          | some x => if x.1 < steps then some x else none
          | none => none
        -- lanes beyond either K extent present +0 × +0, which adds 0 and sets nothing (R101)
        let kEnd := min (a.dim 0) (b.dim 0) - kpos
        let count := min (match fault with
          | some x => x.1 * d
          | none => steps * d) kEnd
        let fetched := match fault with
          | some x => (x.1 + 1) * d
          | none => steps * d
        let s := touchPanel secure a tra kpos fetched west (touchPanel secure b trb kpos fetched north s)
        let av := pa.map (fun (_, rs) => rs.map (fun r => (rowVals r).take count))
        let bv := pb.map (fun (_, rs) => rs.map (fun r => (rowVals r).take count))
        let bk := (arrayClusters s).foldl (fun bk (sr, sc, n) =>
          clusterMma lim r.f k0 zero n (lget av sr []) (lget bv sc []) bk) (bankOf s p)
        let ran := match fault with
          | some x => x.1 * (lim * lim)
          | none => l
        let s := bankPut p { bk with lastMma := some (i.t, ran) } s
        let s := { s with array := { s.array with lastInject := some (i.t, ran) } }
        let fEff := r.f + a.exp + b.exp
        let s := recPut c p { r with
          reframed := if zero then false else r.reframed
          fEffFixed := true
          fEff := fEff
          pcount := (if zero then 0 else r.pcount) + steps * d * (lim * lim) } s
        let s := winMod c (fun w => if zero then (if p = 0 then { w with zeroed0 := true } else { w with zeroed1 := true })
          else w) s
        let s := tally pgAcon 0x0102 steps (ctxAttrs s c) s
        match fault with
        | some (_, n, 0x04, _) => issueHalt i 0x04 (0x05 + n <<< 16) i.cycle (aclkTo (i.t + 1 + ran) s)
        | some (_, n, reason, off) =>
          let (q, i0, i1) := panelInfo p n reason off (i.cycle + 1 + ran)
          issueHalt i q i0 i1 (aclkTo (i.t + 1 + ran) s)
        | none =>
          aconSample (instrVa s c i.ins.index) 0x03 c false (l + lastOffset s + 8) i.at_ s
    | _, _ => s

/-! ### FRAME, SWAP, SIG, QUIET -/

/-- FRAME (06 R126, R111): the bank's frame is set, or marked not set, after its window cycle. -/
def frameState (s : State) : State :=
  match nextIssue s 0x02 with
  | none => s
  | some i =>
    let s := issueAdvance i s
    match issueStop i none s with
    | some s => s
    | none =>
      aconSample (instrVa s i.ctx i.ins.index) 0x02 i.ctx false 0 i.at_
        (afterPut i (physOf s i.ctx (fld i.ins.word 103 103)) s)

/-- SWAP (R111, R112): SWAP_STATE is inverted after its window cycle. -/
def swapState (s : State) : State :=
  match nextIssue s 0x05 with
  | none => s
  | some i =>
    let s := issueAdvance i s
    match issueStop i none s with
    | some s => s
    | none => aconSample (instrVa s i.ctx i.ins.index) 0x05 i.ctx false 0 i.at_ (afterPut i 0 s)

/-- SIG (R31): the signal is held until the window's end; the second pass of an audited window holds none (R136). -/
def sigState (s : State) : State :=
  match nextIssue s 0x06 with
  | none => s
  | some i =>
    let s := issueAdvance i s
    match issueStop i none s with
    | some s => s
    | none =>
    if i.win.second then s
    else
      let w := i.ins.word
      winMod i.ctx (fun v => { v with
        held := v.held ++ signalsOf (fld w 103 102) (fld w 101 100) (fld w 99 86) (fld w 85 78) (fld w 77 70) i.ctx 0 }) s

/-- QUIET (R135): the declared gap was checked when the window loaded; its issue changes nothing else. -/
def quietState (s : State) : State :=
  match nextIssue s 0x07 with
  | none => s
  | some i =>
    let s := issueAdvance i s
    match issueStop i none s with
    | some s => s
    | none => aconSample (instrVa s i.ctx i.ins.index) 0x07 i.ctx false 0 i.at_ s

/-! ### DRAIN and SAVE -/

/-- Issue-time checks of a DRAIN or SAVE of physical bank p (R110, R113, R116, R134, R135, 06 FRAME). -/
def drainChecks (s : State) (i : Issue) (p : Nat) (privMissing : Bool) : Cand :=
  let r := recOf s i.ctx p
  lowest
    [cand (drainSpacing s i.t) 0x04 0x03 i.cycle,
     cand (drainEarly s p i.t) 0x05 p i.cycle,
     cand r.reframed 0x12 p 0,
     cand privMissing 0x20 0 0,
     cand (inGap i) 0x22 0 0,
     cand (carryMissing i p) 0x26 0 0]

/-- The ACLK in which a wave issued at ACLK t reaches cluster n (R98, R111). -/
def waveTime (t n : Nat) : Nat := t + 1 + wavePos (n / 32) 0 + wavePos (n % 32) 0

/-- The ACLK by which cluster n's reader of a drain issued at ACLK t has read its last core (R114). -/
def readerDone (t n : Nat) : Nat := t + 2 + wavePos (n / 32) 17 + wavePos (n % 32) 17 + 256

/-- Start a drain or save of bank p: the job holds what the reader reads. The second pass of an audited window writes nothing
(R392). -/
def startJob (j : DrainJob) (t : Nat) (s : State) : State :=
  let ns := (arrayClusters s).map (fun e => e.2.2)
  let bk := bankOf s j.bank
  let s := bankPut j.bank { bk with lastRead := some t } s
  { s with array := { s.array with
      lastDrain := some t
      nextJob := s.array.nextJob + 1
      jobs := s.array.jobs ++ [{ j with
        id := s.array.nextJob, t := t, snap := bk, left := ns, cmds := []
        due := if j.secondPass then [] else ns.map (fun n => (n, waveTime t n)) }] } }

/-- An empty job to start from. -/
def DrainJob.blank : DrainJob where
  id := 0
  ctx := 0
  window := 0
  word := 0
  isSave := false
  implicit_ := false
  bank := 0
  info := BankRec.empty
  snap := Bank.empty
  out := none
  imageOff := 0
  issueCycle := 0
  va := 0
  t := 0
  drainSeq := 0
  step := 0
  seed := 0
  secondPass := false
  auditSlot := 0
  audited := false
  left := []
  due := []
  cmds := []
  counts := zeroCounts
  causes := 0
  check := 0
  first := none

/-- DRAIN (R113, R114): the wave reads the bank, or halts before any read. -/
def drainState (s : State) : State :=
  match nextIssue s 0x04 with
  | none => s
  | some i =>
    let s := issueAdvance i s
    let w := i.ins.word
    let c := i.ctx
    let p := physOf s c (fld w 103 103)
    match issueStop i (drainChecks s i p false) s with
    | some s => s
    | none =>
      let a := actx s c
      let s := startJob { DrainJob.blank with
        ctx := c, window := i.win.serial, word := w, bank := p, info := recOf s c p, out := i.ins.out
        va := instrVa s c i.ins.index, issueCycle := i.cycle, drainSeq := a.drainSeq, step := ctxEpoch s c
        seed := reg64 s (acReg c Reg.ACON_CTX_SEED + 8 * fld w 78 76)
        secondPass := i.win.second, auditSlot := i.win.drains, audited := i.win.audited } i.t s
      let s := if i.win.second then s else actxMod c (fun a => { a with drainSeq := a.drainSeq + 1 }) s
      winMod c (fun w => { w with drains := w.drains + 1 }) s

/-- SAVE (R143): as a DRAIN, writing the bank's image; PRIV is required. -/
def saveState (s : State) : State :=
  match nextIssue s 0x0C with
  | none => s
  | some i =>
    let s := issueAdvance i s
    let w := i.ins.word
    let c := i.ctx
    let p := physOf s c (fld w 103 103)
    match issueStop i (drainChecks s i p (rf s (acReg c Reg.ACON_CTX_CTRL) 0 0 == 0)) s with
    | some s => s
    | none =>
      let s := startJob { DrainJob.blank with
        ctx := c, window := i.win.serial, word := w, isSave := true, bank := p, info := recOf s c p
        va := instrVa s c i.ins.index, imageOff := fld w 102 87 * 64, issueCycle := i.cycle
        secondPass := i.win.second, auditSlot := i.win.drains, audited := i.win.audited } i.t s
      winMod c (fun w => { w with drains := w.drains + 1 }) s

/-! ### What a cluster writes -/

/-- The bank record of R143 as 64 bytes. -/
def recBytes (r : BankRec) : List Byte :=
  leBytes 64 (b2n r.frameSet + 2 * b2n r.reframed + 4 * b2n r.fEffFixed + r.fmtA <<< 8 + r.fmtB <<< 16 +
    wrapInt 12 r.f <<< 32 + wrapInt 12 r.fEff <<< 48 + r.pcount <<< 64)

/-- Whether a drain runs on the second mapping (R391): M = N, in the second pass. Bank contents are held by the output that they
belong to, which the second mapping keeps in the transposed place. -/
def transposed (s : State) (j : DrainJob) : Bool := j.secondPass && geomM s == geomN s

/-- The cluster whose first-mapping outputs cluster n holds on the transposed mapping (R391). -/
def mirrorCluster (s : State) (sr sc : Nat) : Nat := lget (rowBands s) sc 0 * 32 + lget (colBands s) sr 0

/-- The accumulators that the reader of cluster n (surviving bands sr, sc) read, disturbed as the faults say, in row-major
order. -/
def readerAccs (s : State) (j : DrainJob) (sr sc n : Nat) (faults : List AccFault) : List CoreAcc :=
  let tr := transposed s j
  let m := if tr then mirrorCluster s sr sc else n
  (List.range 1024).map (fun k =>
    let a := tget j.snap.accs CoreAcc.empty (m * 1024 + (if tr then k % 32 * 32 + k / 32 else k))
    (faults.filter (fun f => f.pos.val == k)).foldl (fun a f =>
      { acc := { a.acc with value := a.acc.value + f.value }, residue := (a.residue + f.residue) % resMod }) a)

/-- Position of an accumulator in the residue check's order: (16r + c) × 4 + accumulator (R389). -/
def resPosition (k : Nat) : Nat :=
  let x := k / 32
  let y := k % 32
  (16 * (x / 2) + y / 2) * 4 + 2 * (x % 2) + y % 2

/-- An accumulator that keeps a row or column check from being made (R388). -/
def skips (a : CoreAcc) : Bool := a.acc.drop || a.acc.posBeyond || a.acc.negBeyond

/-- The comparison of a cluster (R388): the first mismatch in the order residue, row, column as (KIND, position), and
CHECK.RESIDUE_ONLY. -/
def compareCluster (s : State) (j : DrainJob) (sr sc n : Nat) (accs : List CoreAcc) : Option (Nat × Nat) × Bool :=
  let tr := transposed s j
  let m := if tr then mirrorCluster s sr sc else n
  let at_ (x y : Nat) : CoreAcc := lget accs (x * 32 + y) CoreAcc.empty
  let res := ((List.range 1024).filter (fun k =>
    let a := lget accs k CoreAcc.empty
    residue a.acc.value != a.residue)).map resPosition
  let lines (row : Bool) (p y : Nat) : List CoreAcc :=
    ((List.range 32).filter (fun x => x % 2 == p)).map (fun x => if row then at_ x y else at_ y x)
  let tbl := fun (row : Bool) => if row != tr then j.snap.checkRow else j.snap.checkCol
  let bad (row : Bool) (q : Nat) : Bool :=
    let ls := lines row (q / 32) (q % 32)
    !(ls.any skips) && residue (ls.foldl (fun v a => v + a.acc.value) 0) != tget (tbl row) 0 (m * 64 + q)
  let rows := if hasCheckLine (rowFailed s n) then (List.range 64).find? (bad true) else none
  let cols := if hasCheckLine (colFailed s n) then (List.range 64).find? (bad false) else none
  let only := (List.range 64).any (fun q =>
    (hasCheckLine (rowFailed s n) && (lines true (q / 32) (q % 32)).any (fun a => a.acc.drop)) ||
    (hasCheckLine (colFailed s n) && (lines false (q / 32) (q % 32)).any (fun a => a.acc.drop)))
  (match res.foldl (fun m p => match m with
      | none => some p
      | some q => some (min p q)) none, rows, cols with
   | some p, _, _ => some (1, p)
   | none, some q, _ => some (2, q)
   | none, none, some q => some (3, q)
   | none, none, none => none, only)

/-- What one cluster's drain adds up to: status record fields and statistics. -/
structure DrainTally where
  counts : List Nat
  causes : Nat
  first  : Option (Nat × Nat × Nat)    -- position in the cluster, cause, FIRST_K field
  amax   : Int
  elems  : Nat
deriving DecidableEq, Repr

/-- FIRST_K field of an accumulator (R93). -/
def firstKField (a : Acc) : Nat := b2n a.kValid <<< 31 + a.firstK

/-- Write bytes as a drain does, keeping the first refusal. -/
def drainWrite (n : Nat) (secure : Bool) (off : Nat) (data : List Byte) (r : Option (Nat × Nat)) (s : State) :
    Option (Nat × Nat) × State :=
  let (x, s) := cmemWrite n .a secure off data s
  (match r with
   | some y => some y
   | none => x, s)

/-- Merge an element code of fewer than eight bits into its byte (R62). -/
def mergeCode (old : Byte) (b bits code : Nat) : Byte := BitVec.ofNat 8 (nset old.toNat (b % 8 + bits - 1) (b % 8) code)

/-- Drain element k of cluster n (R115): outside the output's extent nothing is written or counted, and only its cause set
joins CAUSE_UNION (R93). -/
def drainOne (j : DrainJob) (t : Tensor) (sr sc n : Nat) (secure : Bool) (a : CoreAcc) (k : Nat)
    (st : DrainTally × Option (Nat × Nat) × State) : DrainTally × Option (Nat × Nat) × State :=
  let (tl, r, s) := st
  let w := j.word
  let x := k / 32
  let y := k % 32
  let row := 32 * fld w 59 44 + 32 * sr + x
  let col := 32 * fld w 43 28 + 32 * sc + y
  let cfg : RoundCfg := ⟨fld w 82 80, bit w 79, pepper j.seed t.tensorId ((row * t.dim 0 + col) % 2 ^ 40) j.step⟩
  let e := drainElem t.format t.exp j.info.fEff cfg a.acc
  if t.dim 1 ≤ row ∨ t.dim 0 ≤ col then ({ tl with causes := tl.causes ||| e.causes }, r, s)
  else
    let b := sliceBit t t.transposed y x
    let (r, s) := drainWrite n secure ((t.base + b / 8) % cmemTop) (leBytes (fmtBits t.format / 8) e.code) r s
    let tl :=
      { counts := addCounts tl.counts e.flags.counts
        causes := tl.causes ||| e.causes
        first := match tl.first with
          | some f => some f
          | none => if e.first then some (k, e.cause, firstKField a.acc) else none
        amax := if drainRule a.acc = 5 ∧ a.acc.value ≠ 0 then max tl.amax (ilog2 a.acc.value.natAbs j.info.fEff)
                else tl.amax
        elems := tl.elems + 1 }
    (tl, r, s)

/-- The tile status record (R93). -/
def statusRecord (j : DrainJob) (t : Tensor) (sr sc n check : Nat) (tl : DrainTally) : List Byte :=
  let c (i : Nat) : Nat := lget tl.counts i 0
  let (pos, cause, fk) := match tl.first with
    | some (p, q, f) => (2 ^ 15 + p, q, f)
    | none => (0, 0, 0)
  leBytes 64
    ((List.range 8).foldl (fun v i => v + c i <<< (16 * i)) 0 + pos <<< 128 + cause <<< 144 + tl.causes <<< 152 +
     fk <<< 160 + check <<< 192 + t.format <<< 200 + wrapInt 16 j.info.fEff <<< 208 + n <<< 224 +
     (32 * fld j.word 59 44 + 32 * sr) <<< 256 + (32 * fld j.word 43 28 + 32 * sc) <<< 288 + j.step <<< 320 +
     (j.drainSeq % 2 ^ 32) <<< 352)

/-- Base of the audit area of a context and of one drain's slot in it (R392). -/
def auditBase (s : State) (c slot : Nat) : Nat :=
  rf s (acReg c Reg.ACON_CTX_REPLAY) 21 12 * 4096 + 82048 + 41024 * slot

/-- The cluster and element index that hold an element in the second pass (R391): transposed when M = N. -/
def auditHolder (s : State) (sr sc n k : Nat) : Nat × Nat :=
  if geomM s = geomN s then (mirrorCluster s sr sc, k % 32 * 32 + k / 32) else (n, k)

/-- Write the audit copies of a cluster's elements, through port B (R392). -/
def writeAudit (j : DrainJob) (sr sc n : Nat) (secure : Bool) (accs : List CoreAcc) (r : Option (Nat × Nat)) (s : State) :
    Option (Nat × Nat) × State :=
  (accs.zipIdx).foldl (fun (r, s) (a, k) =>
    let (m, q) := auditHolder s sr sc n k
    let (x, s) := cmemWrite m .b secure (auditBase s j.ctx j.auditSlot + 40 * q) (leBytes 40 (rawOf a.acc)) s
    (match r with
     | some y => some y
     | none => x, s)) (r, s)

/-- The first element of the second pass whose state differs from the audit copy in its own cluster (R392). -/
def auditDiff (s : State) (j : DrainJob) (n : Nat) (accs : List CoreAcc) : Option Nat :=
  ((accs.zipIdx).find? (fun (a, k) =>
    leNat (cmemGetRaw s n (auditBase s j.ctx j.auditSlot + 40 * k) 40) != rawOf a.acc)).map (·.2)

/-- Write a SAVE's image of one cluster: 1,024 RAW256 elements and the bank record (R143). -/
def writeImage (n : Nat) (secure : Bool) (off : Nat) (info : BankRec) (accs : List CoreAcc) (s : State) :
    Option (Nat × Nat) × State :=
  let (r, s) := (accs.zipIdx).foldl (fun (r, s) (a, k) =>
    drainWrite n secure ((off + 40 * k) % cmemTop) (leBytes 40 (rawOf a.acc)) r s) ((none : Option (Nat × Nat)), s)
  drainWrite n secure ((off + 40960) % cmemTop) (recBytes info) r s

/-- Publish the array summary of a completed drain (R95, R96). -/
def publishSummary (j : DrainJob) (s : State) : State :=
  let b := pgAcon.base + Reg.ACON_SUMMARY
  let t := match j.out with
    | some t => t.format
    | none => 0
  let s := ((j.counts).zipIdx).foldl (fun s (v, i) => regSet (b + 4 * i) (BitVec.ofNat 32 v) s) s
  let (fp, cause, cl, fk) := match j.first with
    | some (p, n, q, f) => (2 ^ 31 + p, q, n, f)
    | none => (0, 0, 0, 0)
  let s := regSet (b + 0x20) (BitVec.ofNat 32 fp) s
  let s := regSet (b + 0x24) (BitVec.ofNat 32 (j.causes <<< 24 + cause <<< 16 + cl)) s
  let s := regSet (b + 0x28) (BitVec.ofNat 32 fk) s
  let s := regSet (b + 0x2C) (BitVec.ofNat 32 (j.ctx <<< 16 + t <<< 8 + j.check)) s
  let s := regSet (b + 0x30) (BitVec.ofNat 32 j.drainSeq) s
  let s := regSet (b + 0x34) (BitVec.ofNat 32 j.step) s
  regSet (b + 0x38) (BitVec.ofNat 32 (wrapInt 16 j.info.fEff)) s

/-- A wave or drain reader of the context is busy. -/
def ctxBusy (s : State) (c : Nat) : Bool := s.array.jobs.any (fun j => j.ctx == c)

/-- After a late verdict the context is HALTED once its readers are idle (R389 step 3). -/
def lateIdle (c : Nat) (s : State) : State :=
  if (actx s c).haltKind == .late && acState s c == stRunning && !ctxBusy s c then acStateSet c stHalted (leaveArray c s) else s

/-- A later window of context c than `serial` has begun its carry prologue or its cycle 0 (R389 step 2). -/
def laterBegun (a : AconCtx) (serial : Nat) : Bool :=
  a.ended.any (fun e => decide (serial < e.serial)) ||
  (match a.win with
   | some w => w.serial != serial && w.begun
   | none => false)

/-- A verdict fails late (R389 step 3): issue stops at once, a window that has not begun is loaded again after RESUME, and the
context is HALTED with LATE = 1 when the array is idle (log entry 99). -/
def lateHalt (c va serial reason i0 i1 : Nat) (s : State) : State :=
  let s := if reason = 0x09 then haltRecord c va reason i0 (i1 + 2 ^ 31) s else haltRecord c va reason (i0 + 2 ^ 30) i1 s
  lateIdle c (actxMod c (fun a => { a with
    haltKind := .late, preemptReq := false, ending := false, vgate := none
    ended := a.ended.filter (fun e => e.serial != serial)
    pc := (match a.win with
      | some w => if w.begun then a.pc else w.winIndex
      | none => a.pc)
    win := (match a.win with
      | some w => if w.begun then some { w with phase := .halted, held := [] } else none
      | none => none) }) s)

/-- A verdict fails (R389, R507): the issuing window is replayed when no later window of the context has begun its carry
prologue or its cycle 0, and otherwise the context is left HALTED with LATE. HALT_PC names the WIN of the issuing window (DESIGN
CHOICE, log entry 96). -/
def failVerdict (j : DrainJob) (reason i0 i1 : Nat) (s : State) : State :=
  let c := j.ctx
  let a := actx s c
  let current := match a.win with
    | some w => w.serial == j.window
    | none => false
  match (if current then a.win else (a.ended.find? (fun e => e.serial == j.window)).map (·.window)) with
  | none => s
  | some w =>
    let va := instrVa s c w.winIndex
    if current && w.phase == .halted then s
    else if laterBegun a j.window then lateHalt c va j.window reason i0 i1 s
    else
      let s := if current then s
        else actxMod c (fun a => { a with
          win := some w, pc := w.next, ending := false, vgate := none
          ended := a.ended.filter (fun x => x.serial != j.window) }) s
      haltWindow c va reason i0 i1 s

/-- Add a cluster's record to the running summary of its drain (R95): the first position is the least index in the
drained tile. -/
def sumRecord (j : DrainJob) (sr sc n n2 check : Nat) (tl : DrainTally) : DrainJob :=
  { j with
    counts := addCounts j.counts tl.counts
    causes := j.causes ||| tl.causes
    check := j.check ||| check
    first := match tl.first with
      | none => j.first
      | some (k, q, f) =>
        let p := (32 * sr + k / 32) * n2 + 32 * sc + k % 32
        match j.first with
        | some (p0, m, q0, f0) => if p < p0 then some (p, n, q, f) else some (p0, m, q0, f0)
        | none => some (p, n, q, f) }

/-- A cluster has written: take it off the job, and publish and drop a job that is complete. -/
def jobWritten (j : DrainJob) (n : Nat) (s : State) : State :=
  let j := { j with left := j.left.filter (· != n) }
  let s := match tget? j.cmds n with
    | some cmd => guardLeave n cmd s.clk.eclk s
    | none => s
  if j.left.isEmpty then
    let s := if j.isSave || j.secondPass then s else publishSummary j s
    let s := if j.implicit_ || j.secondPass then s
      else aconSample j.va (if j.isSave then 0x0C else 0x04) j.ctx false (s.clk.aclk - j.t) (j.issueCycle % 65536) s
    lateIdle j.ctx { s with array := { s.array with jobs := s.array.jobs.filter (fun x => x.id != j.id) } }
  else
    { s with array := { s.array with jobs := s.array.jobs.map (fun x => if x.id = j.id then j else x) } }

/-- INFO of CHECK_MISMATCH (R389). -/
def checkInfo0 (n kind pos : Nat) : Nat := n <<< 16 + kind <<< 12 + pos
/-- INFO1 of CHECK_MISMATCH. -/
def checkInfo1 (bank cycle : Nat) : Nat := bank <<< 16 + cycle % 65536

/-- Window cycle of a halt now, for a refused write of a drain of window `serial`: 0 outside that window (R150). -/
def haltCycle (s : State) (c serial : Nat) : Nat :=
  match curWin s c with
  | some w => if w.serial == serial && w.phase == .running then
      (s.clk.aclk - w.cycle0 + (if w.second then w.len else 0)) % 65536 else 0
  | none => 0

/-- A cluster's verdict for a drain (R388, R389, R392, R507): what it records, and the reason with INFO where it fails. -/
def verdict (j : DrainJob) (sr sc n : Nat) (accs : List CoreAcc) (refused : Option (Nat × Nat)) (s : State) : Cand × State :=
  match (compareCluster s j sr sc n accs).1 with
  | some (kind, pos) =>
    let core := physCore s n (pos / 4 / 16) (pos / 4 % 16)
    let s := mismatchEvent n kind (if kind = 1 then some core else none) s
    let s := if kind = 1 then coreMismatch n core s else s
    (some (0x09, checkInfo0 n kind pos, checkInfo1 j.bank j.issueCycle), s)
  | none =>
    match refused with
    | some (reason, off) =>
      (some (reason, off + 2 ^ 31, 2 <<< 30 + n <<< 16 + haltCycle s j.ctx j.window), s)
    | none =>
      match (if j.secondPass then auditDiff s j n accs else none) with
      | some q => (some (0x09, checkInfo0 n 5 q, checkInfo1 j.bank j.issueCycle), mismatchEvent n 5 none s)
      | none => (none, s)

/-- CONV of cluster n writes the last output and the status record of its oldest unwritten drain or save, and the
cluster's verdict follows, once the reader has read the cluster (R114, R115, R388, R389, R392, R507). -/
def drainCompleteState (n : Nat) (faults : List AccFault) (s : State) : State :=
  match s.array.jobs.find? (fun j => j.left.contains n) with
  | none => s
  | some j0 =>
    let s := wavesAt n (aclkTo (readerDone j0.t n) s)
    let j := (s.array.jobs.find? (fun j => j.id == j0.id)).getD j0
    match (arrayClusters s).find? (fun e => e.2.2 == n) with
    | none => jobWritten j n s
    | some (sr, sc, _) =>
      let secure := ctxSecure s j.ctx
      let accs := readerAccs s j sr sc n faults
      let check := b2n (compareCluster s j sr sc n accs).2 + 2 * b2n (reducedCheck s n)
      let (j', refused, s) :=
        if j.secondPass then (j, none, s)
        else
          let (j', r, s) :=
            if j.isSave then
              let (r, s) := writeImage n secure j.imageOff j.info accs s
              (j, r, s)
            else
              match j.out with
              | none => (j, none, s)
              | some t =>
                let (tl, r, s) := (accs.zipIdx).foldl (fun st (a, k) => drainOne j t sr sc n secure a k st)
                  ((⟨zeroCounts, 0, none, -32768, 0⟩ : DrainTally), (none : Option (Nat × Nat)), s)
                let (r, s) := drainWrite n secure (fld j.word 75 60 * 64) (statusRecord j t sr sc n check tl) r s
                let s := if t.expSrc then
                    sendStats ⟨t.skeepIndex, j.ctx, true, tl.counts, tl.elems, tl.amax, j.step, n, 0, false⟩ s
                  else s
                (sumRecord j sr sc n (2 * geomN s) check tl, r, s)
          if j.audited then
            let (r, s) := writeAudit j sr sc n secure accs r s
            (j', r, s)
          else (j', r, s)
      match verdict j sr sc n accs refused s with
      | (some (reason, i0, i1), s) => failVerdict j reason i0 i1 (jobWritten j' n s)
      | (none, s) => jobWritten j' n s

/-! ### RESTORE -/

/-- The bank record that 64 bytes hold (R143). -/
def parseRec (v : Nat) : BankRec where
  frameSet := nbit v 0
  reframed := nbit v 1
  fEffFixed := nbit v 2
  fmtA := nfld v 12 8
  fmtB := nfld v 20 16
  f := sext 12 (nfld v 43 32)
  fEff := sext 12 (nfld v 59 48)
  pcount := nfld v 95 64

/-- Nonzero reserved bits of a bank record. -/
def recReserved (v : Nat) : Bool :=
  nfld v 7 3 != 0 || nfld v 15 13 != 0 || nfld v 23 21 != 0 || nfld v 31 24 != 0 || nfld v 47 44 != 0 ||
  nfld v 63 60 != 0 || nfld v 511 96 != 0

/-- A pairing that R77 rejects: not in its table, or FP64 on the FGM-7768. -/
def pairingRejected (g : Grade) (a b : Nat) : Bool := !pairingOk a b || (a == 0x0B && !hasFp64 g)

/-- The checks on a record that an explicit RESTORE reads (R144): a reason, or none. F_EFF is signed in 12 bits (R143), so it
never lies outside −2,048 to 2,047; bits above them that are not 0 are reserved bits (log entry 71). -/
def recCheck (g : Grade) (v : Nat) : Option Nat :=
  let r := parseRec v
  if recReserved v then some 0x02
  else if 2 ^ 24 < r.pcount then some 0x0D
  else if r.frameSet && pairingRejected g r.fmtA r.fmtB then some 0x12
  else none

/-- Load one cluster's image into a bank: element by element, with residues and check residues (R143, R385, R387). -/
def loadImage (s : State) (n off : Nat) (bk : Bank) : Bank :=
  let accs := (List.range 1024).map (fun k =>
    let a := rawAcc (leNat (cmemGetRaw s n ((off + 40 * k) % cmemTop) 40))
    (k, (⟨a, residue a.value⟩ : CoreAcc)))
  let at_ (x y : Nat) : Nat := (lget accs (x * 32 + y) (0, CoreAcc.empty)).2.residue
  let par (row : Bool) : List (Nat × Nat) := (List.range 64).map (fun q =>
    (n * 64 + q, (((List.range 32).filter (fun x => x % 2 == q / 32)).foldl
      (fun v x => v + (if row then at_ x (q % 32) else at_ (q % 32) x)) 0) % resMod))
  { bk with
    accs := tputAll bk.accs (accs.map (fun e => (n * 1024 + e.1, e.2)))
    checkRow := tputAll bk.checkRow (par true)
    checkCol := tputAll bk.checkCol (par false) }

/-- Nothing in a cluster's memory stops or marks a read: no error is stored and every bank is ON, ready and open to the world. -/
def cmemClean (s : State) (n : Nat) (secure : Bool) : Bool :=
  (clu s n).poison.isEmpty && (clu s n).correct.isEmpty && reg64 s ((pgCmem n).base + Reg.CMEM_BANK_PWR_CUR) == 0 &&
  rf s ((pgCmem n).base + Reg.CMEM_BANK_BUSY) 31 0 == 0 && (secure || rf s ((pgCmem n).base + Reg.CMEM_BANK_WORLD) 31 0 == 0)

/-- Read the words of images at `off` cluster by cluster, with their checks and wakes (R161, R163): the first that cannot be
read, as cluster, reason and offset (R144). -/
def imageTouch (secure : Bool) (off : Nat) : List Nat → State → Option (Nat × Nat × Nat) × State
  | [], s => (none, s)
  | n :: ns, s =>
    if cmemClean s n secure then imageTouch secure off ns s
    else
      match cmemTouch n .a secure true (wordsOf off 41024) s with
      | (some (r, o), s) => (some (n, r, o), s)
      | (none, s) => imageTouch secure off ns s

/-- A nonzero reserved STATE byte in some element of an image (R61). -/
def imageReserved (s : State) (off : Nat) (ns : List Nat) : Bool :=
  ns.any (fun n => (List.range 1024).any (fun k => rawReserved (leNat (cmemGetRaw s n ((off + 40 * k) % cmemTop) 40))))

/-- Restore bank p of context c from images at `off` in every cluster; `info` is the record the bank takes. On a
failure the answer is the reason with its INFO, and the state after the reads. On the second mapping each element returns to the
output it was saved from (DEDUCED, log entry 100). -/
def restoreBank (c p off t : Nat) (info : BankRec) (s : State) : Except ((Nat × Nat × Nat) × State) State :=
  let secure := ctxSecure s c
  let ns := (arrayClusters s).map (fun e => e.2.2)
  match imageTouch secure off ns s with
  | (some (n, reason, o), s) => .error ((reason, o, 2 <<< 30 + n <<< 16), s)
  | (none, s) =>
    if imageReserved s off ns then .error ((0x02, 0, 0), s)
    else
      let bk := ns.foldl (fun bk n => loadImage s n off bk) (bankOf s p)
      let s := bankPut p { bk with lastMma := some (t, 256) } s
      let s := { s with array := { s.array with lastInject := some (t, 256) } }
      .ok (recPut c p info s)

/-- Issue-time checks of a RESTORE into physical bank p. -/
def restoreChecks (s : State) (i : Issue) (p : Nat) : Cand :=
  lowest
    [cand (injectOverlap s i.t) 0x04 0x01 i.cycle,
     cand (bankReuse s p i.t) 0x04 0x02 i.cycle,
     cand (rf s (acReg i.ctx Reg.ACON_CTX_CTRL) 0 0 == 0) 0x20 0 0,
     cand (i.win.len < i.at_ + 256) 0x21 0 0,
     cand (inGap i) 0x22 0 0]

/-- RESTORE (R143, R144): load a bank image; the record comes from the cluster of logical core (0, 0). `underrun` is an injector
that could not present a step when due, because a bank that it reads is in RET (R109). -/
def restoreState (underrun : Option (Nat × Nat)) (s : State) : State :=
  match nextIssue s 0x0D with
  | none => s
  | some i =>
    let s := issueAdvance i s
    let w := i.ins.word
    let c := i.ctx
    let p := physOf s c (fld w 103 103)
    match issueStop i (restoreChecks s i p) s with
    | some s => s
    | none =>
      let off := fld w 102 87 * 64
      let missed := match underrun with
        | some (n, st) => if (List.range 32).any (fun b => bankCur s n b == 1) then some (n, st) else none
        | none => none
      match missed with
      | some (n, st) =>
        let s := { s with array := { s.array with lastInject := some (i.t, st) } }
        issueHalt i 0x04 (0x05 + n <<< 16) i.cycle (aclkTo (i.t + 1 + st) s)
      | none =>
        match (arrayClusters s).head? with
        | none => s
        | some (_, _, n0) =>
          match cmemRead n0 .a (ctxSecure s c) ((off + 40960) % cmemTop) 64 s with
          | (.fail reason o, s) => issueHalt i reason o (2 <<< 30 + n0 <<< 16 + i.cycle % 65536) s
          | (.ok d, s) =>
            let v := leNat d
            match recCheck s.fuses.grade v with
            | some reason => issueHalt i reason (if reason = 0x12 ∨ reason = 0x0D then p else 0)
                (if reason = 0x0D then (parseRec v).pcount else 0) s
            | none =>
              let s := guardRestore c i.win.serial off s
              match restoreBank c p off i.t { parseRec v with reframed := false } s with
              | .error ((reason, i0, i1), s) => issueHalt i reason i0 (i1 + (if i1 = 0 then 0 else i.cycle % 65536)) s
              | .ok s =>
                aconSample (instrVa s c i.ins.index) 0x0D c false (256 + lastOffset s + 8) i.at_
                  (winMod c (fun w => if p = 0 then { w with zeroed0 := true } else { w with zeroed1 := true }) s)

end Sys2Proof.Machine
end

