-- ==== Sys2Proof/Machine/Operands.lean ====
section
/-! DEFINITION. The operand forms of the cluster engines: the streaming body and its extension (R184, R185), the place of
an element (R186), groups (R187), reads and writes through port A, statistics records (R210), the checks that a
command's fields meet at fetch (R172, R184 to R224), and what an engine plans for a command. -/

namespace Sys2Proof.Machine

/-! ### Errors and plans -/

/-- A halt of an engine command with the INFO words of its engine's page (R191). -/
structure EErr where
  reason : Nat
  i0     : Nat
  i1     : Nat
deriving DecidableEq, Repr

/-- The fault is in the command (R186, R191). -/
def EErr.cmd (reason : Nat) : EErr := ⟨reason, 0x80000000, 0⟩

/-- A command as its engine sees it: cluster, context, slot, extension and the context's world; and the element at which the
two runs of a command of VEC differ in an audited context (R393). -/
structure EngArg where
  n      : Nat
  c      : Nat
  w      : Slot
  x      : Slot
  hasX   : Bool
  sec    : Bool
  differ : Option Nat
deriving DecidableEq, Repr

/-- What an engine does with a command: the halt it finds in the issue ECLK, the operand ranges that enter the Guard,
its occupancy and latency (R188), its elements, and its effect, which may halt after issue. -/
structure EngPlan where
  issue  : Option EErr
  ranges : List GRange
  occ    : Nat
  lat    : Nat
  elems  : Nat
  hold   : Bool            -- its Guard entries stay until its completion event (R224)
  run    : State → Option EErr × State

/-- Columns C of the streaming body (R184). -/
def EngArg.cols (a : EngArg) : Nat := fld a.w 35 20 + 1
/-- Rows R (R185): one without an extension. -/
def EngArg.rows (a : EngArg) : Nat := if a.hasX then fld a.x 127 112 + 1 else 1
/-- AUX0 and AUX1 of the extension. -/
def EngArg.aux0 (a : EngArg) : Nat := fld a.x 45 24
def EngArg.aux1 (a : EngArg) : Nat := fld a.x 23 2

/-! ### Operands -/

/-- An operand: offset, row stride, element size in bits and transpose flag (R186). -/
structure Opnd where
  base   : Nat
  stride : Nat
  bits   : Nat
  tr     : Bool
deriving DecidableEq, Repr

/-- DST, SRC0, SRC1 and SRC2 of the streaming body. -/
def EngArg.dst (a : EngArg) (bits : Nat) (tr : Bool) : Opnd := ⟨fld a.w 101 80, fld a.x 111 90, bits, tr⟩
def EngArg.src0 (a : EngArg) (bits : Nat) (tr : Bool) : Opnd := ⟨fld a.w 79 58, fld a.x 89 68, bits, tr⟩
def EngArg.src1 (a : EngArg) (bits : Nat) (tr : Bool) : Opnd := ⟨fld a.w 57 36, fld a.x 67 46, bits, tr⟩
def EngArg.src2 (a : EngArg) (bits : Nat) (tr : Bool) : Opnd := ⟨a.aux0, a.aux1, bits, tr⟩

/-- Bit position of element (r, c) in CMEM (R62, R186). -/
def Opnd.at_ (o : Opnd) (r c : Nat) : Nat :=
  if o.tr then (o.base + c * o.stride) * 8 + r * o.bits else (o.base + r * o.stride) * 8 + c * o.bits

/-- The unit that offsets and strides must be multiples of (R186). -/
def Opnd.unit (o : Opnd) : Nat := if o.bits = 6 then 3 else if o.bits < 8 then 1 else o.bits / 8

/-- An element ends above 0x3F_FFFF. -/
def Opnd.outside (o : Opnd) (r c : Nat) : Bool := decide (cmemTop * 8 < o.at_ r c + o.bits)

/-- The lowest element index of an operand that lies outside CMEM, in row-major order. -/
def Opnd.firstOutside (o : Opnd) (rows cols : Nat) : Option Nat :=
  match (List.range rows).find? (fun r => o.outside r (cols - 1)) with
  | none => none
  | some r => ((List.range cols).find? (fun c => o.outside r c)).map (fun c => r * cols + c)

/-- The conditions of R186 on one operand: the element index that ERR_INFO1 reports. -/
def Opnd.bad (o : Opnd) (rows cols : Nat) : Option Nat :=
  if (o.tr && decide (o.bits < 8)) || o.base % o.unit != 0 || o.stride % o.unit != 0 then some 0
  else o.firstOutside rows cols

/-- FIELD_VALUE at issue for the first operand that R186 refuses; the lowest element index is reported. -/
def operandsBad (l : List (Opnd × Nat × Nat)) : Option EErr :=
  match l.filterMap (fun (o, r, c) => o.bad r c) with
  | [] => none
  | i :: is => some ⟨0x23, 0x80000000, is.foldl min i⟩

/-- A 64-byte record that would not lie in CMEM. -/
def recordBad (off : Nat) : Option EErr := if cmemTop < off + 64 then some (EErr.cmd 0x23) else none

/-- The first of two halts. -/
def firstErr (a b : Option EErr) : Option EErr :=
  match a with
  | some e => some e
  | none => b

/-- The bounding interval of an operand (R179). -/
def Opnd.range (o : Opnd) (write : Bool) (rows cols : Nat) : GRange :=
  ⟨write, o.base, (o.at_ (rows - 1) (cols - 1) + o.bits + 7) / 8⟩

/-- Bytes of `len` contiguous bytes from `off`, in whole words touched (R188). -/
def spanBytes (off len : Nat) : Nat := (wordsOf off len).length * 8

/-- Bytes that a statistics record adds: read with SACC, and written (R188, R210). -/
def statsRead (stats sacc : Bool) (off : Nat) : Nat := if stats && sacc then spanBytes off 64 else 0
def statsWritten (stats : Bool) (off : Nat) : Nat := if stats then spanBytes off 64 else 0

/-- Bytes that an operand moves, in whole words touched, row by row of its memory order (R188). -/
def Opnd.bytes (o : Opnd) (rows cols : Nat) : Nat :=
  let (lines, len) := if o.tr then (cols, rows) else (rows, cols)
  ((List.range lines).map (fun r => spanBytes (o.base + r * o.stride) ((len * o.bits + 7) / 8))).foldl (· + ·) 0

/-- Occupancy: the larger of ceil(E / rate) and ceil(B / 128) (R188). -/
def occupancy (elems rate rd wr : Nat) : Nat := max (ceilDiv elems rate) (ceilDiv (max rd wr) 128)

/-! ### Groups -/

/-- The elements of an R×C operation as (r, c, index) in row-major order, in groups of `size` (R187). -/
def groupsOf (size rows cols : Nat) : List (List (Nat × Nat × Nat)) :=
  (List.range (ceilDiv (rows * cols) size)).map (fun g =>
    ((List.range size).filter (fun k => decide (g * size + k < rows * cols))).map (fun k =>
      ((g * size + k) / cols, (g * size + k) % cols, g * size + k)))

/-- Run a command group by group; a halt ends it, with every earlier group done. -/
def runGroups {α β : Type} (f : β → α → State → Except EErr α × State) : List β → α → State → Except EErr α × State
  | [], acc, s => (.ok acc, s)
  | g :: gs, acc, s =>
    match f g acc s with
    | (.ok acc, s) => runGroups f gs acc s
    | (.error e, s) => (.error e, s)

/-- The halt of a run, if any. -/
def haltOf {α : Type} (r : Except EErr α × State) : Option EErr × State :=
  match r with
  | (.ok _, s) => (none, s)
  | (.error e, s) => (some e, s)

/-! ### Element reads -/

/-- Read bytes for element `idx` through port A. -/
def rdBytes (a : EngArg) (off len idx : Nat) (s : State) : Except EErr (List Byte) × State :=
  match cmemRead a.n .a a.sec off len s with
  | (.ok d, s) => (.ok d, s)
  | (.fail reason o, s) => (.error ⟨reason, o, idx⟩, s)

/-- Read the code of element (r, c). -/
def rdCode (a : EngArg) (o : Opnd) (r c idx : Nat) (s : State) : Except EErr Nat × State :=
  let b := o.at_ r c
  match rdBytes a (b / 8) (elemLen b o.bits) idx s with
  | (.ok d, s) => (.ok (codeOf b o.bits d), s)
  | (.error e, s) => (.error e, s)

/-- Read the codes of a group. -/
def rdCodes (a : EngArg) (o : Opnd) : List (Nat × Nat × Nat) → State → Except EErr (List Nat) × State
  | [], s => (.ok [], s)
  | (r, c, i) :: t, s =>
    match rdCode a o r c i s with
    | (.error e, s) => (.error e, s)
    | (.ok v, s) =>
      match rdCodes a o t s with
      | (.ok vs, s) => (.ok (v :: vs), s)
      | (.error e, s) => (.error e, s)

/-- Read a little-endian number of `len` bytes. -/
def rdNum (a : EngArg) (off len idx : Nat) (s : State) : Except EErr Nat × State :=
  match rdBytes a off len idx s with
  | (.ok d, s) => (.ok (leNat d), s)
  | (.error e, s) => (.error e, s)

/-! ### Element writes -/

/-- A store of `bits` bits at bit position `pos`, for element `idx` of a row of bytes `row0` to `row1`. -/
structure Store where
  pos  : Nat
  bits : Nat
  code : Nat
  idx  : Nat
  row0 : Nat
  row1 : Nat
deriving DecidableEq, Repr

/-- The store of an element of a destination whose rows in memory hold `len` elements. -/
def Opnd.store (o : Opnd) (len r c idx code : Nat) : Store :=
  let row0 := o.base + (if o.tr then c else r) * o.stride
  ⟨o.at_ r c, o.bits, code, idx, row0, (row0 * 8 + len * o.bits) / 8⟩

/-- Elements that a row of a destination holds in memory. -/
def Opnd.rowLen (o : Opnd) (rows cols : Nat) : Nat := if o.tr then rows else cols

/-- Join stores that continue each other into runs, so that only the ends of a run are merged (R187). -/
def joinStores : List Store → List Store
  | [] => []
  | x :: t =>
    match joinStores t with
    | [] => [x]
    | y :: ys =>
      if y.pos = x.pos + x.bits && y.row0 = x.row0 then
        { x with bits := x.bits + y.bits, code := x.code % 2 ^ x.bits + y.code * 2 ^ x.bits } :: ys
      else x :: y :: ys

/-- The first store that a bank refuses: the power and world checks of R164 and R165. -/
def storesRefused (a : EngArg) (s : State) (l : List Store) : Option EErr :=
  l.findSome? (fun x =>
    (wordsOf (x.pos / 8) (elemLen x.pos x.bits)).findSome? (fun w =>
      (bankRefusal s a.n (cmemBank w) a.sec).map (fun r => ⟨r, w * 8, x.idx⟩)))

/-- Write one run; the pad bits of its first and last byte keep their contents (R62). -/
def writeRun (a : EngArg) (x : Store) (s : State) : State :=
  let off := x.pos / 8
  let len := elemLen x.pos x.bits
  let old := leNat (cmemGetRaw s a.n off len)
  let v := nset old (x.pos % 8 + x.bits - 1) (x.pos % 8) x.code
  (cmemWriteRow a.n .a a.sec x.row0 x.row1 off (leBytes len v) s).2

/-- The store of the element at which the two runs of an audited command differ: nothing of its group is written (R393). -/
def storesDiffer (a : EngArg) (l : List Store) : Option EErr :=
  match a.differ with
  | none => none
  | some i => (l.find? (fun x => x.idx == i)).map (fun x => ⟨0x09, x.pos / 8, i⟩)

/-- Write a group's results in the memory order of `runs`: all of them, or none where the runs of an audited command differ or
a bank refuses. -/
def wrOrdered (a : EngArg) (l runs : List Store) (s : State) : Option EErr × State :=
  match (storesDiffer a l).or (storesRefused a s l) with
  | some e => (some e, s)
  | none => (none, (joinStores runs).foldl (fun s x => writeRun a x s) s)

/-- Write a group's results: all of them, or none where a bank refuses. -/
def wrStores (a : EngArg) (l : List Store) (s : State) : Option EErr × State := wrOrdered a l l s

/-- Write bytes of a row from `lo` to `hi` that are no elements. -/
def wrRow (a : EngArg) (lo hi off : Nat) (data : List Byte) (idx : Nat) (s : State) : Option EErr × State :=
  let x : Store := ⟨off * 8, 8 * data.length, leNat data, idx, lo, hi⟩
  wrStores a [x] s

/-- Write a row of bytes (records, table rows). -/
def wrBytes (a : EngArg) (off : Nat) (data : List Byte) (idx : Nat) (s : State) : Option EErr × State :=
  wrRow a off (off + data.length) off data idx s

/-! ### Statistics records (R210) -/

/-- The counts of a statistics record. -/
structure Stats where
  counts : List Nat
  elems  : Nat
  amax   : Int
deriving DecidableEq, Repr

/-- No element counted; AMAX_EXP 0x8000. -/
def Stats.zero : Stats := ⟨zeroCounts, 0, -32768⟩

/-- Count one element with its flags and the source value it was made from. -/
def Stats.add (t : Stats) (f : RFlags) (v : Val) : Stats :=
  { counts := addCounts t.counts f.counts
    elems := t.elems + 1
    amax := match v with
      | .fin _ m e => if m = 0 then t.amax else max t.amax (ilog2 m e)
      | _ => t.amax }

/-- The union of two records. -/
def Stats.join (x y : Stats) : Stats := ⟨addCounts x.counts y.counts, x.elems + y.elems, max x.amax y.amax⟩

/-- The counts that 64 bytes hold. -/
def statsOf (v : Nat) : Stats :=
  ⟨(List.range 8).map (fun i => nfld v (32 * i + 31) (32 * i)), nfld v 287 256, sext 16 (nfld v 303 288)⟩

/-- The 64 bytes of a record; counts saturate. -/
def statsBytes (t : Stats) (tensorId step : Nat) : List Byte :=
  let sat (x : Nat) : Nat := min x (2 ^ 32 - 1)
  leBytes 64 (((t.counts).zipIdx).foldl (fun v (x, i) => v + sat x <<< (32 * i)) 0 + sat t.elems <<< 256 +
    wrapInt 16 t.amax <<< 288 + tensorId <<< 320 + step <<< 352)

/-- The Pepper latch of an engine for a context; cleared it reads zero (R189). -/
def latchOf (t : Table Latch) (c : Nat) : Latch := tget t ⟨0, 0, 0, 0⟩ c

/-- Run a command that may keep a statistics record at `off`: SACC reads the old record before any group, and the new
one is written after the last group (R210). -/
def withStats (a : EngArg) (stats sacc : Bool) (off tensorId : Nat) (step : Nat)
    (body : State → Except EErr Stats × State) (s : State) : Option EErr × State :=
  let (old, s) := if stats && sacc then
      (match rdNum a off 64 0 s with
       | (.ok v, s) => (Except.ok (statsOf v), s)
       | (.error e, s) => (Except.error e, s))
    else (Except.ok Stats.zero, s)
  match old with
  | .error e => (some e, s)
  | .ok t0 =>
    match body s with
    | (.error e, s) => (some e, s)
    | (.ok t, s) =>
      if stats then wrBytes a off (statsBytes (t0.join t) tensorId step) 0 s else (none, s)

/-! ### Field checks at fetch (R172) -/

/-- A list of reasons whose conditions hold. -/
def reasons (l : List (Bool × Nat)) : List Nat := (l.filter (·.1)).map (·.2)

/-- Reserved bits or codes: FIELD_RESERVED. -/
def fmtCheck (ok : Nat → Bool) (c : Nat) : List Nat :=
  if fmtReserved c then [0x02] else if ok c then [] else [0x23]

/-- A rounding mode (R70): 6 and 7 are reserved; SR is a field value where it is not allowed. -/
def modeCheck (sr : Bool) (m : Nat) : List Nat :=
  if 6 ≤ m then [0x02] else if m = 5 ∧ sr = false then [0x23] else []

/-- The pairs of R64 that VEC or CONV converts with CVT. -/
def cvtPair (vec : Bool) (src dst : Nat) : Bool :=
  (([1, 2, 8, 9, 3, 4].contains src && dst == 0x0A) ||
   ([5, 6].contains src && (dst == 0x0A || dst == 0x0C)) ||
   (src == 0x0A && [9, 8, 1, 2, 3, 4, 5, 6, 0x0C].contains dst) ||
   ([0x0C, 0x0D, 0x0E].contains src && dst == 0x0A)) ||
  (vec && ((src == 0x0A && dst == 0x0B) || (src == 0x0B && dst == 0x0A) || (src == 0x0F && dst == 0x0B))) ||
  (!vec && ((src == 0x0E && dst == 0x0F) ||
    (src == 0x0F && [0x0A, 9, 8, 1, 2, 0x0C, 0x0D, 0x0E].contains dst)))

/-- Fields of CVT in VEC and CONV (R194). -/
def cvtCheck (g : Grade) (vec : Bool) (w x : Slot) (hasX : Bool) : List Nat :=
  let src := fld w 19 15
  let dst := fld w 14 10
  reasons [(fld w 1 0 != 0 || fld w 45 36 != 0 || fld x 1 0 != 0, 0x02),
    (fmtReserved src || fmtReserved dst, 0x02),
    (!fmtReserved src && !fmtReserved dst && !cvtPair vec src dst, 0x23),
    ((src == 0x0B || dst == 0x0B) && !hasFp64 g, 0x03),
    (!hasX && (bit w 3 || isBlockFmt src || isBlockFmt dst), 0x23)] ++ modeCheck true (fld w 9 7)

/-- The formats that a kernel stream may have (R202). -/
def streamFmt (f : Nat) : Bool := [0x0A, 9, 8, 1, 2, 0x0E, 0x0B].contains f

/-- OFFSET and FMT of stream i of KRUN (R202). -/
def streamField (x : Slot) (i : Nat) : Nat × Nat := (fld x (127 - 27 * i) (106 - 27 * i), fld x (105 - 27 * i) (101 - 27 * i))

/-- Fields of a VEC command (R192 to R202). ACC_LOAD accepts every defined format in FMT_A and FMT_B and checks no pairing
(log entry 90). -/
def vecCheck (g : Grade) (w x : Slot) (hasX : Bool) : List Nat :=
  match fld w 123 120 with
  | 0x0 => reasons [(fld w 1 0 != 0, 0x02), (hasX, 0x23)]
  | 0x1 =>
    let op := fld w 19 15
    let fmt := fld w 14 10
    let unary := op == 5 || op == 8 || op == 9 || op == 0x0C
    reasons [(0x0D ≤ op, 0x01), (fld w 2 0 != 0 || fld x 1 0 != 0 || (unary && fld w 57 36 != 0), 0x02),
      (fmt == 0x0B && !hasFp64 g, 0x03), (!hasX && (op == 4 || op == 0x0B), 0x23)] ++
    fmtCheck (fun f => f == 0x0A || f == 0x0B) fmt ++ modeCheck false (fld w 9 7)
  | 0x2 => cvtCheck g true w x hasX
  | 0x3 =>
    let stats := bit w 12
    let mode := fld w 14 13
    reasons [(fld w 10 0 != 0 || fld x 1 0 != 0 || (if stats then fld x 23 14 != 0 else fld x 23 2 != 0), 0x02),
      (2 ≤ mode || (mode == 1 && fld w 19 15 == 0x0F) || (stats && !hasX), 0x23)] ++
    fmtCheck (fun f => f == 0x0E || f == 0x0F) (fld w 19 15)
  | 0x4 =>
    reasons [(fld w 15 0 != 0 || fld x 47 0 != 0 || fmtReserved (fld w 29 25) || fmtReserved (fld w 24 20), 0x02),
      ((fld w 29 25 == 0x0B || fld w 24 20 == 0x0B) && !hasFp64 g, 0x03),
      (!hasX || 64 < (fld w 41 36 + 1) * (fld w 35 30 + 1), 0x23)]
  | 0x5 =>
    let fmt := fld w 51 47
    reasons [(fld w 24 0 != 0, 0x02),
      (hasX || fld w 79 58 % 64 != 0 || (fld w 36 25 != 0 && !(fmt == 0x0C || fmt == 0x0D || fmt == 0x0E)), 0x23),
      (fmt == 0x0B && !hasFp64 g, 0x03)] ++
    fmtCheck drainOutput fmt ++ modeCheck true (fld w 46 44)
  | 0x6 =>
    reasons [(fld w 51 0 != 0 || fmtReserved (fld w 73 69) || fmtReserved (fld w 68 64), 0x02),
      ((fld w 73 69 == 0x0B || fld w 68 64 == 0x0B) && !hasFp64 g, 0x03), (hasX, 0x23)]
  | 0x7 => reasons [(fld w 63 0 != 0, 0x02), (hasX || 256 < fld w 79 72 + fld w 71 64 + 1, 0x23)]
  | 0x8 =>
    let fmts := (List.range 4).map (fun i => (streamField x i).2)
    reasons [(fld w 69 0 != 0 || fld x 19 0 != 0 || fmts.any (fun f => f != 0 && fmtReserved f), 0x02),
      (fmts.any (· == 0x0B) && !hasFp64 g, 0x03),
      (!hasX || 256 < fld w 101 94 + fld w 93 86 + 1 ||
        fmts.any (fun f => f != 0 && !fmtReserved f && !streamFmt f), 0x23)]
  | _ => [0x01]

/-- Fields of an XPOSE command (R205). -/
def xposeCheck (w x : Slot) : List Nat :=
  reasons [(2 ≤ fld w 123 120, 0x01), (fld w 17 0 != 0 || fld w 57 36 != 0 || fld x 1 0 != 0, 0x02)]

/-- Sources of SUM (R206). -/
def sumSource (f : Nat) : Bool := [1, 2, 8, 9, 0x0A, 6, 0x0C, 0x0D, 0x0E, 0x0F].contains f
/-- Results of SUM and SUMEXP: the accumulator-state targets of R64. -/
def sumTarget (f : Nat) : Bool := [0x0A, 9, 8, 1, 2, 0x0C, 0x0D, 0x0E].contains f
/-- Sources of MAX, MIN, ARGMAX and ARGMIN (R207). -/
def orderSource (f : Nat) : Bool := [0x0A, 9, 8, 1, 2, 6, 0x0C, 0x0D, 0x0E].contains f

/-- Fields of a REDU command (R206 to R208). FUNC is not examined (log entry 30). -/
def reduCheck (w x : Slot) (hasX : Bool) : List Nat :=
  let op := fld w 19 17
  let src := fld w 16 12
  let dst := fld w 11 7
  let srcOk : Nat → Bool := if op = 0 then sumSource else if op = 5 then (· == 0x0A) else orderSource
  let dstOk : Nat → Bool := if op = 0 ∨ op = 5 then sumTarget else if op = 1 ∨ op = 2 then (· == src) else (· == 0x0C)
  reasons [(6 ≤ op, 0x01),
    ((op != 5 && fld w 45 36 != 0) || fld x 1 0 != 0, 0x02),
    (fld x 111 90 != 0 || (bit w 1 && !hasX), 0x23)] ++
  fmtCheck srcOk src ++ fmtCheck dstOk dst ++ modeCheck false (fld w 6 4)

/-- Fields of a CONV command (R209 to R216). -/
def convCheck (g : Grade) (w x : Slot) (hasX : Bool) : List Nat :=
  let wire : List Nat :=
    reasons [(fld w 2 0 != 0, 0x02), (hasX, 0x23)] ++ fmtCheck (fun f => f == 0x0E || f == 0x0F) (fld w 19 15)
  match fld w 123 120 with
  | 0x0 => reasons [(fld w 1 0 != 0, 0x02), (hasX, 0x23)]
  | 0x1 => cvtCheck g false w x hasX
  | 0x2 => wire
  | 0x3 => wire
  | 0x4 => reasons [(fld w 65 0 != 0, 0x02), (hasX, 0x23)]
  | _ => [0x01]

/-- Fields of an SFUN command (R217). -/
def sfunCheck (w x : Slot) : List Nat :=
  let ok (f : Nat) : Bool := f == 8 || f == 9 || f == 0x0A
  reasons [(0x0C ≤ fld w 123 120, 0x01), (fld w 3 0 != 0 || fld w 57 36 != 0 || fld x 1 0 != 0, 0x02)] ++
  fmtCheck ok (fld w 19 15) ++ fmtCheck ok (fld w 14 10) ++ modeCheck false (fld w 9 7)

/-- Fields of a GATH command (R221, R223). -/
def gathCheck (g : Grade) (w x : Slot) (hasX : Bool) : List Nat :=
  let f := fld w 123 120
  let m := f == 1 || f == 4
  reasons [(5 ≤ f, 0x01), (!hasGath g, 0x03),
    (fld w 2 0 != 0 || fld x 3 0 != 0 || (m && fld w 57 36 != 0) || (!m && fld x 127 80 != 0), 0x02),
    (!hasX || (3 ≤ f && (fld w 19 8 + 1) % 8 != 0), 0x23)]

/-- Fields of a control command of the CSEQ (R170); jump targets are checked against the stream. -/
def ctlCheck (count index : Nat) (w : Slot) : List Nat :=
  let target (t : Int) : Bool := decide (t < 0) || decide ((count : Int) ≤ t)
  let jump : Int := (index : Int) + sext 32 (fld w 76 45)
  match fld w 123 120 with
  | 0x1 => reasons [(fld w 88 0 != 0 || bit w 103, 0x02), (fld w 97 90 == 0, 0x23)]
  | 0x2 =>
    let cls := fld w 102 101
    reasons [(fld w 68 0 != 0 || bit w 103, 0x02),
      (fld w 76 69 == 0 || !targetOk cls (fld w 100 99) (fld w 98 85) (fld w 84 77), 0x23)]
  | 0x3 => reasons [(fld w 103 0 != 0, 0x02)]
  | 0x4 => reasons [(fld w 44 0 != 0 || bit w 103, 0x02), (fld w 119 104 != 0 || target jump, 0x23)]
  | 0x5 => reasons [(fld w 103 77 != 0 || fld w 44 0 != 0, 0x02), (fld w 119 104 != 0 || target jump, 0x23)]
  | 0xF => reasons [(fld w 103 0 != 0, 0x02), (fld w 119 104 != 0, 0x23)]
  | _ => [0x01]

/-- Everything that fails in a slot at fetch. `ext` is the extension slot of an EXT command. -/
def slotReasons (g : Grade) (count index : Nat) (w : Slot) (ext : Option Slot) : List Nat :=
  let x := ext.getD 0
  let hasX := ext.isSome
  let handle := if fld w 127 124 ≠ 0 ∧ bit w 102 then [0x10] else []
  match fld w 127 124 with
  | 0x0 => ctlCheck count index w
  | 0x1 => handle ++ vecCheck g w x hasX
  | 0x2 => handle ++ xposeCheck w x
  | 0x3 => handle ++ reduCheck w x hasX
  | 0x4 => handle ++ convCheck g w x hasX
  | 0x5 => handle ++ sfunCheck w x
  | 0x6 => handle ++ gathCheck g w x hasX
  | _ => [0x01]

/-- The numerically lowest reason (R172). -/
def lowestReason : List Nat → Option Nat
  | [] => none
  | r :: rs => some (rs.foldl min r)

/-- The INFO words of an engine's page for a halt found at fetch (R191). -/
def fetchInfo (reason : Nat) (w : Slot) : Nat × Nat :=
  if reason = 0x02 ∨ reason = 0x23 then (0x80000000, 0)
  else if reason = 0x03 then (fld w 123 120, 0)
  else (0, 0)

/-! ### Engine pages -/

/-- The page of an engine by its code (R169). -/
def engPage (n eng : Nat) : Option Page :=
  match eng with
  | 1 => some (pgVec n) | 2 => some (pgXpose n) | 3 => some (pgRedu n)
  | 4 => some (pgConv n) | 5 => some (pgSfun n) | 6 => some (pgGath n)
  | _ => none

/-- A command to a retired engine fails with ENGINE_ABSENT (R406). -/
def engRetired (s : State) (n : Nat) (w : Slot) : List Nat :=
  match engPage n (fld w 127 124) with
  | some p => if retired s p then [0x03] else []
  | none => []

/-- The CSEQ's INFO words for an engine's halt (R182). -/
def cseqInfo (e : EErr) : Nat × Nat :=
  if e.reason = 0x15 ∨ e.reason = 0x0F ∨ e.reason = 0x07 then (e.i0, cmemBank (e.i0 / 8))
  else if e.reason = 0x08 then (e.i0, e.i1)
  else (0, 0)

end Sys2Proof.Machine
end

