-- ==== Sys2Proof/Machine/Issue.lean ====
section
/-! DEFINITION. The cluster sequencer: fetch of a phase (R169 to R172), the boundary commands, phase start, issue of an
engine command (R173, R180, R181), replay and the end of a stream (R167 to R178). -/

namespace Sys2Proof.Machine

/-! ### Fetch -/

/-- A slot is a command that ends a phase (R171). -/
def isBoundary (w : Slot) : Bool :=
  fld w 127 124 == 0 && [1, 3, 4, 5, 0xF].contains (fld w 123 120)

/-- Queue entries that a slot takes: two with an extension (R169). -/
def QSlot.size (q : QSlot) : Nat := if q.ext.isSome then 2 else 1

/-- Queue of a slot: its engine code, 0 for the control queue. -/
def QSlot.eng (q : QSlot) : Nat := fld q.word 127 124

/-- Add a reason to a fetched slot; the numerically lowest is kept (R172). -/
def QSlot.fail (q : QSlot) (reason : Nat) : QSlot :=
  match q.bad with
  | some (r, _, _) =>
    if r ≤ reason then q else { q with bad := some (reason, (fetchInfo reason q.word).1, (fetchInfo reason q.word).2) }
  | none => { q with bad := some (reason, (fetchInfo reason q.word).1, (fetchInfo reason q.word).2) }

/-- A slot that could not be fetched, or whose extension could not: `w` is what was fetched of it. -/
def QSlot.fault (i : Nat) (w : Slot) (e : Fail) : QSlot :=
  ⟨i, w, none, some (causeReason e.cause, e.va % 2 ^ 32, e.va / 2 ^ 32 % 2 ^ 16)⟩

/-- Add the lowest of several reasons to a fetched slot (R172). -/
def QSlot.failAll (q : QSlot) (l : List Nat) : QSlot :=
  match lowestReason l with
  | some r => q.fail r
  | none => q

/-- Fetch the command at slot i with its extension, and check it; `true` ends the fetch. -/
def fetchSlot (n c i : Nat) (s : State) : QSlot × Bool × State :=
  let count := (cctx s n c).slotCount
  if count ≤ i then ((⟨i, 0, none, none⟩ : QSlot).fail 0x25, true, s)
  else
    match virtRead (viaCtx s c) (slotVa s n c i) 16 s with
    | (.error e, s) => (QSlot.fault i 0 { e with va := slotVa s n c i }, true, s)
    | (.ok d, s) =>
      let w : Slot := BitVec.ofNat 128 (leNat d)
      let wantX := bit w 103 && fld w 127 124 != 0
      let found (x : Option Slot) (s : State) : List Nat := slotReasons s.fuses.grade count i w x ++ engRetired s n w
      let done (x : Option Slot) (s : State) : QSlot × Bool × State :=
        ((⟨i, w, x, none⟩ : QSlot).failAll (found x s), false, s)
      if !wantX then done none s
      -- an extension that is missing adds its own reason to those of the slot itself
      else if count ≤ i + 1 then ((⟨i, w, none, none⟩ : QSlot).failAll (0x25 :: found (some 0) s), true, s)
      else
        match virtRead (viaCtx s c) (slotVa s n c (i + 1)) 16 s with
        | (.error e, s) =>
          ((QSlot.fault i w { e with va := slotVa s n c (i + 1) }).failAll (found (some 0) s), true, s)
        | (.ok d, s) => done (some (BitVec.ofNat 128 (leNat d))) s

/-- Fetch the commands of a phase from slot i, up to the command that ends it. ISSUE_AT may not decrease (R172). -/
def fetchBody (n c : Nat) : Nat → Nat → Nat → List QSlot → State → List QSlot × State
  | 0, _, _, acc, s => (acc, s)
  | fuel + 1, i, lastAt, acc, s =>
    let (q, stop, s) := fetchSlot n c i s
    if isBoundary q.word && !stop then (acc, s)
    else
      let at_ := fld q.word 119 104
      let q := if at_ < lastAt && !stop then q.fail 0x22 else q
      if stop then (acc ++ [q], s) else fetchBody n c fuel (i + q.size) at_ (acc ++ [q]) s

/-- Entries that a phase needs in the queue of an engine code. -/
def queueNeed (l : List QSlot) (eng : Nat) : Nat :=
  (l.filter (fun q => q.eng == eng)).foldl (fun v q => v + q.size) 0

/-- The first slot at pc, with the placement rules of R171. -/
def placed (must : Nat) (q : QSlot) : QSlot :=
  let op := if fld q.word 127 124 = 0 then fld q.word 123 120 else 0
  if q.bad.isSome && q.word == 0 then q
  else if !isBoundary q.word then q.fail 0x25
  else if (must = 1 ∨ must = 3) ∧ op ≠ 1 then q.fail 0x25
  else if must = 2 ∧ op ≠ 1 ∧ op ≠ 0xF then q.fail 0x25
  else if must = 3 ∧ fld q.word 119 104 ≠ 0 then q.fail 0x23
  else q

/-- The stream that a CSEQ works on: none while its page is not ON, so a page that stops fetches and issues nothing more and
what it has issued completes (R52; log entry 31). -/
def csRuns (s : State) (n : Nat) : Option Nat := if isOn s (pgCseq n) then csActive s n else none

/-- STREAM_FETCH (R172): fetch the command at pc and, after a WAIT, the phase that it starts. -/
def streamFetchState (n : Nat) (s : State) : State :=
  match csRuns s n with
  | none => s
  | some c =>
    let k := cctx s n c
    if !k.queue.isEmpty || k.abortDue || !xlatOn s || !(csState s n c == 1 || csState s n c == 4) then s
    else
      let (q, stop, s) := fetchSlot n c k.pc s
      let q := placed k.mustWait q
      let (body, s) := if stop || q.bad.isSome || fld q.word 127 120 ≠ 0x01 then ([], s)
        else fetchBody n c 4096 (k.pc + 1) 0 [] s
      let beyond := (List.range 7).find? (fun e => 512 < queueNeed (q :: body) e)
      let q := match beyond with
        | some e => (match q.bad with
          | some (r, _, _) => if r < 0x0A then q else { q with bad := some (0x0A, e, 0) }
          | none => { q with bad := some (0x0A, e, 0) })
        | none => q
      cctxMod n c (fun k => { k with queue := q :: body }) s

/-! ### Halts at a command -/

/-- A CSEQ is to read HELD: another CSEQ of the context is HALTED (R177), or the context's exchange has been rolled back (R347). -/
def otherHalted (s : State) (n c : Nat) : Bool :=
  (actx s c).revoked || s.clusters.any (fun e => e.1 != n && csState s e.1 c == 3)

/-- Another context holds the array: the CSEQ must switch (R176). -/
def switchDue (s : State) (c : Nat) : Bool :=
  match running s with
  | some d => d != c
  | none => false

/-- Halt at a fetched slot with the reason found at fetch (R172): an engine command's page records it too (R191). -/
def haltBad (n c : Nat) (q : QSlot) (bad : Nat × Nat × Nat) (s : State) : State :=
  let (reason, i0, i1) := bad
  let eng := q.eng
  let s := match engPage n eng with
    | some p => if reason = 0x0A then s else recordError p reason i0 i1 s
    | none => s
  let (j0, j1) := if reason = 0x0A then (i0, 0) else if reason = 0x08 then (i0, i1) else (0, 0)
  cseqHalt n c (if eng ≤ 6 then eng else 0) (slotVa s n c q.index) reason j0 j1 false s

/-- The pending halt of a saturated counter, a full mailbox, an undefined counter or a failed _M command is taken at the
next command (R29, R174, R175, R224). -/
def takeNextError (n c : Nat) (index : Nat) (e : Nat × Nat × Nat) (s : State) : State :=
  let s := cctxMod n c (fun k => { k with nextError := none }) s
  cseqHalt n c (if e.1 = 0x0A ∨ e.1 = 0x24 then 0 else 6) (slotVa s n c index) e.1 e.2.1 e.2.2 false s

/-- CSEQ_CTXc_PC. -/
def setCseqPc (n c index : Nat) (s : State) : State :=
  reg64Set (csReg n c Reg.CSEQ_CTX_PC) (slotVa s n c index) s

/-- Index of the next command: the first of the phase, or the one at pc. -/
def nextIndex (k : CseqCtx) : Nat :=
  match k.phase with
  | some p => (match p.todo with
    | q :: _ => q.index
    | [] => k.pc)
  | none => k.pc

/-- The active stream at a boundary: the context, its view and the boundary slot. Nothing of the phase is left to issue,
the stream runs, and no switch waits. -/
def boundary (s : State) (n : Nat) : Option (Nat × CseqCtx × QSlot) :=
  match csRuns s n with
  | none => none
  | some c =>
    let k := cctx s n c
    if csState s n c ≠ 1 ∨ k.replayDue = true ∨ k.resumeDue = true then none
    else if (match k.phase with
      | some p => !p.todo.isEmpty
      | none => false) then none
    else
      match k.queue with
      | q :: _ => some (c, k, q)
      | [] => none

/-- ECLK at which a boundary command acts: cycle ISSUE_AT of the phase it ends, or now. -/
def boundaryTime (s : State) (k : CseqCtx) (q : QSlot) : Nat :=
  match k.phase with
  | some p => max s.clk.eclk (p.cycle0 + fld q.word 119 104)
  | none => s.clk.eclk

/-- A WAIT or VARJ begins testing: the phase it ends is complete (R171, R177). -/
def beginTest (n c : Nat) (s : State) : State :=
  let s := cctxMod n c (fun k => { k with phase := none, testing := some s.clk.eclk }) s
  let s := rfSet (csReg n c Reg.CSEQ_CTX_STATUS) 7 4 0 (csStateSet n c 2 s)
  tally (pgCseq n) 0x0100 1 (ctxAttrs s c) s

/-- A halt at a boundary command: the phase that it ends is complete, and RESUME fetches again from the command (R172, R177;
log entry 83). -/
def phaseOver (n c : Nat) (s : State) : State :=
  cctxMod n c (fun k => { k with phase := none, queue := [] }) (rfSet (csReg n c Reg.CSEQ_CTX_STATUS) 7 4 0 s)

/-- What every boundary command meets first: HELD (R177), a pending halt, or a halt found at fetch in it or in the phase
that it starts. `none` lets it go on. -/
def boundaryStop (n c : Nat) (k : CseqCtx) (q : QSlot) (waits : Bool) (s : State) : Option State :=
  if waits && otherHalted s n c then some (csStateSet n c 4 s)
  else
    match k.nextError with
    | some e => some (takeNextError n c q.index e (phaseOver n c s))
    | none =>
      match k.queue.find? (fun x => x.bad.isSome) with
      | some x => (match x.bad with
        | some b => some (haltBad n c x b (phaseOver n c s))
        | none => none)
      | none => none

/-- WAIT (R171): testing begins in cycle ISSUE_AT of the phase it ends. A slot at pc that is no command of another kind
halts here (PLACEMENT, OPCODE_ILLEGAL or a fetch fault). -/
def waitState (n : Nat) (s : State) : State :=
  match boundary s n with
  | none => s
  | some (c, k, q) =>
    if switchDue s c then s
    else if fld q.word 127 120 = 0x01 ∨ (q.bad.isSome ∧ ¬ isBoundary q.word) then
      let s := eclkTo (boundaryTime s k q) s
      let s := setCseqPc n c q.index s
      match boundaryStop n c k q true s with
      | some s => s
      | none => beginTest n c s
    else s

/-- Slots that a fetched phase takes. -/
def phaseSlots (l : List QSlot) : Nat := l.foldl (fun v q => v + q.size) 0

/-- PHASE_START (R171): the counter holds COUNT and the phase is fetched. -/
def phaseStartState (n : Nat) (s : State) : State :=
  match csRuns s n with
  | none => s
  | some c =>
    let k := cctx s n c
    match k.testing, k.queue with
    | some t0, q :: body =>
      let g := fld q.word 102 98
      let count := fld q.word 97 90
      if csState s n c ≠ 2 ∨ fld q.word 127 120 ≠ 0x01 ∨ csToken s n c g < count ∨ switchDue s c then s
      else
        let s := csTokenSet n c g (csToken s n c g - count) s
        let p : Phase :=
          { cycle0 := s.clk.eclk, waitIndex := q.index, replayOk := bit q.word 89, todo := body, whole := body
            sent := 0, done := 0, lc := k.lc, active := k.active }
        let s := cctxMod n c (fun k => { k with
          phase := some p, testing := none, queue := [], pc := q.index + 1 + phaseSlots body, mustWait := 0 }) s
        let s := setCseqPc n c (nextIndex (cctx s n c)) (csStateSet n c 1 s)
        let s := tally (pgCseq n) 0x0101 (s.clk.eclk - t0) (ctxAttrs s c) s
        cseqSample n (slotVa s n c q.index) (fld q.word 127 120) c false false (s.clk.eclk - t0) (fld q.word 119 104) s
    | _, _ => s

/-- CSEQ_WAIT_TIMEOUT (R30): a WAIT or VARJ has lasted longer than WAIT_TIMEOUT. -/
def cseqTimeoutState (n : Nat) (s : State) : State :=
  match csRuns s n with
  | none => s
  | some c =>
    let k := cctx s n c
    let lim := rf s ((pgCseq n).base + Reg.CSEQ_CONFIG) 31 16 * 65536
    match k.testing, k.queue with
    | some t0, q :: _ =>
      let varj := fld q.word 127 120 == 0x03
      let g := fld q.word 102 98
      let met := if varj then rf s (csReg n c Reg.CSEQ_CTX_STATUS) 23 23 == 1 else decide (fld q.word 97 90 ≤ csToken s n c g)
      if csState s n c ≠ 2 ∨ lim = 0 ∨ met = true then s
      else
        let s := eclkTo (t0 + lim + 1) s
        let s := cctxMod n c (fun k => { k with testing := none }) s
        cseqHalt n c 0 (slotVa s n c q.index) 0x0B (if varj then 0x100 else g) (if varj then 0 else csToken s n c g) false s
    | _, _ => s

/-- Continue at slot `i`. -/
def cseqGoto (n c i must : Nat) (s : State) : State :=
  setCseqPc n c i (cctxMod n c (fun k => { k with
    pc := i, queue := [], mustWait := must, testing := none, phase := none }) s)

/-- VARJ (R175): wait on the mailbox. The first command begins the wait; once the mailbox is full the jump is taken. -/
def varjState (n : Nat) (s : State) : State :=
  match csRuns s n with
  | none => s
  | some c =>
    let k := cctx s n c
    let st := csReg n c Reg.CSEQ_CTX_STATUS
    let jump (q : QSlot) (t0 : Nat) (s : State) : State :=
      let v := rf s st 31 24
      let s := rfSet st 23 23 0 s
      match k.vtab.find? (fun e => e.1 == v) with
      | none => cseqHalt n c 0 (slotVa s n c q.index) 0x26 0 0 false
          (cctxMod n c (fun k => { k with testing := none }) s)
      | some (_, i) =>
        let s := tally (pgCseq n) 0x0101 (s.clk.eclk - t0) (ctxAttrs s c) s
        let s := cseqSample n (slotVa s n c q.index) 0x03 c false false (s.clk.eclk - t0) (fld q.word 119 104) s
        csStateSet n c 1 (cseqGoto n c i 1 s)
    match k.testing, k.queue with
    | some t0, q :: _ =>
      if csState s n c = 2 ∧ fld q.word 127 120 = 0x03 ∧ rf s st 23 23 = 1 ∧ ¬ switchDue s c then jump q t0 s else s
    | _, _ =>
      match boundary s n with
      | none => s
      | some (_, k, q) =>
        if switchDue s c ∨ fld q.word 127 120 ≠ 0x03 then s
        else
          let s := setCseqPc n c q.index (eclkTo (boundaryTime s k q) s)
          match boundaryStop n c k q true s with
          | some s => s
          | none =>
            let s := beginTest n c s
            if rf s st 23 23 = 1 then jump q s.clk.eclk s else s

/-- LOOP and JMP (R142, R170): the loop counters after a LOOP, and whether the branch is taken. -/
def loopStep (lc : List Nat) (active : List Bool) (ctr countM1 : Nat) : List Nat × List Bool × Bool :=
  let v := (if lget active ctr false then lget lc ctr 0 else countM1 + 1) - 1
  (lset lc ctr v, lset active ctr (v != 0), v != 0)

/-- A control command of the stream issues: its sample and its count. -/
def ctlIssued (n c : Nat) (q : QSlot) (s : State) : State :=
  let s := tally (pgCseq n) 0x0100 1 (ctxAttrs s c) s
  cseqSample n (slotVa s n c q.index) (fld q.word 127 120) c false false 0 0 s

/-- LOOP of the CSEQ (R142, R170). -/
def cseqLoopState (n : Nat) (s : State) : State :=
  match boundary s n with
  | none => s
  | some (c, k, q) =>
    if fld q.word 127 120 ≠ 0x04 then s
    else
      match boundaryStop n c k q false s with
      | some s => s
      | none =>
        let (lc, active, taken) := loopStep k.lc k.active (fld q.word 102 101) (fld q.word 100 77)
        let s := ctlIssued n c q s
        let s := rfSet (csReg n c Reg.CSEQ_CTX_STATUS) 7 4 0 s
        let s := cctxMod n c (fun k => { k with lc := lc, active := active }) s
        if taken then cseqGoto n c (((q.index : Int) + sext 32 (fld q.word 76 45)).toNat) 1 s
        else cseqGoto n c (q.index + 1) 2 s

/-- JMP of the CSEQ (R142, R170). -/
def cseqJmpState (n : Nat) (s : State) : State :=
  match boundary s n with
  | none => s
  | some (c, k, q) =>
    if fld q.word 127 120 ≠ 0x05 then s
    else
      match boundaryStop n c k q false s with
      | some s => s
      | none =>
        let s := rfSet (csReg n c Reg.CSEQ_CTX_STATUS) 7 4 0 (ctlIssued n c q s)
        cseqGoto n c (((q.index : Int) + sext 32 (fld q.word 76 45)).toNat) 1 s

/-- Commands of the cluster's engines still complete for a context: outstanding _M commands, and posted statistics that
their entry has not absorbed (R212, R224). -/
def cseqBusy (s : State) (n c : Nat) : Bool :=
  (clu s n).gath.any (fun j => j.ctx == c) || s.statq.any (fun m => !m.fromDrain && m.producer == n && m.ctx == c)

/-- ECLK at which every command that the engines of a cluster have issued is complete: each engine is free and its last
access has taken effect (R177, R179, R188). -/
def enginesDone (s : State) (n : Nat) : Nat :=
  (clu s n).guard.foldl (fun v e => match e.leave with
    | some t => if e.owner ≤ 6 then max v (t + 1) else v
    | none => v) ((clu s n).engFree.foldl (fun v e => max v e.2) s.clk.eclk)

/-- The reads of a command leave the Guard after its last occupied ECLK, its writes within the latency after that (R179,
R188). -/
def readsLeave (n cmd t : Nat) (s : State) : State :=
  cluMod n (fun k => { k with guard := k.guard.map (fun e =>
    if e.cmd = cmd ∧ e.write = false then { e with leave := some t } else e) }) s

/-- END of the CSEQ (R177): the stream returns to IDLE and CTX_DONE is set. -/
def cseqEndState (n : Nat) (s : State) : State :=
  match boundary s n with
  | none => s
  | some (c, k, q) =>
    if fld q.word 127 120 ≠ 0x0F ∨ cseqBusy s n c = true then s
    else
      match boundaryStop n c k q false s with
      | some s => s
      | none =>
        let s := ctlIssued n c q (eclkTo (enginesDone s n) s)
        let s := rfSet (csReg n c Reg.CSEQ_CTX_STATUS) 7 4 0 s
        let s := cctxMod n c (fun k => { k with queue := [], phase := none, testing := none }) s
        setIrq (pgCseq n) (2 ^ (24 + c)) (csActiveSet n none (csStateSet n c 0 s))

/-! ### Issue inside a phase -/

/-- The command that the running phase issues next: context, view, phase and slot. -/
def phaseHead (s : State) (n : Nat) : Option (Nat × CseqCtx × Phase × QSlot) :=
  match csRuns s n with
  | none => none
  | some c =>
    let k := cctx s n c
    if csState s n c ≠ 1 ∨ k.replayDue = true ∨ k.resumeDue = true then none
    else
      match k.phase with
      | none => none
      | some p =>
        match p.todo with
        | [] => none
        | q :: _ => some (c, k, p, q)

/-- A command of the phase has issued. -/
def phaseIssued (n c : Nat) (s : State) : State :=
  let s := cctxMod n c (fun k => { k with phase := k.phase.map (fun p => { p with todo := p.todo.tail }) }) s
  setCseqPc n c (nextIndex (cctx s n c)) (tally (pgCseq n) 0x0100 1 (ctxAttrs s c) s)

/-- A replay is under way: REPLAYS is not 0. -/
def inReplay (s : State) (n c : Nat) : Bool := rf s (csReg n c Reg.CSEQ_CTX_STATUS) 7 4 != 0

/-- SIGNAL (R174): it issues in its ISSUE_AT cycle and is sent once every earlier write of the cluster's engines for the context has taken effect; a replay
sends only what the halted run had not sent (R177). -/
def signalState (n : Nat) (s : State) : State :=
  match phaseHead s n with
  | none => s
  | some (c, k, p, q) =>
    if fld q.word 127 120 ≠ 0x02 then s
    else
      let s := eclkTo (p.cycle0 + fld q.word 119 104) s
      match k.nextError with
      | some e => takeNextError n c q.index e s
      | none =>
        let w := q.word
        let again := decide (p.done < p.sent)
        let s := if again then s
          else (signalsOf (fld w 102 101) (fld w 100 99) (fld w 98 85) (fld w 84 77) (fld w 76 69) c (masterId 1 n)).foldl
            (fun s x => sendSignal { x with
              notBefore := enginesDone s n
              gaths := ((clu s n).gath.filter (fun j => j.ctx == c)).map (·.cmd)
              stats := (s.statq.filter (fun m => !m.fromDrain && m.producer == n && m.ctx == c)).map (·.no) } s) s
        let s := cctxMod n c (fun k => { k with phase := k.phase.map (fun p =>
          { p with done := p.done + 1, sent := if again then p.sent else p.sent + 1 }) }) s
        let s := cseqSample n (slotVa s n c q.index) 0x02 c false (inReplay s n c) 0 (fld w 119 104) s
        phaseIssued n c s

/-- The halt of an engine command: its page and the CSEQ record it (R177, R191). -/
def engineHalt (n c eng : Nat) (q : QSlot) (e : EErr) (cs0 cs1 : Nat) (auto : Bool) (s : State) : State :=
  let s := match engPage n eng with
    | some p => recordError p e.reason e.i0 e.i1 s
    | none => s
  let s := cseqSample n (slotVa s n c q.index) (fld q.word 127 120) c true (inReplay s n c) 0 (fld q.word 119 104) s
  cseqHalt n c eng (slotVa s n c q.index) e.reason cs0 cs1 auto s

/-- Some range of a command touches a bank in RET: the command waits for its wake (R163). -/
def touchesRet (s : State) (n : Nat) (rs : List GRange) : Bool :=
  let ret := (List.range 32).filter (fun b => bankCur s n b == 1)
  !ret.isEmpty && rs.any (fun r => (wordsOf r.first (r.last - r.first)).any (fun w => ret.contains (cmemBank w)))

/-- Put a plan's effect into the state: the Guard entries enter, the engine is taken, the groups run (R173, R179, R187,
R188). `stall` is what port A costs the command under R158; a wake of a bank in RET costs at least 64 ECLK of it (R163). -/
def enginePlanned (n c eng stall : Nat) (q : QSlot) (pl : EngPlan) (s : State) : State :=
  let t := s.clk.eclk
  let occ := pl.occ + (if touchesRet s n pl.ranges then max 64 stall else stall)
  let last := t + max 1 occ - 1
  let (cmd, s) := guardEnter n eng pl.ranges (if pl.hold then none else some (last + pl.lat)) s
  let s := if pl.hold then s else readsLeave n cmd last s
  let s := cluMod n (fun k => { k with engFree := tput k.engFree eng (t + occ) }) s
  let s := match engPage n eng with
    | some p => tally p 0x0101 pl.elems (ctxAttrs s c) (tally p 0x0100 occ (ctxAttrs s c) s)
    | none => s
  let s := phaseIssued n c s
  match pl.run s with
  | (none, s) =>
    cseqSample n (slotVa s n c q.index) (fld q.word 127 120) c false (inReplay s n c) (occ + pl.lat) (fld q.word 119 104) s
  | (some e, s) => engineHalt n c eng q e (cseqInfo e).1 (cseqInfo e).2 false s

/-- Issue the command at the head of the phase on engine `eng`, if `match_` accepts its slot. The halt with the
numerically lowest reason among the Guard's, the engine's and ENGINE_BUSY is taken (R172, R173, R180, R181). -/
def engineIssue (n eng stall : Nat) (match_ : Slot → Bool) (plan : EngArg → State → EngPlan) (s : State) : State :=
  match phaseHead s n with
  | none => s
  | some (c, k, p, q) =>
    if q.eng ≠ eng ∨ match_ q.word = false then s
    else
      let s := wavesAt n (eclkTo (p.cycle0 + fld q.word 119 104) s)
      if csState s n c ≠ 1 then s   -- an array wave that arrived just now halted the stream (R180)
      else
      match k.nextError with
      | some e => takeNextError n c q.index e s
      | none =>
        let cyc := phaseCycle s p % 65536
        let pl := plan ⟨n, c, q.word, q.ext.getD 0, q.ext.isSome, ctxSecure s c, none⟩ s
        let busy := decide (s.clk.eclk < tget (clu s n).engFree 0 eng)
        let own : Option Nat := pl.issue.map (·.reason)
        let below (r : Nat) : Bool := match own with
          | some x => decide (x < r)
          | none => false
        match guardJudge s n eng pl.ranges, pl.issue with
        | .slip b r e, i =>
          if below 0x04 then
            (match i with
             | some x => engineHalt n c eng q x (cseqInfo x).1 (cseqInfo x).2 false s
             | none => s)
          else engineHalt n c eng q ⟨0x04, 0, 0⟩ (slipInfo0 e.owner eng b) cyc true (latchSlip n eng r e false cyc s)
        | .full, i =>
          if below 0x0A then
            (match i with
             | some x => engineHalt n c eng q x (cseqInfo x).1 (cseqInfo x).2 false s
             | none => s)
          else engineHalt n c eng q ⟨0x0A, 0, 0⟩ (0x100 + eng) 0 true s
        | .enter, some x =>
          if busy && !below 0x21 then engineHalt n c eng q ⟨0x21, 0, 0⟩ eng cyc true s
          else if x.reason = 0x21 then engineHalt n c eng q x eng cyc true s
          else engineHalt n c eng q x (cseqInfo x).1 (cseqInfo x).2 false s
        | .enter, none =>
          if busy then engineHalt n c eng q ⟨0x21, 0, 0⟩ eng cyc true s
          else enginePlanned n c eng stall q pl s

/-- A command that FUNC selects. -/
def engineCmd (n eng func stall : Nat) (plan : EngArg → State → EngPlan) (s : State) : State :=
  engineIssue n eng stall (fun w => fld w 123 120 == func) plan s

/-! ### Replay, switch, start and the end of a context's stream -/

/-- CSEQ_REPLAY (R177): the phase starts again at cycle 0, automatically or on RESUME. -/
def cseqReplayState (n : Nat) (s : State) : State :=
  match csRuns s n with
  | none => s
  | some c =>
    let k := cctx s n c
    if !(k.replayDue || k.resumeDue) || cseqBusy s n c then s
    else
      let s := eclkTo (enginesDone s n) s
      let st := csReg n c Reg.CSEQ_CTX_STATUS
      let s := if k.replayDue then rfAdd st 7 4 1 s else rfSet st 7 4 0 s
      let s := cctxMod n c (fun k =>
        { k with
          replayDue := false, resumeDue := false
          lc := (match k.phase with
            | some p => p.lc
            | none => k.lc)
          active := (match k.phase with
            | some p => p.active
            | none => k.active)
          phase := k.phase.map (fun p => { p with cycle0 := s.clk.eclk, todo := p.whole, done := 0 }) }) s
      let s := setCseqPc n c (nextIndex (cctx s n c)) (csStateSet n c 1 s)
      emitBare (pgCseq n) 0x80 (tally (pgCseq n) 0x0102 1 (ctxAttrs s c) s)

/-- The stream of context c can leave the CSEQ now: it is at a WAIT or VARJ, or it does not run (R176). -/
def canLeave (s : State) (n c : Nat) : Bool :=
  let k := cctx s n c
  let st := csState s n c
  !cseqBusy s n c && !k.replayDue && !k.resumeDue &&
  (st != 1 ||
    ((match k.phase with
      | some p => p.todo.isEmpty
      | none => true) &&
     (match k.queue with
      | q :: _ => fld q.word 127 120 == 0x01 || fld q.word 127 120 == 0x03
      | [] => k.phase.isNone)))

/-- CSEQ_SWITCH (R176): the stream keeps its place at its WAIT or VARJ, and the stream of the context that holds the array
resumes at its own. -/
def cseqSwitchState (n : Nat) (s : State) : State :=
  match running s with
  | none => s
  | some d =>
    if csActive s n = some d ∨ ¬ isOn s (pgCseq n) then s
    else
      let ready := match csActive s n with
        | none => true
        | some c => canLeave s n c
      if !ready then s
      else
        let s := match csActive s n with
          | none => s
          | some c =>
            let s := eclkTo (enginesDone s n) s
            let s := cctxMod n c (fun k => { k with
              queue := [], testing := none
              phase := if csState s n c = 3 then k.phase else none }) s
            let s := setCseqPc n c (cctx s n c).pc s
            if csState s n c = 1 ∨ csState s n c = 2 then csStateSet n c 5 s else s
        if (cctx s n d).abortDue then csActiveSet n none s
        else if csState s n d = 5 ∨ csState s n d = 1 then csActiveSet n (some d) (csStateSet n d 1 s)
        else if csState s n d = 3 ∨ csState s n d = 4 then csActiveSet n (some d) s
        else csActiveSet n none s

/-- A variant table of a stream: entries of 8 bytes (R167). -/
def parseVtab : Nat → List Byte → List (Nat × Nat × Bool)
  | 0, _ => []
  | k + 1, d =>
    let v := leNat (d.take 8)
    (nfld v 7 0, nfld v 63 32, nfld v 31 8 != 0) :: parseVtab k (d.drop 8)

/-- Repeated VARIANT_IDs. -/
def hasRepeat : List Nat → Bool
  | [] => false
  | x :: t => t.contains x || hasRepeat t

/-- A context's stream begins: its CSEQ view is fresh and its PARAM latches clear (R168, R189). -/
def streamFresh (n c : Nat) (s : State) : State :=
  cctxMod n c (fun k => { CseqCtx.fresh with nextError := k.nextError })
    (cluMod n (fun k => { k with vecLatch := tdel k.vecLatch c, convLatch := tdel k.convLatch c }) s)

/-- STREAM_START (R168): on ACON's start notice the CSEQ of cluster n reads and checks its stream's header. A context
whose STREAM_VA is 0 has no stream here (R375); a CSEQ that is not ON takes no notice (log entry 31). A stream begins at a
WAIT (R171), so it reads HELD at once where another CSEQ of the context is HALTED (R177). -/
def streamStartState (n c : Nat) (s : State) : State :=
  let a := actx s c
  if !a.notice || a.noticed.contains n || csState s n c != 0 || !xlatOn s then s
  else
    let s := actxMod c (fun a => { a with noticed := n :: a.noticed }) s
    let va := reg64 s (csReg n c Reg.CSEQ_CTX_STREAM_VA) % 2 ^ 48
    if va = 0 ∨ ¬ isOn s (pgCseq n) then s   -- R375, log entry 31
    else
      let s := streamFresh n c s
      let halt (reason i0 i1 : Nat) (s : State) : State := cseqHalt n c 0 va reason i0 i1 false s
      let fault (e : Fail) (a : Nat) (s : State) : State := halt (causeReason e.cause) (a % 2 ^ 32) (a / 2 ^ 32) s
      match virtRead (viaCtx s c) va 64 s with
      | (.error e, s) => fault e va s
      | (.ok d, s) =>
        let v := leNat d
        let count := nfld v 63 32
        let entry := nfld v 95 64
        let voff := nfld v 127 96
        let vcnt := nfld v 143 128
        let reserved := nfld v 511 144 != 0
        let value := nfld v 15 0 != 1 || decide (count ≤ entry) || decide (256 < vcnt) || voff % 8 != 0 ||
          (vcnt != 0 && voff == 0) || decide (2 ^ 24 < count)
        let vread : Except Fail (List (Nat × Nat × Bool)) × State :=
          if vcnt = 0 ∨ reserved = true ∨ value = true then (.ok [], s)
          else
            match virtRead (viaCtx s c) ((va + voff) % 2 ^ 48) (8 * vcnt) s with
            | (.ok d, s) => (.ok (parseVtab vcnt d), s)
            | (.error e, s) => (.error e, s)
        match vread with
        | (.error e, s) => fault e ((va + voff) % 2 ^ 48) s
        | (.ok vt, s) =>
          if reserved || vt.any (fun e => e.2.2) then halt 0x02 0 0 s
          else if value then halt 0x23 0 0 s
          else if nfld v 31 16 ≠ n ∨ hasRepeat (vt.map (·.1)) ∨ vt.any (fun e => decide (count ≤ e.2.1)) then halt 0x20 0 0 s
          else
            let held := otherHalted s n c
            let onArray := decide (running s = some c) && (csActive s n).isNone
            let s := cctxMod n c (fun k =>
              { k with pc := entry, slotCount := count, vtab := vt.map (fun e => (e.1, e.2.1)), mustWait := 3 }) s
            let s := rfSet (csReg n c Reg.CSEQ_CTX_STATUS) 7 4 0 (setCseqPc n c entry s)
            let s := if onArray then csActiveSet n (some c) s else s
            csStateSet n c (if held then 4 else if onArray then 1 else 5) s

/-- The end of an ABORT in one cluster (R177): the stream returns to IDLE, the loop counters and the mailbox are cleared, the
token counters keep their values, and so does the halt of a saturated or undefined counter (R29, R174). The accumulator set of the
context is emptied (R197). -/
def cseqAborted (n c : Nat) (s : State) : State :=
  let s := cctxMod n c (fun k => { CseqCtx.fresh with nextError := match k.nextError with
    | some (r, i0, i1) => if r = 0x24 ∨ (r = 0x0A ∧ i1 = 65535) then some (r, i0, i1) else none
    | none => none }) s
  let s := cluMod n (fun k => { k with accSets := tdel k.accSets c }) s
  let s := reg64Set ((pgVec n).base + Reg.VEC_CTX_ACC + c * 0x40) 0 s
  let st := csReg n c Reg.CSEQ_CTX_STATUS
  let s := rfSet st 31 23 0 (rfSet st 7 4 0 (csStateSet n c 0 s))
  if csActive s n = some c then csActiveSet n none s else s

/-- _M commands of a context are under way in a cluster. -/
def gathBusy (s : State) (n c : Nat) : Bool := (clu s n).gath.any (fun j => j.ctx == c)

/-- ABORT in one cluster (R177): nothing more issues, and the stream returns to IDLE once its issued commands have completed. -/
def cseqAbort (n c : Nat) (s : State) : State :=
  let s := cctxMod n c (fun k => { k with
    queue := [], phase := none, testing := none, replayDue := false, resumeDue := false, abortDue := true }) s
  if gathBusy s n c then s
  else cseqAborted n c (if csActive s n = some c then eclkTo (enginesDone s n) s else s)

/-- An ABORT that waited for the _M commands of a stream ends (R177). -/
def abortedNow (n c : Nat) (s : State) : State :=
  if (cctx s n c).abortDue && !gathBusy s n c then cseqAborted n c (eclkTo (enginesDone s n) s) else s

/-- RESUME for the CSEQs of a context (R177): the halted one replays its phase, a stream halted at its header reads it
again, and the HELD ones continue. -/
def cseqResume (c : Nat) (s : State) : State :=
  (s.clusters.map (·.1)).foldl (fun s n =>
    let k := cctx s n c
    let st := csState s n c
    let back (s : State) : State := csStateSet n c (if csActive s n = some c then 1 else 5) s
    if k.abortDue then s
    else if st = 4 then back (cctxMod n c (fun k => { k with testing := none }) s)
    else if st = 3 then
      if k.slotCount = 0 then
        csStateSet n c 0 (actxMod c (fun a => { a with noticed := a.noticed.filter (· != n) }) s)
      else if k.phase.isSome then cctxMod n c (fun k => { k with resumeDue := true }) (back s)
      else cctxMod n c (fun k => { k with queue := [], testing := none }) (back s)
    else s) s

/-- VSEL writes a context's mailbox (R140, R175); a full mailbox halts the CSEQ at its next command. -/
def mailboxPut (n c v : Nat) (s : State) : State :=
  let st := csReg n c Reg.CSEQ_CTX_STATUS
  if rf s st 23 23 = 1 then
    cctxMod n c (fun k => { k with nextError := some (0x0A, 0, 0) }) s
  else rfSet st 31 24 v (rfSet st 23 23 1 s)

end Sys2Proof.Machine
end

