-- ==== Sys2Proof/Machine/Mover.lean ====
section
/-! DEFINITION. The Movers (R282 to R302): stream entries, descriptors, chunks, suspension, halts, pre-emption and stops. -/

namespace Sys2Proof.Machine

/-! ### Streams -/

/-- A stream entry after device reset. -/
def Stream.fresh : Stream where
  state := .idle
  reason := 0
  ctx := 0
  irqDone := false
  fault := 0
  seq := 0
  chainVa := 0
  descVa := 0
  byteOff := 0
  loopActive := false
  loopCount := 0
  vtab := 0
  tokens := [0, 0, 0, 0]
  faultVa := 0
  faultPa := 0
  mboxId := 0
  mboxFull := false
  secure := false
  curVa := 0
  curDesc := []
  curTensor := none
  nextOff := 0
  total := 0
  waitTaken := false
  fetched := false
  chunks := []
  failing := none
  stopReq := 0
  nextError := none

/-- Stream i. -/
def strm (s : State) (i : Nat) : Stream := tget s.streams Stream.fresh i

/-- Change it. -/
def strmMod (i : Nat) (f : Stream → Stream) (s : State) : State := { s with streams := tput s.streams i (f (strm s i)) }

/-- STATE code (R284). -/
def StreamState.code : StreamState → Nat
  | .idle => 0
  | .waiting => 1
  | .running => 2
  | .suspended => 3
  | .halted => 4
  | .preempted => 5
  | .done => 6

/-- The 64 bytes of a stream entry as one number (R283). -/
def streamEntry (x : Stream) : Nat :=
  x.state.code + (x.reason % 256) <<< 8 + (x.ctx + 128 * b2n x.irqDone) <<< 16 + (x.fault % 128) <<< 24 +
  (x.seq % 2 ^ 32) <<< 32 + x.chainVa <<< 64 + x.descVa <<< 128 + x.byteOff <<< 192 +
  (x.loopCount + 2 ^ 31 * b2n x.loopActive) <<< 224 + x.vtab <<< 256 +
  (lget x.tokens 0 0 + lget x.tokens 1 0 <<< 16 + lget x.tokens 2 0 <<< 32 + lget x.tokens 3 0 <<< 48) <<< 320 +
  x.faultVa <<< 384 + (x.faultPa + x.mboxId <<< 48 + b2n x.mboxFull <<< 56) <<< 448

/-- A stream that is IDLE or DONE takes configuration writes (R283). -/
def Stream.atRest (x : Stream) : Bool := x.state == .idle || x.state == .done

/-- A stream that is WAITING or RUNNING. -/
def Stream.active (x : Stream) : Bool := x.state == .waiting || x.state == .running

/-- The logical Mover of a stream (R282). -/
def moverOf (i : Nat) : Nat := i / 256

/-- Streams of a Mover that are listed. -/
def moverStreams (s : State) (m : Nat) : List (Nat × Stream) := s.streams.filter (fun e => e.1 / 256 == m)

/-- Chunks of a Mover in flight (MOV_LOAD.CHUNKS). -/
def moverChunks (s : State) (m : Nat) : Nat := (moverStreams s m).foldl (fun v e => v + e.2.chunks.length) 0

/-- MOV_LOAD (R301). -/
def movLoad (s : State) (m : Nat) : Nat :=
  moverChunks s m <<< 16 + ((moverStreams s m).filter (fun e => e.2.active)).length

/-- The listed streams of a context. -/
def ctxStreams (s : State) (c : Nat) : List Nat := (s.streams.filter (fun e => e.2.ctx == c)).map (·.1)

/-- The Mover of a stream runs: its page is ON and it is not retired. -/
def moverRuns (s : State) (m : Nat) : Bool := isOn s (pgMov m) && !s.moverDead.contains m

/-- The Mover's master ID (R485). -/
def moverAttrs (s : State) (i : Nat) : Attrs :=
  { world := some (strm s i).secure, master := some (masterId 2 (moverOf i)) }

/-- A write to the entry of stream i at byte offset `off` (R283): RW fields change while the stream is IDLE or DONE, token
counters always. -/
def streamWriteAt (i off size value : Nat) (s : State) : State :=
  let put (lo hi x : Nat) : Nat :=   -- the field at bits lo to hi of the entry after the write
    let e := streamEntry (strm s i)
    nfld (nset e (8 * off + 8 * size - 1) (8 * off) x) hi lo
  let touches (b : Nat) : Bool := decide (off ≤ b) && decide (b < off + size)
  if 0x28 ≤ off ∧ off < 0x30 then
    strmMod i (fun x => { x with tokens := (List.range 4).map (fun t => put (320 + 16 * t) (335 + 16 * t) value) }) s
  else if touches 0x02 || (0x08 ≤ off && off < 0x10) || (0x20 ≤ off && off < 0x28) then
    if (strm s i).atRest then
      strmMod i (fun x =>
        { x with
          ctx := put 16 18 value
          irqDone := put 23 23 value == 1
          chainVa := put 64 111 value
          vtab := put 256 312 value }) s
    else recordError (pgMov (moverOf i)) 0x24 0 0 s
  else s

/-- A window write to MOV_STREAM of Mover m: the stream that MOV_SSEL selects (R283). -/
def streamWrite (m off size value : Nat) (s : State) : State := streamWriteAt (selStream s m) off size value s

/-! ### Halts and suspensions -/

/-- PAYLOAD of the stream events (R293). -/
def streamPayload (i : Nat) (x : Stream) (halt : Bool) : Nat :=
  x.fault % 128 + b2n halt <<< 7 + i <<< 8 + x.byteOff <<< 32

/-- A halt of a stream (R297). -/
def streamHalt (i reason off info0 info1 : Nat) (s : State) : State :=
  let s := strmMod i (fun x => { x with
    state := .halted, reason := reason, descVa := x.curVa, byteOff := off, nextOff := off, fetched := false
    failing := none }) s
  let x := strm s i
  let p := pgMov (moverOf i)
  let s := setIrq p 0x20000 (recordError p reason info0 info1 s)
  let s := emit p reason (streamPayload i x true) s
  agentHalted x.ctx 0x0601 i x.descVa reason x.byteOff x.fault s

/-- The FAULT byte of a failed access (R283). -/
def faultByte (e : Nat × Nat × Nat × Nat × Nat) : Nat :=
  let (cause, level, write, _, _) := e
  cause + level <<< 4 + write <<< 6

/-- A chunk's failure from a failed access: cause, level, direction, VA (0 on the CMEM side) and PA (0 when none was
formed). -/
def failOf (e : Fail) : Nat × Nat × Nat × Nat × Nat :=
  (e.cause, e.level, b2n e.write, e.va, if e.level = 3 then e.pa else 0)

/-- STREAM_SUSPEND (R293): no chunk is in flight and the recorded failure is on the memory side. -/
def streamSuspendState (i : Nat) (s : State) : State :=
  let x := strm s i
  match x.failing with
  | none => s
  | some ch =>
    match ch.fail with
    | none => s
    | some e =>
      if !x.active || !x.chunks.isEmpty || x.stopReq == 2 || ch.cmemFail.isSome then s
      else
        let (cause, _, _, va, pa) := e
        let reason := causeReason cause
        let s := strmMod i (fun x => { x with
          state := .suspended, reason := reason, seq := (x.seq + 1) % 2 ^ 32, fault := faultByte e
          faultVa := va, faultPa := pa, descVa := x.curVa, byteOff := ch.off, nextOff := ch.off, fetched := false
          failing := none, stopReq := 0 }) s
        let x := strm s i
        let m := moverOf i
        let p := pgMov m
        let s := tally p 0x0102 1 { moverAttrs s i with addr := some va } (setIrq p 0x10000 s)
        let s := emit p reason (streamPayload i x false) s
        let rec64 := reason <<< 16 + x.fault <<< 24 + i <<< 32 + x.ctx <<< 48 + m <<< 56 + va <<< 64 + pa <<< 128 +
          x.descVa <<< 192 + x.byteOff <<< 256 + ctxEpoch s x.ctx <<< 288 + x.seq <<< 320
        postFault x.ctx 0x0601 rec64 s

/-- A memory-side failure with no chunk: of a descriptor, a table entry or the TDT. -/
def streamFails (i : Nat) (e : Fail) (s : State) : State :=
  strmMod i (fun x => { x with failing := some ⟨i, x.nextOff, 0, some (failOf e), none, []⟩ }) s

/-! ### Descriptors -/

/-- A stream that may fetch its next descriptor now. -/
def mayFetch (s : State) (i : Nat) : Bool :=
  let x := strm s i
  x.active && !x.fetched && x.failing.isNone && x.stopReq == 0 && x.chunks.isEmpty && moverRuns s (moverOf i) && xlatOn s &&
  !(actx s x.ctx).revoked

/-- How the Mover reaches memory for a stream (R270). -/
def viaStream (s : State) (i : Nat) : Via := ⟨(strm s i).ctx, .onDie, (strm s i).secure, false⟩

/-- Fields of a COPY (R286). -/
structure Copy where
  dir       : Bool
  transpose : Bool
  bscales   : Bool
  waitEn    : Bool
  sigEn     : Bool
  handle    : Nat
  waitCtr   : Nat
  waitCount : Nat
  scope     : Nat
  target    : Nat
  coff      : Nat
  cstrides  : List Nat     -- CSTRIDE1 to CSTRIDE4
  origin    : List Nat
  ext       : List Nat     -- extents
  sig       : Nat
  reserved  : Bool
deriving DecidableEq, Repr

/-- A COPY from its 64 bytes. -/
def parseCopy (v : Nat) : Copy :=
  let f (o w : Nat) : Nat := nfld v (8 * o + w - 1) (8 * o)
  let flags := f 1 8
  let cs := (List.range 4).map (fun d => f (0x0C + 3 * d) 24)
  { dir := nbit flags 0
    transpose := nbit flags 1
    bscales := nbit flags 2
    waitEn := nbit flags 3
    sigEn := nbit flags 4
    handle := f 2 16 % 2 ^ 15
    waitCtr := f 4 16 % 4
    waitCount := nfld (f 4 16) 9 2
    scope := nfld (f 6 16) 15 14
    target := f 6 16 % 1024
    coff := f 8 32 % 2 ^ 22
    cstrides := cs.map (fun x => x % 2 ^ 22)
    origin := (List.range 5).map (fun d => f (0x18 + 4 * d) 32)
    ext := (List.range 5).map (fun d => f (0x2C + 3 * d) 24 + 1)
    sig := f 0x3B 40
    reserved := f 0 8 / 16 != 0 || flags / 32 != 0 || f 2 16 / 2 ^ 15 != 0 || f 4 16 / 2 ^ 10 != 0 ||
      nfld (f 6 16) 13 10 != 0 || f 8 32 / 2 ^ 22 != 0 || cs.any (fun x => x / 2 ^ 22 != 0) || f 0x3B 40 / 2 ^ 34 != 0 }

/-- Bits of an element that a COPY moves: a block scale is one byte. -/
def Copy.bits (k : Copy) (t : Tensor) : Nat := if k.bscales then 8 else fmtBits t.format

/-- Elements of the box. -/
def Copy.count (k : Copy) : Nat := k.ext.foldl (· * ·) 1

/-- Bytes of the box. -/
def Copy.bytes (k : Copy) (t : Tensor) : Nat := ceilDiv (k.count * k.bits t) 8

/-- Blocks of a row (R287). -/
def rowBlocks (t : Tensor) : Nat := ceilDiv (t.dim 0) 32

/-- Limit of a box index in dimension d: DIM d, in blocks for block scales. -/
def Copy.limit (k : Copy) (t : Tensor) (d : Nat) : Nat := if k.bscales && d == 0 then rowBlocks t else t.dim d

/-- Offset within the CMEM placement of box element j, in elements (R287). -/
def Copy.place (k : Copy) (j : List Nat) : Nat :=
  let j0 := lget j 0 0
  let j1 := lget j 1 0
  let (a, b) := if k.transpose then (j1, j0) else (j0, j1)
  a + b * lget k.cstrides 0 0 + lget j 2 0 * lget k.cstrides 1 0 + lget j 3 0 * lget k.cstrides 2 0 +
    lget j 4 0 * lget k.cstrides 3 0

/-- Bit address of box element j in CMEM (R287). -/
def Copy.cmemBit (k : Copy) (t : Tensor) (j : List Nat) : Nat := k.coff * 8 + k.place j * k.bits t

/-- Bit address of box element j in memory (R287). -/
def Copy.memBit (k : Copy) (t : Tensor) (j : List Nat) : Nat :=
  let i (d : Nat) : Nat := lget k.origin d 0 + lget j d 0
  if k.bscales then
    (t.base + t.bscaleOff + i 0 + rowBlocks t * (i 1 + t.dim 1 * (i 2 + t.dim 2 * (i 3 + t.dim 3 * i 4)))) * 8
  else t.base * 8 + (i 0 + i 1 * t.stride 1 + i 2 * t.stride 2 + i 3 * t.stride 3 + i 4 * t.stride 4) * fmtBits t.format

/-- Elements of a packing group (R62). -/
def packGroup (bits : Nat) : Nat := if bits = 4 then 2 else if bits = 6 then 4 else 1

/-- The conditions of R288 that halt with DESC_INVALID. -/
def copyInvalid (k : Copy) (t : Tensor) : Bool :=
  let bits := fmtBits t.format
  let top := k.cmemBit t (k.ext.map (fun e => e - 1)) + k.bits t
  let sigOk := targetOk (nfld k.sig 1 0) (nfld k.sig 3 2) (nfld k.sig 17 4) (nfld k.sig 25 18)
  (List.range 5).any (fun d => decide (k.limit t d < lget k.origin d 0 + lget k.ext d 1)) ||
  (List.range 5).any (fun d => decide (t.rank ≤ d) && (decide (1 < lget k.ext d 1) || decide (1 < lget k.origin d 0))) ||
  decide (2 ^ 22 < k.bytes t) || decide (cmemTop * 8 < top) || (k.waitEn && k.waitCount == 0) ||
  (k.sigEn && (nfld k.sig 33 26 == 0 || !sigOk)) || (k.dir && k.scope != 0) || !targetOk 0 k.scope k.target 0 ||
  (k.transpose && (bits == 4 || bits == 6)) || (k.bscales && !isBlockFmt t.format) ||
  (!k.bscales && (lget k.origin 0 0 % packGroup bits != 0 || lget k.ext 0 1 % packGroup bits != 0))

/-- Check a COPY (R288), stopping at the first failure in the rule's order: a tensor, a halt reason, or a failed read of the TDT.
A Mover uses no exponent, so none is resolved (R237, R287). -/
def checkCopy (x : Stream) (k : Copy) (s : State) : Except (Nat ⊕ Fail) Tensor × State :=
  if k.reserved then (.error (.inl 0x02), s)
  else
    match fetchTensor x.ctx k.handle s with
    | (.error e, s) => (.error (.inr e), s)
    | (.ok none, s) => (.error (.inl 0x0E), s)
    | (.ok (some t), s) =>
      if tensorBad t || t.resident then (.error (.inl 0x0E), s)
      else if t.secure && !x.secure then (.error (.inl 0x07), s)
      else if copyInvalid k t then (.error (.inl 0x21), s)
      else (.ok t, s)

/-- Fetch the descriptor at a stream's position. -/
def fetchDesc (i : Nat) (s : State) : Except Fail (List Byte) × State := virtRead (viaStream s i) (strm s i).curVa 64 s

/-- KIND of a descriptor's bytes. -/
def descKind (d : List Byte) : Nat := leNat d % 16

/-- A halt that waits for the stream's next descriptor (R289, R290, R29): the reason it gives. -/
def streamPending (i : Nat) (s : State) : Option State :=
  match (strm s i).nextError with
  | some r => some (streamHalt i r (strm s i).nextOff 0 0 (strmMod i (fun x => { x with nextError := none }) s))
  | none => none

/-- Continue at a descriptor. -/
def streamGoto (i va : Nat) (s : State) : State :=
  strmMod i (fun x => { x with
    state := .running, curVa := va % 2 ^ 48, nextOff := 0, fetched := false, waitTaken := false, curDesc := [], curTensor := none
    total := 0 }) s

/-- The COPY that a stream holds. -/
def Stream.copy (x : Stream) : Copy := parseCopy (leNat x.curDesc)

/-- A stream at the wait of its COPY goes on once its counter holds COUNT (R28, R290). -/
def wakeStream (i : Nat) (s : State) : State :=
  let x := strm s i
  if x.state ≠ .waiting ∨ x.fetched = false ∨ x.stopReq ≠ 0 ∨ (actx s x.ctx).revoked = true ∨ ¬ descKind x.curDesc = 1 then s
  else
    let k := x.copy
    let v := lget x.tokens k.waitCtr 0
    if v < k.waitCount then s
    else strmMod i (fun x => { x with
      state := .running, waitTaken := true, tokens := lset x.tokens k.waitCtr (v - k.waitCount) }) s

/-- COPY (R286 to R288, R290): the descriptor is fetched and checked; its wait is met or begins. A descriptor of an
undefined KIND halts here, and a failed fetch is noted here (R285, R293). -/
def copyState (i : Nat) (s : State) : State :=
  if !mayFetch s i then wakeStream i s
  else
    match fetchDesc i s with
    | (.error e, s') => streamFails i e s'
    | (.ok d, s') =>
      let kind := descKind d
      if kind = 2 ∨ kind = 3 ∨ kind = 4 then s
      else
        match streamPending i s' with
        | some s => s
        | none =>
          let x := strm s' i
          if kind ≠ 1 then streamHalt i 0x01 x.nextOff 0 0 s'
          else
            let k := parseCopy (leNat d)
            match checkCopy x k s' with
            | (.error (.inr e), s) => streamFails i e s
            | (.error (.inl r), s) => streamHalt i r x.nextOff 0 0 s
            | (.ok t, s) =>
              let s := strmMod i (fun x => { x with
                fetched := true, curDesc := d, curTensor := some t, total := k.bytes t
                state := if k.waitEn && !x.waitTaken then .waiting else .running }) s
              wakeStream i s

/-- Search the variant table of a stream (R289): the target, none, a reserved bit, or a failed read. -/
def variantTarget (v : Via) (va id : Nat) : Nat → State → Except (Nat ⊕ Fail) Nat × State
  | 0, s => (.error (.inl 0x22), s)
  | n + 1, s =>
    match virtRead v (va % 2 ^ 48) 16 s with
    | (.error e, s) => (.error (.inr e), s)
    | (.ok d, s) =>
      let e := leNat d
      if nfld e 7 0 ≠ id then variantTarget v (va + 16) id n s
      else if nfld e 63 8 ≠ 0 ∨ nfld e 127 112 ≠ 0 then (.error (.inl 0x02), s)
      else if nfld e 69 64 ≠ 0 then (.error (.inl 0x21), s)
      else (.ok (nfld e 111 64), s)

/-- DESC_VARJ (R289): the wait for the mailbox, and the jump. -/
def descVarjState (i : Nat) (s : State) : State :=
  if !mayFetch s i then s
  else
    match fetchDesc i s with
    | (.error _, _) => s
    | (.ok d, s') =>
      if descKind d ≠ 2 then s
      else
        match streamPending i s' with
        | some s => s
        | none =>
          let x := strm s' i
          if leNat d ≠ 2 then streamHalt i 0x02 0 0 0 s'
          else if !x.mboxFull then strmMod i (fun x => { x with state := .waiting }) s'
          else
            match variantTarget (viaStream s' i) (nfld x.vtab 47 0) x.mboxId (min 256 (nfld x.vtab 56 48)) s' with
            | (.error (.inr e), s) => streamFails i e s
            | (.error (.inl r), s) => streamHalt i r 0 0 0 (strmMod i (fun x => { x with mboxFull := false }) s)
            | (.ok va, s) => streamGoto i va (strmMod i (fun x => { x with mboxFull := false }) s)

/-- JUMP (R289): unconditional, or by the stream's loop counter. -/
def jumpState (i : Nat) (s : State) : State :=
  if !mayFetch s i then s
  else
    match fetchDesc i s with
    | (.error _, _) => s
    | (.ok d, s') =>
      if descKind d ≠ 3 then s
      else
        match streamPending i s' with
        | some s => s
        | none =>
          let x := strm s' i
          let v := leNat d
          let count := nfld v 63 32
          let target := nfld v 111 64
          if nfld v 31 4 ≠ 0 ∨ nfld v 511 112 ≠ 0 then streamHalt i 0x02 0 0 0 s'
          else if 2 ^ 25 ≤ count ∨ target % 64 ≠ 0 then streamHalt i 0x21 0 0 0 s'
          else if count = 0 then streamGoto i target s'
          else
            let lc := (if x.loopActive then x.loopCount else count) - 1
            if 0 < lc then streamGoto i target (strmMod i (fun x => { x with loopActive := true, loopCount := lc }) s')
            else streamGoto i (x.curVa + 64) (strmMod i (fun x => { x with loopActive := false, loopCount := 0 }) s')

/-- DESC_END (R289): the stream is DONE. -/
def descEndState (i : Nat) (s : State) : State :=
  if !mayFetch s i then s
  else
    match fetchDesc i s with
    | (.error _, _) => s
    | (.ok d, s') =>
      if descKind d ≠ 4 then s
      else
        match streamPending i s' with
        | some s => s
        | none =>
          if leNat d ≠ 4 then streamHalt i 0x02 0 0 0 s'
          else
            let s := strmMod i (fun x => { x with state := .done }) s'
            if (strm s i).irqDone then setIrq (pgMov (moverOf i)) 0x40000 s else s

/-! ### Chunks -/

/-- Index (j0, …, j4) of the element at position p of the walk, dimension 0 fastest. -/
def boxIndex : List Nat → Nat → List Nat
  | [], _ => []
  | e :: es, p => p % max 1 e :: boxIndex es (p / max 1 e)

/-- Runs along dimension 0 of positions p to q - 1: first position and length. -/
def boxRuns (e0 : Nat) : Nat → Nat → Nat → List (Nat × Nat)
  | 0, _, _ => []
  | fuel + 1, p, q =>
    if q ≤ p then []
    else
      let n := min (q - p) (e0 - p % e0)
      (p, n) :: boxRuns e0 fuel (p + n) q

/-- The runs of the chunk at box byte offset `off`: its elements are those whose first bit lies in the chunk. -/
def chunkRuns (k : Copy) (t : Tensor) (off : Nat) : List (Nat × Nat) :=
  let b := k.bits t
  let p := ceilDiv (off * 8) b
  let q := min k.count (ceilDiv ((off + 4096) * 8) b)
  boxRuns (max 1 (lget k.ext 0 1)) (q - p) p q

/-- Bytes that `n` bits from bit address `a` touch: first byte and count. -/
def bitSpan (a n : Nat) : Nat × Nat := (a / 8, (a % 8 + n + 7) / 8)

/-- Bytes with the `n` bits from bit `a % 8` replaced. -/
def mergeBits (old : List Byte) (a n v : Nat) : List Byte := leBytes old.length (nset (leNat old) (a % 8 + n - 1) (a % 8) v)

/-- The `n` bits from bit `a % 8` of bytes. -/
def takeBits (d : List Byte) (a n : Nat) : Nat := (leNat d >>> (a % 8)) % 2 ^ n

/-- The pieces of a run on the CMEM side: bit address, bits, shift within the run. -/
def runPlaces (k : Copy) (t : Tensor) (p n : Nat) : List (Nat × Nat × Nat) :=
  let b := k.bits t
  if k.transpose then (List.range n).map (fun x => (k.cmemBit t (boxIndex k.ext (p + x)), b, x * b))
  else [(k.cmemBit t (boxIndex k.ext p), n * b, 0)]

/-- The CMEM interval of a chunk (R179): the bounding interval of its bytes. -/
def chunkSpan (k : Copy) (t : Tensor) (off : Nat) : Nat × Nat :=
  ((chunkRuns k t off).flatMap (fun (p, n) => runPlaces k t p n)).foldl (fun (lo, hi) (a, w, _) =>
    (min lo (a / 8), max hi (a / 8 + (bitSpan a w).2))) (cmemTop, 0)

/-- How a chunk's accesses end. -/
inductive ChunkEnd where
  | ok
  | memory (e : Fail)
  | cmem (reason : Nat)
deriving DecidableEq, Repr

/-- Write pieces of a run into one cluster's CMEM; a refused write halts the stream (R297). -/
def putPlaces (n : Nat) (secure : Bool) (v : Nat) : List (Nat × Nat × Nat) → State → Option Nat × State
  | [], s => (none, s)
  | (a, w, sh) :: r, s =>
    let (o, len) := bitSpan a w
    let d := mergeBits (cmemGetRaw s n o len) a w (v >>> sh)
    match physWrite .onDie secure (0x0100_0000_0000 + n * 0x40_0000 + o) d s with
    | (.error e, s) => (some (causeReason e.cause), s)
    | (.ok _, s) => putPlaces n secure v r s

/-- Write a run into every target cluster. -/
def putClusters (secure : Bool) (v : Nat) (pl : List (Nat × Nat × Nat)) : List Nat → State → Option Nat × State
  | [], s => (none, s)
  | n :: ns, s =>
    match putPlaces n secure v pl s with
    | (some r, s) => (some r, s)
    | (none, s) => putClusters secure v pl ns s

/-- Read pieces of a run from a cluster's CMEM into one number. -/
def getPlaces (n : Nat) (secure : Bool) : List (Nat × Nat × Nat) → Nat → State → Except Fail Nat × State
  | [], v, s => (.ok v, s)
  | (a, w, sh) :: r, v, s =>
    let (o, len) := bitSpan a w
    match physRead .onDie secure (0x0100_0000_0000 + n * 0x40_0000 + o) len s with
    | (.error e, s) => (.error { e with va := 0 }, s)
    | (.ok d, s) => getPlaces n secure r (v + takeBits d a w <<< sh) s

/-- Move the runs of a chunk, memory to CMEM (R287). -/
def moveIn (via : Via) (k : Copy) (t : Tensor) (ns : List Nat) : List (Nat × Nat) → State → ChunkEnd × State
  | [], s => (.ok, s)
  | (p, n) :: r, s =>
    let a := k.memBit t (boxIndex k.ext p)
    let w := n * k.bits t
    let (o, len) := bitSpan a w
    match virtRead via o len s with
    | (.error e, s) => (.memory e, s)
    | (.ok d, s) =>
      match putClusters via.secure (takeBits d a w) (runPlaces k t p n) ns s with
      | (some reason, s) => (.cmem reason, s)
      | (none, s) => moveIn via k t ns r s

/-- Move the runs of a chunk, CMEM to memory. A run that begins or ends inside a byte keeps the byte's other bits. -/
def moveOut (via : Via) (k : Copy) (t : Tensor) (n0 : Nat) : List (Nat × Nat) → State → ChunkEnd × State
  | [], s => (.ok, s)
  | (p, n) :: r, s =>
    let a := k.memBit t (boxIndex k.ext p)
    let w := n * k.bits t
    let (o, len) := bitSpan a w
    match getPlaces n0 via.secure (runPlaces k t p n) 0 s with
    | (.error e, s) => (.memory e, s)
    | (.ok v, s) =>
      let (old, s) : Except Fail (List Byte) × State :=
        if a % 8 = 0 ∧ w % 8 = 0 then (.ok (List.replicate len 0), s) else virtReadToWrite via o len s
      match old with
      | .error e => (.memory e, s)
      | .ok old =>
        match virtWrite via o (mergeBits old a w v) s with
        | (.error e, s) => (.memory e, s)
        | (.ok _, s) => moveOut via k t n0 r s

/-- Target clusters of a COPY. -/
def Copy.clusters (k : Copy) : List Nat := scopeClusters k.scope k.target

/-- The answer of the Guards of every target cluster: the first conflict, or some pool full, or all clear (R180, R181). -/
def guardAll (cmd : Nat) (r : GRange) (s : State) : List Nat → Option (Nat × GAnswer)
  | [] => none
  | n :: ns =>
    match guardJudgeAs s n 0xB cmd [r] with
    | .enter => guardAll cmd r s ns
    | .full => (match guardAll cmd r s ns with
      | some (m, .slip b x y) => some (m, .slip b x y)
      | _ => some (n, .full))
    | .slip b x y => some (n, .slip b x y)

/-- A stream that has a chunk to issue. -/
def hasChunk (x : Stream) : Bool :=
  x.state == .running && x.fetched && x.failing.isNone && x.stopReq == 0 && decide (x.nextOff < x.total) && x.curTensor.isSome

/-- The Guard range of a stream's next chunk with its command number. -/
def nextRange (i : Nat) (x : Stream) (t : Tensor) : Nat × GRange :=
  let k := x.copy
  let (lo, hi) := chunkSpan k t x.nextOff
  (chunkCmd i x.nextOff, ⟨!k.dir, lo, hi⟩)

/-- Streams of a Mover in round-robin order, after the one last served (R291). -/
def robin (s : State) (m : Nat) : List Nat :=
  let l := ((moverStreams s m).filter (fun e => hasChunk e.2 && !(actx s e.2.ctx).revoked)).map (·.1)
  let last := tget s.moverNext (256 * m + 255) m
  l.filter (fun i => last < i) ++ l.filter (fun i => i ≤ last)

/-- The stream whose next chunk issues: the first in round-robin order whose chunk no full pool holds back (R181). -/
def pickStream (s : State) (m : Nat) : Option Nat :=
  (robin s m).find? (fun i =>
    let x := strm s i
    match x.curTensor with
    | none => false
    | some t =>
      let (cmd, r) := nextRange i x t
      match guardAll cmd r s x.copy.clusters with
      | some (_, .full) => false
      | _ => true)

/-- CHUNK_ISSUE (R291): the next chunk of a RUNNING stream of Mover m, round-robin; its CMEM range enters the Guard. -/
def chunkIssueState (m : Nat) (s : State) : State :=
  if !moverRuns s m || !xlatOn s || decide (32 ≤ moverChunks s m) then s
  else
    let s := ((robin s m).flatMap (fun i => (strm s i).copy.clusters)).foldl (fun s n => wavesAt n s) s
    match pickStream s m with
    | none => s
    | some i =>
      let x := strm s i
      match x.curTensor with
      | none => s
      | some t =>
        let (cmd, r) := nextRange i x t
        let ns := x.copy.clusters
        let s := { s with moverNext := tput s.moverNext m i }
        match guardAll cmd r s ns with
        | some (_, .slip _ _ _) =>
          let s := ns.foldl (fun s n => latchChunk n 0xB cmd r s) s
          if x.chunks.isEmpty then streamHalt i 0x04 x.nextOff 0 0 s
          else strmMod i (fun x => { x with failing := some ⟨i, x.nextOff, cmd, none, some 0x04, []⟩ }) s
        | _ =>
          let s := ns.foldl (fun s n => guardEnterAs n 0xB (masterId 2 (moverOf i)) cmd [r] none s) s
          strmMod i (fun x => { x with
            chunks := x.chunks ++ [⟨i, x.nextOff, cmd, none, none, ns⟩], nextOff := x.nextOff + 4096 }) s

/-- The lower of two failing chunks (R293). -/
def lowerFail (a : Option Chunk) (b : Chunk) : Option Chunk :=
  match a with
  | some x => if b.off < x.off then some b else some x
  | none => some b

/-- A stream whose recorded failure is a halt halts once no chunk is in flight (R297). -/
def haltWhenQuiet (i : Nat) (s : State) : State :=
  let x := strm s i
  match x.failing with
  | some ch =>
    (match ch.cmemFail with
     | some r => if x.chunks.isEmpty && x.active && x.stopReq != 2 then streamHalt i r ch.off 0 0 s else s
     | none => s)
  | none => s

/-- The COPY of a stream is complete: its signal is sent once and the next descriptor follows (R26, R291). -/
def copyDone (i : Nat) (s : State) : State :=
  let x := strm s i
  if x.failing.isSome || !x.chunks.isEmpty || decide (x.nextOff < x.total) then s
  else
    let k := x.copy
    let g := k.sig
    let s := if k.sigEn then
        (signalsOf (nfld g 1 0) (nfld g 3 2) (nfld g 17 4) (nfld g 25 18) (nfld g 33 26) x.ctx (masterId 2 (moverOf i))).foldl
          (fun s y => sendSignal y s) s
      else s
    streamGoto i (x.curVa + 64) s

/-- CHUNK_COMPLETE (R287, R291): the accesses of the chunk at `off` take effect and its Guard entries leave. -/
def chunkCompleteState (i off : Nat) (s : State) : State :=
  let x := strm s i
  match x.chunks.find? (fun ch => ch.off == off), x.curTensor with
  | some ch, some t =>
    if !xlatOn s then s
    else
      let k := x.copy
      let via := viaStream s i
      let (r, s) := if k.dir then moveOut via k t k.target (chunkRuns k t off) s
        else moveIn via k t ch.clusters (chunkRuns k t off) s
      let s := ch.clusters.foldl (fun s n => guardLeave n ch.cmd s.clk.eclk s) s
      let s := strmMod i (fun x => { x with chunks := x.chunks.filter (fun y => y.off != off) }) s
      match r with
      | .ok =>
        let p := pgMov (moverOf i)
        let n := min 4096 (x.total - off)
        haltWhenQuiet i (copyDone i (tally p 0x0101 n (moverAttrs s i) (tally p 0x0100 1 (moverAttrs s i) s)))
      | .memory e =>
        haltWhenQuiet i (strmMod i (fun x => { x with failing := lowerFail x.failing { ch with fail := some (failOf e) } }) s)
      | .cmem reason =>
        haltWhenQuiet i (strmMod i (fun x => { x with failing := lowerFail x.failing { ch with cmemFail := some reason } }) s)
  | _, _ => s

/-! ### Commands -/

/-- Run a stream from a position (R284, R296). -/
def streamRun (va off : Nat) (x : Stream) : Stream :=
  { x with state := .running, curVa := va % 2 ^ 48, nextOff := off, fetched := false, failing := none, stopReq := 0
           curDesc := [], curTensor := none, total := 0 }

/-- A stream command that has no effect (R284). -/
def streamIgnored (m : Nat) (s : State) : State := recordError (pgMov m) 0x24 0 0 s

/-- START of stream i (R284). -/
def streamStartAt (i : Nat) (s : State) : State :=
  let m := moverOf i
  let x := strm s i
  if !moverRuns s m || !x.atRest then streamIgnored m s
  else
    strmMod i (fun x => { streamRun x.chainVa 0 x with
      seq := 0, loopActive := false, loopCount := 0, mboxId := 0, mboxFull := false, fault := 0
      secure := ctxSecure s x.ctx, waitTaken := false }) s

/-- MOV_SCMD START (R284). -/
def streamStart (m : Nat) (s : State) : State := streamStartAt (selStream s m) s

/-- MOV_SCMD RESUME (R284): from IDLE at the recorded position, or from SUSPENDED. -/
def streamResume (m : Nat) (s : State) : State :=
  let i := selStream s m
  let x := strm s i
  if !moverRuns s m then streamIgnored m s
  else
    match x.state with
    | .suspended => strmMod i (fun x => streamRun x.descVa x.byteOff x) s
    | .idle =>
      if x.descVa = 0 then streamIgnored m s
      else strmMod i (fun x => { streamRun x.descVa x.byteOff x with
        loopActive := false, loopCount := 0, mboxId := 0, mboxFull := false, waitTaken := x.byteOff != 0 }) s
    | _ => streamIgnored m s

/-- A stream becomes IDLE; its recorded position and tokens are kept (R299), and so is a counter's halt that waits for its next
descriptor (R29, R290). -/
def streamToIdle (i : Nat) (s : State) : State :=
  strmMod i (fun x => { x with
    state := .idle, fetched := false, failing := none, stopReq := 0, waitTaken := false, curDesc := [], curTensor := none
    total := 0 }) s

/-- ABORT of one stream (R284, R299): IDLE at once, or once its issued chunks complete. -/
def streamAbort (i : Nat) (s : State) : State :=
  if (strm s i).chunks.isEmpty then streamToIdle i s else strmMod i (fun x => { x with stopReq := 2 }) s

/-- MOV_SCMD ABORT (R284). -/
def streamAbortCmd (m : Nat) (s : State) : State :=
  let i := selStream s m
  if !moverRuns s m || (strm s i).state == .idle then streamIgnored m s else streamAbort i s

/-- A write to MOV_SCMD (R301). -/
def movScmd (m v : Nat) (s : State) : State :=
  match v % 8 with
  | 1 => streamStart m s
  | 2 => streamResume m s
  | 3 => streamAbortCmd m s
  | _ => streamIgnored m s

/-- STREAM_IDLE (R299). -/
def streamIdleState (i : Nat) (s : State) : State :=
  let x := strm s i
  if x.stopReq = 2 ∧ x.chunks.isEmpty then streamToIdle i s else s

/-- STREAM_PREEMPTED (R298): a WAITING stream records its descriptor at offset 0, a RUNNING one the lowest offset whose chunk
has not completed. -/
def streamPreemptedState (i : Nat) (s : State) : State :=
  let x := strm s i
  if x.stopReq = 1 ∧ x.chunks.isEmpty ∧ x.failing.isNone ∧ x.active = true then
    strmMod i (fun x =>
      { x with
        state := .preempted, stopReq := 0, descVa := x.curVa
        byteOff := if x.state == .waiting then 0 else x.nextOff
        nextOff := if x.state == .waiting then 0 else x.nextOff
        fetched := false }) s
  else s

/-- MOVER_WAIT_TIMEOUT (R30, R290): a wait outlasts WAIT_TIMEOUT. -/
def moverTimeoutState (i : Nat) (s : State) : State :=
  let x := strm s i
  let lim := rf s ((pgMov (moverOf i)).base + Reg.MOV_CONFIG) 31 16
  if x.state ≠ .waiting ∨ lim = 0 ∨ x.stopReq ≠ 0 ∨ (actx s x.ctx).revoked = true then s
  else if x.fetched then
    let k := x.copy
    let v := lget x.tokens k.waitCtr 0
    if k.waitCount ≤ v then s else streamHalt i 0x0B x.nextOff k.waitCtr v s
  else if x.mboxFull then s
  else streamHalt i 0x0B 0 0 0 s

/-- A Mover that fails when every spare is used up is retired (R406). -/
def moverRetire (m : Nat) (s : State) : State :=
  let s := retirePage (pgMov m) { s with moverDead := s.moverDead ++ [m] }
  colourChange 4 m 1 4 0x0B14 (spareExhausted 4 m s)

/-- MOVER_REASSIGN (R282): the Health Manager moves a logical Mover to another physical Mover between two chunks. Refused
while a chunk is in flight or the target serves another Mover or has failed; with no spare left the logical Mover is retired
(R406). -/
def moverReassignState (m phys : Nat) (s : State) : State :=
  let used := (List.range 64).any (fun j => j != m && tget s.movers j j == phys)
  if 0 < moverChunks s m then s
  else
    let old := tget s.movers m m
    let busy (q : Nat) : Bool := s.badMovers.contains q || (List.range 64).any (fun j => tget s.movers j j == q)
    if used ∨ s.badMovers.contains phys = true ∨ phys = old then
      (if (List.range 72).all busy && !s.moverDead.contains m then moverRetire m s else s)
    else
      let s := { s with movers := tput s.movers m phys, badMovers := s.badMovers ++ [old] }
      colourChange 4 m (if old = m then 0 else 1) 1 0x0B03
        (mapsMod (fun x => { x with moverMap := s.movers, badMovers := s.badMovers }) s)

/-! ### What ACON asks of a context's streams -/

/-- The context enters PREEMPTED (R298). -/
def moversPreempt (c : Nat) (s : State) : State :=
  (ctxStreams s c).foldl (fun s i =>
    if (strm s i).active && (strm s i).stopReq == 0 then strmMod i (fun x => { x with stopReq := 1 }) s else s) s

/-- The context receives RESUME: HALTED and PREEMPTED streams continue (R297, R298). -/
def moversResume (c : Nat) (s : State) : State :=
  (ctxStreams s c).foldl (fun s i =>
    let x := strm s i
    if x.state = .halted ∨ x.state = .preempted then strmMod i (fun x => streamRun x.descVa x.byteOff x) s
    else if x.stopReq = 1 then strmMod i (fun x => { x with stopReq := 0 }) s
    else s) s

/-- The context receives ABORT (R299). -/
def moversAbort (c : Nat) (s : State) : State := (ctxStreams s c).foldl (fun s i => streamAbort i s) s

/-- VSEL writes the mailbox of every stream of the context that is not IDLE or DONE (R289). -/
def moversVsel (c v : Nat) (s : State) : State :=
  (ctxStreams s c).foldl (fun s i =>
    let x := strm s i
    if x.atRest then s
    else if x.mboxFull then strmMod i (fun x => { x with nextError := some 0x0A }) s
    else strmMod i (fun x => { x with mboxId := v % 256, mboxFull := true }) s) s

/-- A token signal reaches a stream (R25, R29, R290). -/
def streamToken (i g incr : Nat) (s : State) : State :=
  if 3 < g then strmMod i (fun x => { x with nextError := some 0x23 }) s
  else
    let v := lget (strm s i).tokens g 0 + incr
    let s := strmMod i (fun x => { x with
      tokens := lset x.tokens g (min v 65535)
      nextError := if 65535 < v then some 0x0A else x.nextError }) s
    wakeStream i s

/-- At OFF every stream of the Mover is IDLE, its tokens, loop counter and mailbox reset (R299). -/
def moverOff (m : Nat) (s : State) : State :=
  ((moverStreams s m).map (·.1)).foldl (fun s i => strmMod i (fun x =>
    { x with state := .idle, tokens := [0, 0, 0, 0], loopActive := false, loopCount := 0, mboxId := 0, mboxFull := false
             fetched := false, failing := none, stopReq := 0, waitTaken := false, curDesc := [], curTensor := none
             total := 0, nextError := none, chunks := [] }) s) s

end Sys2Proof.Machine
end

