-- ==== Sys2Proof/Machine/Acon.lean ====
section
/-! DEFINITION. The Array Conductor: headers (R122, R123), commands and states (R124), the array's holder (R125), the load
of a window (R126 to R128, R137 to R139), its start (R129 to R134), control instructions (R136, R140 to R142), its end
(R131), replay (R151), context switches (R146, R147), ABORT (R153) and completions (R377). -/

namespace Sys2Proof.Machine

/-! ### Fetching -/

/-- A halt reason with its INFO for a failed access of ACON (R150, LOC 1): the VA, or the PA of a physical access. -/
def accessHalt (e : Fail) (physical : Bool) : Nat × Nat × Nat :=
  let a := if physical then e.pa else e.va % 2 ^ 48
  (causeReason e.cause, a % 2 ^ 32, a / 2 ^ 32 % 2 ^ 16 + 1 <<< 30)

/-- Read instruction i of context c. -/
def readInstr (c i : Nat) (s : State) : Except (Nat × Nat × Nat) Slot × State :=
  match virtRead (viaCtx s c) (instrVa s c i) 16 s with
  | (.error e, s) => (.error (accessHalt e false), s)
  | (.ok d, s) => (.ok (BitVec.ofNat 128 (leNat d)), s)

/-- OPCODE of an instruction. -/
def opOf (w : Slot) : Nat := fld w 127 120

/-- Timed instructions (R126). -/
def isTimed (op : Nat) : Bool := [2, 3, 4, 5, 6, 7, 0x0C, 0x0D].contains op
/-- Control instructions (R126). -/
def isControl (op : Nat) : Bool := [1, 8, 9, 0x0A, 0x0B, 0x0F].contains op

/-! ### Header (R122, R123) -/

/-- GEOMETRY_MISMATCH of check 3 with its INFO: the program's masks and sizes against the array's. -/
def geometryBad (s : State) (m n rows cols : Nat) : Option (Nat × Nat × Nat) :=
  if m = geomM s ∧ n = geomN s ∧ rows = rf s (pgAcon.base + Reg.ACON_ROW_BANDS) 31 0 ∧
      cols = rf s (pgAcon.base + Reg.ACON_COL_BANDS) 31 0 then none
  else some (0x0C, m % 1024 + (n % 1024) <<< 16, geomM s + geomN s <<< 16)

/-- PROG_VA. -/
def progVa (s : State) (c : Nat) : Nat := reg64 s (acReg c Reg.ACON_CTX_PROG_VA) % 2 ^ 48

/-- Check 3 of R123 repeated for a running program: the header is read again (DESIGN CHOICE, log entry 95). -/
def geometryAgain (c : Nat) (s : State) : Option (Nat × Nat × Nat) × State :=
  match virtRead (viaCtx s c) (progVa s c) 64 s with
  | (.error e, s) => (some (accessHalt e false), s)
  | (.ok d, s) =>
    let v := leNat d
    (geometryBad s (nfld v 79 64) (nfld v 95 80) (nfld v 127 96) (nfld v 159 128), s)

/-- A variant entry (R141): MAX_LEN, ENTRY, VARIANT_ID, reserved bytes clear. -/
def parseVariants : Nat → List Byte → List (Nat × Nat × Nat × Bool)
  | 0, _ => []
  | k + 1, d =>
    let v := leNat (d.take 16)
    (nfld v 31 0, nfld v 63 32, nfld v 71 64, nfld v 127 72 == 0) :: parseVariants k (d.drop 16)

/-- MAX_LEN strictly increases. -/
def increasing : List Nat → Bool
  | a :: b :: r => decide (a < b) && increasing (b :: r)
  | _ => true

/-- Read the variant table of a context. -/
def readVariants (c off count : Nat) (s : State) : Except Fail (List (Nat × Nat × Nat × Bool)) × State :=
  match virtRead (viaCtx s c) ((progVa s c + off) % 2 ^ 48) (16 * count) s with
  | (.error e, s) => (.error e, s)
  | (.ok d, s) => (.ok (parseVariants count d), s)

/-- What a header that passes gives: INSTR_COUNT, VTAB_COUNT, VTAB_OFFSET and ENTRY. -/
structure Header where
  count   : Nat
  vtabCount : Nat
  vtabOff : Nat
  entry   : Nat
deriving DecidableEq, Repr

/-- The checks of R123, the first failure reported. -/
def checkHeader (c : Nat) (s : State) : Except (Nat × Nat × Nat) Header × State :=
  match virtRead (viaCtx s c) (progVa s c) 64 s with
  | (.error e, s) => (.error (accessHalt e false), s)
  | (.ok d, s) =>
    let v := leNat d
    let count := nfld v 63 32
    let voff := nfld v 191 160
    let vcnt := nfld v 207 192
    let entry := nfld v 255 224
    if nfld v 31 16 ≠ 0 ∨ nfld v 223 208 ≠ 0 ∨ nfld v 511 256 ≠ 0 then (.error (0x02, 0, 0), s)
    else if nfld v 15 0 ≠ 1 ∨ count = 0 ∨ 2 ^ 24 < count ∨ count ≤ entry ∨ 256 < vcnt ∨ voff % 16 ≠ 0 ∨
        (vcnt ≠ 0 ∧ voff = 0) then (.error (0x27, 0, 0), s)
    else
      match geometryBad s (nfld v 79 64) (nfld v 95 80) (nfld v 127 96) (nfld v 159 128) with
      | some h => (.error h, s)
      | none =>
        if vcnt = 0 then (.ok ⟨count, 0, 0, entry⟩, s)
        else
          match readVariants c voff vcnt s with
          | (.error e, s) => (.error (accessHalt e false), s)
          | (.ok vt, s) =>
            if !increasing (vt.map (·.1)) || vt.any (fun e => decide (count ≤ e.2.1) || !e.2.2.2) then
              (.error (0x23, 0, 0), s)
            else (.ok ⟨count, vcnt, voff, entry⟩, s)

/-! ### Commands (R124) -/

/-- A command that has no effect on its context. -/
def aconIgnored (s : State) : State := recordError pgAcon 0x28 0 0 s

/-- STATUS register of context c. -/
def statusReg (c : Nat) : Nat := acReg c Reg.ACON_CTX_STATUS

/-- Run the checks of R123 and make the context READY, or HALTED with HALT_PC = PROG_VA. A context that passes sends
its start notice (R168). The bank records of an earlier program do not outlive START (DESIGN CHOICE, log entry 91). -/
def loadProgram (c : Nat) (s : State) : State :=
  match checkHeader c s with
  | (.error (r, i0, i1), s) =>
    haltCtx c (progVa s c) r i0 i1 .header
      (actxMod c (fun a => { AconCtx.fresh with movers := a.movers, overrun := a.overrun }) s)
  | (.ok h, s) =>
    let s := actxMod c (fun a =>
      { AconCtx.fresh with
        pc := h.entry, instrCount := h.count, vtabCount := h.vtabCount, vtabOff := h.vtabOff
        movers := a.movers, overrun := a.overrun, notice := true }) s
    acStateSet c stReady (rfSet (statusReg c) 9 8 0 (rfSet (statusReg c) 7 4 0 s))

/-- START. Its reads wait while XLAT is not ON (R274). -/
def aconStart (c : Nat) (s : State) : State :=
  if !isOn s pgAcon || acState s c != stIdle then aconIgnored s
  else if xlatOn s then loadProgram c s
  else actxMod c (fun a => { a with due := true }) s

/-- How a failed CMEM side of a context switch's copy halts: R152's CMEM offset form, or the RPT's refusal (R270, R277). -/
def copyHalt (n : Nat) (write : Bool) (e : Fail) : Nat × Nat × Nat :=
  if e.cause = 0x9 then accessHalt e false
  else (causeReason e.cause, e.pa % 0x40_0000 / 8 * 8 + b2n write * 2 ^ 31, 2 <<< 30 + n <<< 16)

/-- Copy a list of CMEM images to memory; the first failure ends the copy. The RPT checks both sides (R270, R277). -/
def copyOut (via : Via) (secure : Bool) : List (Nat × Nat) → Nat → State → Option (Nat × Nat × Nat) × State
  | [], _, s => (none, s)
  | (n, off) :: r, va, s =>
    match physRead .onDie secure (cmemPa n off) 41024 s with
    | (.error e, s) => (some (copyHalt n false e), s)
    | (.ok d, s) =>
      match virtWrite via (va % 2 ^ 48) d s with
      | (.error e, s) => (some (accessHalt e false), s)
      | (.ok _, s) => copyOut via secure r (va + 41024) s

/-- Copy images from memory back into CMEM. -/
def copyIn (via : Via) (secure : Bool) : List (Nat × Nat) → Nat → State → Option (Nat × Nat × Nat) × State
  | [], _, s => (none, s)
  | (n, off) :: r, va, s =>
    match virtRead via (va % 2 ^ 48) 41024 s with
    | (.error e, s) => (some (accessHalt e false), s)
    | (.ok d, s) =>
      match physWrite .onDie secure (cmemPa n off) d s with
      | (.error e, s) => (some (copyHalt n true e), s)
      | (.ok _, s) => copyIn via secure r (va + 41024) s

/-- CMEM offset of the replay image of physical bank p (R133). -/
def replayOff (s : State) (c p : Nat) : Nat := rf s (acReg c Reg.ACON_CTX_REPLAY) 21 12 * 4096 + 41024 * p

/-- The images of the saved banks: physical bank 0 first, each in cluster-number order (R146). -/
def savedImages (s : State) (c : Nat) (banks : BitVec 2) : List (Nat × Nat) :=
  ((List.range 2).filter (fun p => bit banks p)).flatMap (fun p =>
    (arrayClusters s).map (fun e => (e.2.2, replayOff s c p)))

/-- SAVE_VA. -/
def saveVa (s : State) (c : Nat) : Nat := reg64 s (acReg c Reg.ACON_CTX_SAVE_VA) % 2 ^ 48

/-- The state record of R146. -/
def stateRecord (s : State) (c : Nat) : List Byte :=
  let a := actx s c
  let st := regGet s (statusReg c)
  leBytes 8 a.pc ++
  leBytes 1 (b2n a.swap + a.savedBanks.toNat <<< 1 + fld st 9 9 <<< 3 + auditMode s c <<< 4) ++
  leBytes 1 (fld st 23 16) ++
  leBytes 2 ((a.active.zipIdx).foldl (fun v e => v + b2n e.1 <<< e.2) 0) ++
  (List.range 4).flatMap (fun i => leBytes 4 (lget a.lc i 0)) ++
  recBytes a.rec0 ++ recBytes a.rec1 ++
  leBytes 64 0 ++ leBytes 36 0

/-- Step 3 of R146, in rising address from SAVE_VA, and step 4: READY, or PREEMPTED when a PREEMPT waits. -/
def switchCopy (c : Nat) (s : State) : State :=
  let via := viaCtx s c
  let va := saveVa s c
  let a := actx s c
  let halt (h : Nat × Nat × Nat) (s : State) : State := haltCtx c (instrVa s c a.pc) h.1 h.2.1 h.2.2 .switchCopy s
  match virtWrite via va (stateRecord s c) s with
  | (.error e, s) => halt (accessHalt e false) s
  | (.ok _, s) =>
    match copyOut via (ctxSecure s c) (savedImages s c a.savedBanks) (va + 0x100) s with
    | (some h, s) => halt h s
    | (none, s) =>
      let s := rfSet (statusReg c) 8 8 1 (leaveArray c s)
      if a.preemptReq then
        moversPreempt c (acStateSet c stPreempted (actxMod c (fun a => { a with preemptReq := false, haltKind := .none }) s))
      else acStateSet c stReady (actxMod c (fun a => { a with haltKind := .none }) s)

/-- RESUME of ACON's own part (R124, R151): what it does depends on the halt. -/
def resumeHalted (c : Nat) (s : State) : State :=
  let a := actx s c
  match a.haltKind with
  | .header => if xlatOn s then loadProgram c s else actxMod c (fun a => { a with due := true }) s
  | .load => acStateSet c stReady (actxMod c (fun a =>
      { a with win := none, haltKind := .none, pc := (a.win.map (·.winIndex)).getD a.pc }) s)
  | .switchCopy => if xlatOn s then switchCopy c s else actxMod c (fun a => { a with due := true }) s
  | .control | .agent | .none | .resumeCopy =>
    acStateSet c stReady (actxMod c (fun a => { a with haltKind := .none }) s)
  | .window => acStateSet c stReady s
  | .late => acStateSet c stReady (actxMod c (fun a => { a with haltKind := if a.win.isSome then .late else .none }) s)

/-- XLAT reaches ON: the START and RESUMEs that waited for it go on (R274). -/
def aconDue (s : State) : State :=
  (List.range 8).foldl (fun s c =>
    if !(actx s c).due then s
    else
      let s := actxMod c (fun a => { a with due := false }) s
      if acState s c = stIdle then loadProgram c s else if acState s c = stHalted then resumeHalted c s else s) s

/-- RESUME. The context's CSEQs and streams continue with it (R177, R297, R298), so that a halt of one of them which ACON has not
acted on is over; a rollback's is not (R347). -/
def aconResume (c : Nat) (s : State) : State :=
  let st := acState s c
  if !isOn s pgAcon || !(st == stHalted || st == stPreempted) || (actx s c).abortReq then aconIgnored s
  else
    let s := if st = stPreempted then acStateSet c stReady s else resumeHalted c s
    let s := actxMod c (fun a => { a with
      revoked := false, agentHalt := a.agentHalt && lget a.agentRec 0 0 == 0x0703 }) s
    moversResume c (cseqResume c s)

/-- The COMPLETION of a context (R377). -/
def postCompletion (c kind : Nat) (s : State) : State :=
  postQueue c 0x81 kind (leBytes 4 kind ++ leBytes 4 (ctxEpoch s c) ++ leBytes 8 (pageCycle s pgAcon) ++ leBytes 16 0) s

/-- The end of an ABORT (R153): the context's banks, held signals and saved state are discarded. -/
def finishAbort (c : Nat) (s : State) : State :=
  let s := if running s = some c then
      bankPut 1 { bankOf s 1 with accs := [], checkRow := [], checkCol := [] }
        (bankPut 0 { bankOf s 0 with accs := [], checkRow := [], checkCol := [] } s)
    else s
  let s := actxMod c (fun a => { AconCtx.fresh with movers := a.movers, overrun := a.overrun }) (leaveArray c s)
  let s := acStateSet c stIdle (rfSet (statusReg c) 9 4 0 s)
  postCompletion c 1 s

/-- ABORT (R153): nothing more issues; the context is IDLE once its waves and readers are. Its CSEQs and Mover streams
stop with it (R177, R299). -/
def aconAbort (c : Nat) (s : State) : State :=
  if !isOn s pgAcon || acState s c == stIdle then aconIgnored s
  else
    let s := (s.clusters.map (·.1)).foldl (fun s n => cseqAbort n c s) s
    let s := moversAbort c s
    let s := actxMod c (fun a => { a with
      win := none, ended := [], due := false, abortReq := true, preemptReq := false, agentHalt := false, notice := false }) s
    if ctxBusy s c then s else finishAbort c s

/-- ABORT_DONE (R153). -/
def abortDoneState (c : Nat) (s : State) : State :=
  if (actx s c).abortReq && !ctxBusy s c then finishAbort c s else s

/-- PREEMPT. -/
def aconPreempt (c : Nat) (s : State) : State :=
  let st := acState s c
  if !isOn s pgAcon || (actx s c).abortReq then aconIgnored s
  else if st = stReady then moversPreempt c (acStateSet c stPreempted s)
  else if st = stRunning then actxMod c (fun a => { a with preemptReq := true }) s
  else aconIgnored s

/-- A write to ACON_CTXc_CMD (R124). -/
def aconCmd (c v : Nat) (s : State) : State :=
  match v % 256 with
  | 1 => aconStart c s
  | 2 => aconResume c s
  | 3 => aconAbort c s
  | 4 => aconPreempt c s
  | _ => aconIgnored s

/-! ### Replay (R151) -/

/-- Add the gate tokens that a window's start took back to their counters (R31). -/
def returnTokens (c : Nat) (w : Window) (s : State) : State :=
  if w.tokensTaken then
    (bitsOf 32 w.gateMask.toNat).foldl (fun s g => gateCtrSet c g (min 65535 (gateCtr s c g + w.gateCount)) s) s
  else s

/-- Begin the replay of context c's halted window: tokens, SWAP_STATE, loop counters and bank records as at its start,
the prologue as restores, issue from cycle 0. A replay by RESUME sets REPLAYS to 0 and is not counted. -/
def beginReplay (c : Nat) (byResume : Bool) (s : State) : State :=
  match (actx s c).win with
  | none => s
  | some w =>
    let s := returnTokens c w s
    let st := w.startState
    let replays := if byResume then 0 else w.replays + 1
    let s := rfSet (statusReg c) 7 4 (min 15 replays) s
    let s := { s with winSerial := s.winSerial + 1 }
    let s := actxMod c (fun a =>
      { a with
        swap := st.swap, lc := st.lc, active := st.active, rec0 := st.rec0, rec1 := st.rec1, drainSeq := st.drainSeq
        haltKind := .none
        win := some { w with
          serial := s.winSerial, phase := .loaded, restores := true, second := false, instrs := w.all, held := []
          zeroed0 := false, zeroed1 := false, drains := 0, tokensTaken := false, endAclk := s.clk.aclk
          replays := replays, begun := false, after := [] } }) s
    emitBare pgAcon 0x80 (tally pgAcon 0x0103 1 (ctxAttrs s c) s)

/-- REPLAY (R151): an automatic replay of the running context's halted window, once the drains of that window are done. -/
def replayState (s : State) : State :=
  match running s with
  | none => s
  | some c =>
    let a := actx s c
    match a.win with
    | none => s
    | some w =>
      if w.phase ≠ .halted ∨ acState s c ≠ stRunning ∨ a.haltKind ≠ .window ∨ a.abortReq = true ∨
          s.array.jobs.any (fun j => j.ctx == c && j.window == w.serial) then s
      else beginReplay c false s

/-! ### Who holds the array (R125, R147) -/

/-- PRIO of a context. -/
def prio (s : State) (c : Nat) : Nat := rf s (acReg c Reg.ACON_CTX_CTRL) 6 4

/-- The READY context of highest PRIO, the lowest number on a tie. -/
def bestReady (s : State) : Option Nat :=
  ((List.range 8).filter (fun c => acState s c == stReady && !(actx s c).abortReq)).foldl (fun best c =>
    match best with
    | none => some c
    | some b => if prio s b < prio s c then some c else some b) none

/-- Continue a context that was saved: check 3 of R123 and the copy back into the replay areas (R147). -/
def resumeSaved (c : Nat) (s : State) : State :=
  let a := actx s c
  let halt (h : Nat × Nat × Nat) (s : State) : State := haltCtx c (instrVa s c a.pc) h.1 h.2.1 h.2.2 .resumeCopy s
  match geometryAgain c s with
  | (some h, s) => halt h s
  | (none, s) =>
    match copyIn (viaCtx s c) (ctxSecure s c) (savedImages s c a.savedBanks) (saveVa s c + 0x100) s with
    | (some h, s) => halt h s
    | (none, s) => rfSet (statusReg c) 8 8 0 (actxMod c (fun a => { a with resumed := true }) s)

/-- ARRAY_GRANT (R125). -/
def arrayGrantState (s : State) : State :=
  if !isOn s pgAcon || (running s).isSome then s
  else
    match bestReady s with
    | none => s
    | some c =>
      if rf s (statusReg c) 8 8 = 1 && !xlatOn s then s
      else
      let s := acStateSet c stRunning (regSet activeReg (BitVec.ofNat 32 (0x80 + c)) s)
      let a := actx s c
      if rf s (statusReg c) 8 8 = 1 then resumeSaved c s
      else if a.haltKind = .window ∨ a.haltKind = .late then beginReplay c true s
      else holdAtBoundary c s

/-! ### Control instructions -/

/-- A context that may execute its next control instruction: it runs, no window is open, nothing waits for it. -/
def atControl (s : State) : Option Nat :=
  match running s with
  | none => none
  | some c =>
    let a := actx s c
    if acState s c = stRunning ∧ a.win.isNone ∧ a.abortReq = false ∧ a.ending = false ∧ a.haltKind ≠ .late ∧ isOn s pgAcon ∧
        xlatOn s then some c
    else none

/-- A context switch is due at the boundary: a PREEMPT waits, or a READY context of strictly higher PRIO exists (R125). -/
def switchWaits (s : State) (c : Nat) : Bool :=
  (actx s c).preemptReq || (List.range 8).any (fun d => acState s d == stReady && decide (prio s c < prio s d))

/-- A boundary instruction waits: for a switch, or for the hold of R152. There is no boundary before a window has ended. -/
def boundaryWaits (s : State) (c : Nat) : Bool := (actx s c).windowed && (switchWaits s c || (actx s c).agentHalt)

/-- A halt of the control instruction at pc. -/
def controlHalt (c i reason i0 i1 : Nat) (s : State) : State := haltCtx c (instrVa s c i) reason i0 i1 .control s

/-- A reason that holds when `b`. -/
def why (b : Bool) (reason : Nat) : Option (Nat × Nat × Nat) := if b then some (reason, 0, 0) else none

/-- Field checks of an MMA (06 R126). -/
def mmaFieldHalt (w : Slot) : Option (Nat × Nat × Nat) :=
  lowest [why (fld w 4 0 != 0) 0x02, why (fld w 73 57 == 0 || decide (65536 < fld w 73 57)) 0x27]

/-- Field checks of a FRAME (06 R126, R77, R55): FP64 on the FGM-7768 is ENGINE_ABSENT, every other pairing or default that R77
rejects FRAME_INVALID, formats that no pairing names among them. -/
def frameHalt (g : Grade) (w : Slot) : Option (Nat × Nat × Nat) :=
  let fa := fld w 100 96
  let fb := fld w 95 91
  let unset := bit w 102
  let reservedFmt := !unset && (fmtReserved fa || fmtReserved fb)
  let absent := !unset && (fa == 0x0B || fb == 0x0B) && !hasFp64 g
  let bad := !unset && (!pairingOk fa fb || (bit w 101 && (defaultFrame fa fb).isNone))
  lowest
    [why (fld w 78 0 != 0 || reservedFmt) 0x02,
     why absent 0x03,
     cand bad 0x12 (fld w 103 103 + 2 ^ 31) 0,
     why ((unset && fld w 101 79 != 0) || (!unset && bit w 101 && fld w 90 79 != 0)) 0x27]

/-- Field checks of a timed instruction that need neither a descriptor nor a window (06 R126). -/
def fieldHalt (g : Grade) (w : Slot) : Option (Nat × Nat × Nat) :=
  match opOf w with
  | 0x02 => frameHalt g w
  | 0x03 => mmaFieldHalt w
  | 0x04 => lowest
      [why (fld w 27 0 != 0 || fmtReserved (fld w 87 83) || decide (6 ≤ fld w 82 80)) 0x02,
       why (!fmtReserved (fld w 87 83) && !drainOutput (fld w 87 83)) 0x27]
  | 0x05 => why (fld w 103 0 != 0) 0x02
  | 0x06 => lowest
      [why (fld w 69 0 != 0) 0x02,
       why (fld w 77 70 == 0 || !targetOk (fld w 103 102) (fld w 101 100) (fld w 99 86) (fld w 85 78)) 0x27]
  | 0x07 => why (fld w 87 0 != 0) 0x02
  | _ => why (fld w 86 0 != 0) 0x02

/-- What stands at pc: the instruction if it is a control instruction, or the state after the halt it causes. A timed
instruction here is out of place, which competes with its own field checks (R127); so is the end of the program without END. -/
def controlAt (c : Nat) (s : State) : Except State Slot × State :=
  let a := actx s c
  if a.instrCount ≤ a.pc then (.error (controlHalt c (a.instrCount - 1) 0x24 0 0 s), s)
  else
    match readInstr c a.pc s with
    | (.error (r, i0, i1), s) => (.error (controlHalt c a.pc r i0 i1 s), s)
    | (.ok w, s) =>
      if isControl (opOf w) then (.ok w, s)
      else if isTimed (opOf w) then
        match lowest [fieldHalt s.fuses.grade w, why true 0x24] with
        | some (r, i0, i1) => (.error (controlHalt c a.pc r i0 i1 s), s)
        | none => (.ok w, s)
      else (.error (controlHalt c a.pc 0x01 0 0 s), s)

/-- Execute the control instruction of opcode `op` at pc, after its checks; `check` gives the lowest reason. A saturated gate
counter stops it too (R29). -/
def control (op : Nat) (check : Nat → Slot → State → Option (Nat × Nat × Nat)) (f : Nat → Slot → State → State) (s : State) :
    State :=
  match atControl s with
  | none => s
  | some c =>
    match controlAt c s with
    | (.error _, _) => s
    | (.ok w, s') =>
      if opOf w ≠ op then s
      else
        match lowest [check c w s', overrunCand s' c] with
        | some (r, i0, i1) =>
          aconSample (instrVa s' c (actx s' c).pc) op c true 0 0
            (controlHalt c (actx s' c).pc r i0 i1 (overrunTaken c r s'))
        | none => f c w (aconSample (instrVa s' c (actx s' c).pc) op c false 0 0 s')

/-- Continue at instruction i. -/
def aconGoto (c i : Nat) (s : State) : State := holdAtBoundary c (actxMod c (fun a => { a with pc := i }) s)

/-- AUDIT_OPEN. -/
def auditOpen (s : State) (c : Nat) : Bool := rf s (statusReg c) 9 9 == 1

/-- A window is audited (R136). -/
def auditedNow (s : State) (c : Nat) : Bool := auditMode s c == 2 || (auditMode s c == 1 && auditOpen s c)

/-- AUDIT (R136). -/
def auditState (s : State) : State :=
  control 0x08 (fun _ w _ => why (fld w 118 0 != 0) 0x02) (fun c w s =>
    let s := if auditMode s c = 1 then rfSet (statusReg c) 9 9 (fld w 119 119) s else s
    aconGoto c ((actx s c).pc + 1) s) s

/-- TARGET of LOOP and JMP as an instruction index, if it lies in the program. -/
def branchTo (a : AconCtx) (w : Slot) : Option Nat :=
  let t : Int := (a.pc : Int) + sext 32 (fld w 93 62)
  if 0 ≤ t ∧ t < a.instrCount then some t.toNat else none

/-- Checks of LOOP and JMP. -/
def branchCheck (reserved : Bool) (a : AconCtx) (w : Slot) : Option (Nat × Nat × Nat) :=
  lowest [why reserved 0x02, why (branchTo a w).isNone 0x27]

/-- LOOP (R142). -/
def loopState (s : State) : State :=
  control 0x0A (fun c w s => branchCheck (fld w 61 0 != 0) (actx s c) w) (fun c w s =>
    let a := actx s c
    let (lc, active, taken) := loopStep a.lc a.active (fld w 119 118) (fld w 117 94)
    let s := actxMod c (fun a => { a with lc := lc, active := active }) s
    aconGoto c (if taken then (branchTo a w).getD 0 else a.pc + 1) s) s

/-- JMP (R142). -/
def jmpState (s : State) : State :=
  control 0x0B (fun c w s => branchCheck (fld w 119 94 != 0 || fld w 61 0 != 0) (actx s c) w) (fun c w s =>
    aconGoto c ((branchTo (actx s c) w).getD 0) s) s

/-- Clusters whose CSEQ has a stream of context c. -/
def ctxClusters (s : State) (c : Nat) : List Nat := (s.clusters.map (·.1)).filter (fun n => csState s n c != 0)

/-- Checks of a VSEL (06 R126, R140). -/
def vselCheck (c : Nat) (w : Slot) (s : State) : Option (Nat × Nat × Nat) :=
  lowest [why (fld w 57 0 != 0) 0x02, why ((actx s c).vtabCount == 0) 0x23, why (fld w 119 72 % 4 != 0) 0x27]

/-- Steps 2 to 5 of VSEL (R140). The variant table is read again (DESIGN CHOICE, log entry 94). -/
def vselSelect (c : Nat) (w : Slot) (s : State) : State :=
  let a := actx s c
  let halt (h : Nat × Nat × Nat) (s : State) : State := controlHalt c a.pc h.1 h.2.1 h.2.2 s
  let s := if bit w 63 then gateCtrSet c (fld w 62 58) (gateCtr s c (fld w 62 58) - 1) s else s
  let s := actxMod c (fun a => { a with vgate := none }) s
  match virtRead (viaCtx s c) ((fld w 119 72 + 4 * fld w 71 64) % 2 ^ 48) 4 s with
  | (.error e, s) => halt (accessHalt e false) s
  | (.ok d, s) =>
    let len := leNat d
    match readVariants c a.vtabOff a.vtabCount s with
    | (.error e, s) => halt (accessHalt e false) s
    | (.ok vt, s) =>
      match vt.find? (fun e => decide (len ≤ e.1)) with
      | none => halt (0x0D, len, (vt.getLast?.map (·.1)).getD 0) s
      | some (_, entry, id, _) =>
        let s := rfSet (statusReg c) 23 16 id s
        let s := (ctxClusters s c).foldl (fun s n => mailboxPut n c id s) s
        aconGoto c entry (moversVsel c id s)

/-- VSEL (R140): begins to wait at its gate where the counter is 0, and otherwise reads the length and selects a variant. Once it
waits it is no boundary (R125). -/
def vselState (s : State) : State :=
  match atControl s with
  | none => s
  | some c =>
    if (actx s c).vgate.isNone && boundaryWaits s c then s
    else
      match controlAt c s with
      | (.error _, _) => s
      | (.ok w, s') =>
        if opOf w = 0x09 ∧ bit w 63 = true ∧ gateCtr s c (fld w 62 58) = 0 ∧
            (lowest [vselCheck c w s', overrunCand s' c]).isNone then
          actxMod c (fun a => { a with vgate := some (a.vgate.getD s'.clk.aclk) }) s'
        else control 0x09 vselCheck vselSelect s

/-- END (R124): the context waits for its last signals. -/
def endState (s : State) : State :=
  match atControl s with
  | none => s
  | some c =>
    if boundaryWaits s c then s
    else control 0x0F (fun _ w _ => why (fld w 119 0 != 0) 0x02) (fun c _ s =>
      actxMod c (fun a => { a with ending := true }) s) s

/-- CONTEXT_DONE (R124): every signal of the last window is delivered; the context returns to IDLE and the completion is
posted. -/
def contextDoneState (c : Nat) (s : State) : State :=
  let a := actx s c
  if !a.ending || !a.ended.isEmpty || ctxBusy s c || acState s c != stRunning then s
  else
    let s := actxMod c (fun a => { AconCtx.fresh with movers := a.movers, overrun := a.overrun }) (leaveArray c s)
    let s := acStateSet c stIdle (rfSet (statusReg c) 9 4 0 s)
    postCompletion c 0 (setIrq pgAcon (2 ^ (24 + c)) s)

/-! ### WIN and the load of a window -/

/-- Checks of a WIN (06 R126, R135, R136, R391). -/
def winCheck (c : Nat) (w : Slot) (s : State) : Option (Nat × Nat × Nat) :=
  let mask := fld w 103 72
  let count := fld w 71 64
  lowest
    [why (fld w 56 0 != 0) 0x02,
     cand (auditedNow s c && geomM s == 16 && geomN s == 16) 0x0C (geomM s + geomN s <<< 16) (geomM s + geomN s <<< 16),
     why (auditedNow s c && decide (32768 < fld w 119 104 + 1)) 0x21,
     why ((mask == 0) != (count == 0)) 0x27,
     why (bit w 59 && fld w 58 57 != 0) 0x27]

/-- WIN (R128, R129): open a window. What else stands at pc and cannot be executed halts here (R127). -/
def winState (s : State) : State :=
  match atControl s with
  | none => s
  | some c =>
    let a := actx s c
    match controlAt c s with
    | (.error s', _) => s'
    | (.ok w, s') =>
      if opOf w ≠ 0x01 ∨ boundaryWaits s c then s
      else
        match lowest [winCheck c w s', overrunCand s' c] with
        | some (r, i0, i1) => haltCtx c (instrVa s' c a.pc) r i0 i1 .load (overrunTaken c r s')
        | none =>
          let s := { s' with winSerial := s'.winSerial + 1 }
          let win : Window :=
            { serial := s.winSerial
              winIndex := a.pc
              next := a.pc + 1
              len := fld w 119 104 + 1
              gateMask := BitVec.ofNat 32 (fld w 103 72)
              gateCount := fld w 71 64
              pclass := fld w 63 60
              quiet := bit w 59
              carry := BitVec.ofNat 2 (fld w 58 57)
              audited := auditedNow s c
              second := false
              phase := .opened
              instrs := []
              all := []
              gaps := []
              cycle0 := 0
              endAclk := s.clk.aclk
              restores := a.resumed
              tokensTaken := false
              zeroed0 := false
              zeroed1 := false
              startState := ⟨a.swap, a.lc, a.active, a.rec0, a.rec1, a.drainSeq⟩
              held := []
              drains := 0
              withheld := false
              replays := 0
              begun := false
              after := [] }
          rfSet (statusReg c) 7 4 0 (actxMod c (fun a => { a with win := some win }) s)

/-- A resolved handle, or the halt it causes (R139, R150). -/
def resolve (c h role : Nat) (bad : Tensor → Bool) (s : State) : Except (Nat × Nat × Nat) Tensor × State :=
  let info0 := h + role <<< 16
  let info1 := (tdtFirst s c + h) % 2 ^ 15
  match readTensor c h (ctxSecure s c) s with
  | (.fail e, s) => (.error (accessHalt e true), s)
  | (.world, s) => (.error (0x07, info0, info1), s)
  | (.invalid, s) => (.error (0x0E, info0, info1), s)
  | (.ok t, s) => if bad t then (.error (0x0E, info0, info1), s) else (.ok t, s)

/-- An array operand's own tests (R139): cluster-resident, RANK 2. A DRAIN's output is such an operand (DEDUCED, log entry 97). -/
def operandBad (t : Tensor) : Bool := !t.resident || t.rank != 2

/-- An A or B operand, with the alignment case of R103. -/
def panelBad (kpos : Nat) (t : Tensor) : Bool := operandBad t || (isBlockFmt t.format && kpos % 32 != 0)

/-- Checks of a timed instruction in its window that need no descriptor (R127, R128, R130). -/
def timedHalt (g : Grade) (len lastAt : Nat) (w : Slot) : Option (Nat × Nat × Nat) :=
  let at_ := fld w 119 104
  lowest
    [fieldHalt g w,
     why (opOf w == 0x07 && decide (len < at_ + fld w 103 88 + 1)) 0x21,
     why (decide (len ≤ at_)) 0x21, why (decide (at_ < lastAt)) 0x25]

/-- The halt of a handle that does not resolve. -/
def refusedBy (r : Except (Nat × Nat × Nat) Tensor) : Option (Nat × Nat × Nat) :=
  match r with
  | .ok _ => none
  | .error x => some x

/-- FP64 operands select FP64 limb mode, which the FGM-7768 lacks (R3). -/
def fp64Absent (g : Grade) (r : Except (Nat × Nat × Nat) Tensor) : Option (Nat × Nat × Nat) :=
  match r with
  | .ok t => why (t.format == 0x0B && !hasFp64 g) 0x03
  | .error _ => none

/-- Resolve the handles of a timed instruction: role and operand tests by opcode. Errors of several handles compete by
reason with the lowest reported. -/
def timedTensors (c : Nat) (w : Slot) (s : State) :
    Option (Nat × Nat × Nat) × Option Tensor × Option Tensor × Option Tensor × State :=
  match opOf w with
  | 0x03 =>
    let kpos := fld w 32 9
    match resolve c (fld w 103 89) 0 (panelBad kpos) s with
    | (ra, s) =>
      match resolve c (fld w 88 74) 1 (panelBad kpos) s with
      | (rb, s) =>
        let h := lowest [refusedBy ra, refusedBy rb, fp64Absent s.fuses.grade ra, fp64Absent s.fuses.grade rb]
        (h, ra.toOption, rb.toOption, none, s)
  | 0x04 =>
    match resolve c (fld w 102 88) 2 (fun t => operandBad t || t.format != fld w 87 83) s with
    | (.ok t, s) => (none, none, none, some t, s)
    | (.error x, s) => (some x, none, none, none, s)
  | _ => (none, none, none, none, s)

/-- SWAP_STATE in window cycle `t`, for the instructions of a window loaded so far (R111). -/
def swapBefore (swap : Bool) (l : List Timed) (t : Nat) : Bool :=
  (l.filter (fun i => opOf i.word == 0x05 && decide (fld i.word 119 104 < t))).length % 2 == (if swap then 0 else 1)

/-- The frame base of physical bank p in window cycle `t`, as the instructions loaded so far leave it; none where it is not set
or comes from a RESTORE's record. -/
def frameBefore (a : AconCtx) (l : List Timed) (t p : Nat) : Option Int :=
  let r := if p = 0 then a.rec0 else a.rec1
  l.foldl (fun f i =>
    let at_ := fld i.word 119 104
    let lb := fld i.word 103 103
    let q := if swapBefore a.swap l at_ then 1 - lb else lb
    if t ≤ at_ ∨ q ≠ p then f
    else
      match opOf i.word with
      | 0x02 =>
        if bit i.word 102 then none
        else some (if bit i.word 101 then (defaultFrame (fld i.word 100 96) (fld i.word 95 91)).getD 0
          else sext 12 (fld i.word 90 79))
      | 0x0D => none
      | _ => f) (if r.frameSet then some r.f else none)

/-- The range check of F_eff at resolution (R78, R139), where the bank's frame is known then. What a RESTORE's record sets is
checked at issue. -/
def loadFEff (a : AconCtx) (l : List Timed) (w : Slot) (ta tb : Option Tensor) : Option (Nat × Nat × Nat) :=
  match opOf w, ta, tb with
  | 0x03, some x, some y =>
    let at_ := fld w 119 104
    let lb := fld w 8 8
    (match frameBefore a l at_ (if swapBefore a.swap l at_ then 1 - lb else lb) with
     | some f =>
       let fEff := f + x.exp + y.exp
       cand (fEff < -2048 || 2047 < fEff) 0x12 (lb + 2 ^ 31) (wrapInt 32 fEff)
     | none => none)
  | _, _, _ => none

/-- What loading a window gives: its instructions, or the halt with the index at which it stands. -/
abbrev Load := Except (Nat × Nat × Nat × Nat) (List Timed × Nat)

/-- Load the instructions of a window from index i to the next control instruction (R128): the first failing
instruction in program order, with its lowest reason (R127). -/
def loadTimed (c len : Nat) : Nat → Nat → Nat → List Timed → State → Load × State
  | 0, i, _, _, s => (.error (i, 0x21, 0, 0), s)
  | fuel + 1, i, lastAt, acc, s =>
    if (actx s c).instrCount ≤ i then (.ok (acc, i), s)
    else
      match readInstr c i s with
      | (.error (r, i0, i1), s) => (.error (i, r, i0, i1), s)
      | (.ok w, s) =>
        if isControl (opOf w) then (.ok (acc, i), s)
        else if !isTimed (opOf w) then (.error (i, 0x01, 0, 0), s)
        else
          let runaway := why (fuel == 0) 0x21
          let (h, a, b, o, s) := timedTensors c w s
          match lowest [timedHalt s.fuses.grade len lastAt w, h, loadFEff (actx s c) acc w a b, runaway] with
          | some (r, i0, i1) => (.error (i, r, i0, i1), s)
          | none => loadTimed c len fuel (i + 1) (fld w 119 104) (acc ++ [⟨i, w, a, b, o⟩]) s

/-- Declared quiet gaps of a window (R135). -/
def gapsOf (l : List Timed) : List (Nat × Nat) :=
  (l.filter (fun t => opOf t.word == 0x07)).map (fun t => (fld t.word 119 104, fld t.word 103 88 + 1))

/-- The audit area of a window's DRAINs and SAVEs would end above 4 MiB (R392). -/
def auditTooLong (s : State) (c : Nat) (l : List Timed) : Bool :=
  decide (cmemTop < auditBase s c ((l.filter (fun t => opOf t.word == 0x04 || opOf t.word == 0x0C)).length))

/-- WINDOW_LOAD (R127, R128, R139, R392): fetch the window and resolve its handles; ACON reports its PCLASS (R450). -/
def windowLoadState (s : State) : State :=
  match running s with
  | none => s
  | some c =>
    match (actx s c).win with
    | none => s
    | some w =>
      if w.phase ≠ .opened ∨ ¬ xlatOn s ∨ acState s c ≠ stRunning then s
      else
        match loadTimed c w.len 1025 (w.winIndex + 1) 0 [] s with
        | (.error (i, r, i0, i1), s) => haltCtx c (instrVa s c i) r i0 i1 .load s
        | (.ok (l, next), s) =>
          if w.audited && auditTooLong s c l then haltCtx c (instrVa s c w.winIndex) 0x21 0 0 .load s
          else
          let s := winMod c (fun w => { w with
            phase := .loaded, instrs := l, all := l, next := next, gaps := gapsOf l, endAclk := max w.endAclk s.clk.aclk }) s
          output (.powerReport w.pclass) { s with power := { s.power with pclassNow := w.pclass } }

/-! ### The carry prologue (R133) -/

/-- Logical banks that a CARRY names, bank 0 first. -/
def carried (w : Window) : List Nat := (List.range 2).filter (fun b => bit w.carry b)

/-- Latest of a list of ACLK times. -/
def latest (l : List Nat) : Nat := l.foldl max 0

/-- Earliest ACLK at which a SAVE of bank p may start: drain spacing and pending products (R113, R116). -/
def saveTime (s : State) (p : Nat) : Nat :=
  latest [(s.array.lastDrain.map (· + 256)).getD 0, ((bankOf s p).lastMma.map (fun e => e.1 + e.2 + 8)).getD 0]

/-- Earliest ACLK at which a RESTORE of bank p may start: injection overlap and bank reuse (R110, R116). -/
def restoreTime (s : State) (p : Nat) : Nat :=
  latest [(s.array.lastInject.map (fun e => e.1 + e.2)).getD 0, ((bankOf s p).lastRead.map (· + 256)).getD 0]

/-- A halt of a loaded window that has not started: it stays HALTED and RESUME presents it again. -/
def gateHalt (c reason i0 i1 : Nat) (s : State) : State :=
  match (actx s c).win with
  | none => s
  | some w => haltCtx c (instrVa s c w.winIndex) reason i0 i1 .window (winMod c (fun w => { w with phase := .halted }) s)

/-- CARRY_SLOT (R133): one slot of 264 ACLK for the next bank that the window's CARRY names: an implicit SAVE to the
replay area on a first run, an implicit RESTORE from it on a replay or after a resume. -/
def carrySlotState (s : State) : State :=
  match running s with
  | none => s
  | some c =>
    match (actx s c).win with
    | none => s
    | some w =>
      let k := match w.phase with
        | .prologue k => k
        | _ => 0
      let ready := match w.phase with
        | .prologue _ => true
        | .loaded => true
        | _ => false
      match ready, (carried w).drop k with
      | true, lb :: rest =>
        let (geo, s) := if k = 0 then geometryAgain c s else (none, s)
        match geo with
        | some (r, i0, i1) => gateHalt c r i0 i1 s
        | none =>
          let p := physOf s c lb
          let t := latest [s.clk.aclk, w.endAclk, if w.restores then restoreTime s p else saveTime s p]
          let s := aclkTo t s
          let off := replayOff s c p
          let next (s : State) : State :=
            winMod c (fun w => { w with
              endAclk := t + 264
              begun := true
              phase := if rest.isEmpty then .gate else .prologue (k + 1) }) s
          if w.restores then
            match restoreBank c p off t (recOf s c p) (guardRestore c w.serial off s) with
            | .error ((r, i0, i1), s) => haltWindow c (instrVa s c w.winIndex) r i0 i1 (next s)
            | .ok s => next s
          else
            next (startJob { DrainJob.blank with
              ctx := c, window := w.serial, isSave := true, implicit_ := true, bank := p, info := recOf s c p
              imageOff := off } t s)
      | _, _ => s

/-! ### The start of a window (R129) -/

/-- The gated counters of a window that are short. -/
def shortGates (s : State) (c : Nat) (w : Window) : List Nat :=
  (bitsOf 32 w.gateMask.toNat).filter (fun g => decide (gateCtr s c g < w.gateCount))

/-- A window whose gate is being tested: loaded, its prologue ended. -/
def atGate (w : Window) : Bool :=
  match w.phase with
  | .gate => true
  | .loaded => w.carry == 0
  | _ => false

/-- WINDOW_START (R129): the gate tokens are subtracted and window cycle 0 begins. The start waits for the end of the
current ramp of R451. -/
def windowStartState (s : State) : State :=
  match running s with
  | none => s
  | some c =>
    match (actx s c).win with
    | none => s
    | some w =>
      if !atGate w || !(shortGates s c w).isEmpty || acState s c != stRunning || decide (s.power.rowsOn < 32) then s
      else
        match geometryAgain c s with
        | (some (r, i0, i1), s) => gateHalt c r i0 i1 s
        | (none, s) =>
          match (actx s c).overrun with
          | some g => gateHalt c 0x0A g (gateCtr s c g) (actxMod c (fun a => { a with overrun := none }) s)
          | none =>
            let t := max s.clk.aclk w.endAclk
            let s := (bitsOf 32 w.gateMask.toNat).foldl (fun s g => gateCtrSet c g (gateCtr s c g - w.gateCount) s) s
            let s := aclkTo t s
            let s := actxMod c (fun a => { a with resumed := false }) (winMod c (fun w => { w with
              phase := .running, cycle0 := t, tokensTaken := true, begun := true }) s)
            let wait := if w.gateMask = 0 then 0 else t - w.endAclk
            aconSample (instrVa s c w.winIndex) 0x01 c false wait 0
              (tally pgAcon 0x0101 wait (ctxAttrs s c) (tally pgAcon 0x0100 1 (ctxAttrs s c) s))

/-- TOKEN_TIMEOUT (R30, R129): the wait at a gate, or of a VSEL, outlasts GATE_TIMEOUT. -/
def tokenTimeoutState (s : State) : State :=
  match running s with
  | none => s
  | some c =>
    let lim := rf s (pgAcon.base + Reg.ACON_CONFIG) 31 16 * 65536
    if lim = 0 then s
    else
      match (actx s c).win with
      | some w =>
        (match atGate w, shortGates s c w with
         | true, g :: _ =>
           let s := aclkTo (w.endAclk + lim + 1) s
           gateHalt c 0x0B g (gateCtr s c g) s
         | _, _ => s)
      | none =>
        match atControl s, (actx s c).vgate with
        | some _, some t0 =>
          (match controlAt c s with
           | (.ok w, s') =>
             let g := fld w 62 58
             if opOf w = 0x09 ∧ bit w 63 = true ∧ gateCtr s c g = 0 then
               controlHalt c (actx s c).pc 0x0B g 0 (aclkTo (t0 + lim + 1) s')
             else s
           | (.error _, _) => s)
        | _, _ => s

/-! ### The end of a window (R131, R136) -/

/-- The carry prologue repeated as restores before the second pass of an audited window (R136): each slot of 264 ACLK starts
only when R110 and R116 allow its RESTORE (R133). The ACLK after the last slot, or the halt of a slot. -/
def secondPrologue (c : Nat) (w : Window) (t : Nat) (s : State) : Except ((Nat × Nat × Nat) × State) (Nat × State) :=
  (carried w).foldl (fun r lb =>
    match r with
    | .error e => .error e
    | .ok (t, s) =>
      let p := physOf s c lb
      let t := latest [t, restoreTime s p]
      let off := replayOff s c p
      (match restoreBank c p off t (recOf s c p) (guardRestore c w.serial off (aclkTo t s)) with
       | .error e => .error e
       | .ok s => .ok (t + 264, s))) (.ok (t, s))

/-- WINDOW_END (R131, R136): after cycle LEN - 1. An audited window runs its second pass, after its prologue as restores,
and ends after cycle 2 × LEN - 1. -/
def windowEndState (s : State) : State :=
  match running s with
  | none => s
  | some c =>
    match (actx s c).win with
    | none => s
    | some w =>
      if w.phase ≠ .running ∨ ¬ w.instrs.isEmpty then s
      else
        let t := max s.clk.aclk (w.cycle0 + w.len)
        let s := settle c 65536 (wavesReach (aclkTo t s))
        if w.audited && !w.second then
          let st := w.startState
          let s := actxMod c (fun a => { a with swap := st.swap, rec0 := st.rec0, rec1 := st.rec1 }) s
          match secondPrologue c w t s with
          | .error ((r, i0, i1), s) => haltWindow c (instrVa s c w.winIndex) r i0 i1 s
          | .ok (t, s) =>
            let s := if geomM s = geomN s then s else alert 4 s
            winMod c (fun w => { w with
              second := true, instrs := w.all, cycle0 := t, zeroed0 := false, zeroed1 := false, drains := 0 })
              (aclkTo t s)
        else
          let s := actxMod c (fun a => { a with
            win := none, pc := w.next, windowed := true
            ended := a.ended ++ [⟨w.serial, w.held, w⟩] }) s
          holdAtBoundary c s

/-- The ended window of context c whose signals may go: every drain has written with a match (R131, R389), and the
statistics that its drains sent to the Scale Keeper have been absorbed (R212). -/
def deliverable (s : State) (c : Nat) : Option EndedWin :=
  match (actx s c).ended with
  | [] => none
  | e :: _ =>
    if s.array.jobs.any (fun j => j.ctx == c && j.window == e.serial) ||
        s.statq.any (fun m => m.fromDrain && m.ctx == c) then none
    else some e

/-- SIGNAL_DELIVERY (R31, R131): the oldest ended window that is complete delivers its held signals, unless an EXTERNAL slip
withheld them (R180). A window that completes resets REPLAYS (R151). -/
def signalDeliveryState (s : State) : State :=
  match (List.range 8).findSome? (fun c => (deliverable s c).map (fun e => (c, e))) with
  | none => s
  | some (c, e) =>
    let sigs := e.window.all.filter (fun t => opOf t.word == 0x06)
    let s := if e.window.withheld then s
      else sigs.foldl (fun s t =>
          let at_ := fld t.word 119 104
          aconSample (instrVa s c t.index) 0x06 c false (s.clk.aclk - (e.window.cycle0 + at_)) at_ s)
        (e.held.foldl (fun s x => sendSignal x s) s)
    let s := actxMod c (fun a => { a with ended := a.ended.tail }) s
    let s := if (actx s c).ended.isEmpty && (actx s c).win.isNone then rfSet (statusReg c) 7 4 0 s else s
    holdAtBoundary c s

/-! ### Context switch (R146) -/

/-- Physical banks that the WIN at pc carries, as its implicit SAVEs take them. -/
def boundaryBanks (s : State) (c : Nat) : BitVec 2 :=
  let a := actx s c
  match (virtRead (viaCtx s c) (instrVa s c a.pc) 16 s).1 with
  | .error _ => 0
  | .ok d =>
    let w : Slot := BitVec.ofNat 128 (leNat d)
    if opOf w ≠ 0x01 then 0
    else
      let b0 := b2n (bit w 57)
      let b1 := b2n (bit w 58)
      if a.swap then BitVec.ofNat 2 (b1 + 2 * b0) else BitVec.ofNat 2 (b0 + 2 * b1)

/-- The implicit SAVE of physical bank p into every cluster's replay area, at a boundary where no wave is in flight: its Guard
entries, its writes and its verdict (R145, R146, R179, R388, R507). The first failing verdict is kept. -/
def saveNow (c p : Nat) (r : Cand × State) : Cand × State :=
  let s := r.2
  let t := latest [s.clk.aclk, saveTime s p]
  let s := aclkTo (t + 264) s
  let s := { s with array := { s.array with lastDrain := some t } }
  let s := bankPut p { bankOf s p with lastRead := some t } s
  let off := replayOff s c p
  let j := { DrainJob.blank with ctx := c, isSave := true, implicit_ := true, bank := p, snap := bankOf s p, imageOff := off }
  (arrayClusters s).foldl (fun r e =>
    let (bad, s) := r
    let n := e.2.2
    let s := (guardArray n c 0 0xA (jobRanges j) (some s.clk.eclk) s).2
    let accs := readerAccs s j e.1 e.2.1 n []
    let (refused, s) := writeImage n (ctxSecure s c) off (recOf s c p) accs s
    let (v, s) := verdict j e.1 e.2.1 n accs refused s
    (bad.or v, s)) (r.1, s)

/-- CONTEXT_SWITCH (R125, R146): at its boundary the running context is saved; it becomes PREEMPTED, or READY for a context
of higher PRIO. A context that was resumed and has run no window since still has its images in the replay areas. A failed
verdict of an implicit SAVE leaves it HALTED with LATE = 1 (log entry 99). -/
def contextSwitchState (s : State) : State :=
  match running s with
  | none => s
  | some c =>
    if !(switchWaits s c) || !(atBoundary s c) || (actx s c).agentHalt || (actx s c).ending || ctxBusy s c ||
        acState s c != stRunning || !xlatOn s then s
    else if (actx s c).resumed then switchCopy c s
    else
      let banks := boundaryBanks s c
      let s := actxMod c (fun a => { a with savedBanks := banks }) s
      match (bitsOf 2 banks.toNat).foldl (fun r p => saveNow c p r) (none, s) with
      | (none, s) => switchCopy c s
      | (some (r, i0, i1), s) =>
        let late := if r = 0x09 then (i0, i1 + 2 ^ 31) else (i0 + 2 ^ 30, i1)
        haltCtx c (instrVa s c (actx s c).pc) r late.1 late.2 .switchCopy s

end Sys2Proof.Machine
end

