-- ==== Sys2Proof/Machine/Atwin.lean ====
section
/-! DEFINITION. The Atwin fabric (R303 to R333): lanes, the link layer, link encryption, packets, routes, buffers,
throttling, fencing and tags. -/

namespace Sys2Proof.Machine

/-! ### Ports -/

/-- A port after device reset. -/
def Port.fresh : Port where
  rx := []
  egress := []
  retry := []
  resend := []
  nextSeq := 0
  expSeq := 0
  nakSent := false
  badTrains := 0
  creditGot := []
  creditUsed := []
  freed := []
  swapLane := none
  txSwap := none
  swapCw := none
  laneWin := []
  latched := []
  keyActive := none
  keyStandby := none
  keyOld := none
  keyBuild := 0
  saltBuild := 0
  erased := false
  switchSeq := none
  rxSwitch := none
  authFails := 0
  authSecond := 0
  locked := false
  egPeak := 0
  localWait := 0

/-- The hidden state of port p. -/
def port (s : State) (p : Nat) : Port := tget s.ports Port.fresh p

/-- Change it. -/
def portMod (p : Nat) (f : Port → Port) (s : State) : State := { s with ports := tput s.ports p (f (port s p)) }

/-- A register of port p. -/
def atpReg (p off : Nat) : Nat := (pgAtp p).base + off

/-- ATP_STATUS.LINK codes (R332). -/
def lkDown : Nat := 0
def lkTraining : Nat := 1
def lkUp : Nat := 2
def lkRetrain : Nat := 3
def lkSwap : Nat := 4

/-- ATP_STATUS.LINK. -/
def link (s : State) (p : Nat) : Nat := rf s (atpReg p Reg.ATP_STATUS) 2 0

/-- Set ATP_STATUS.LINK. -/
def linkSet (p v : Nat) (s : State) : State := rfSet (atpReg p Reg.ATP_STATUS) 2 0 v s

/-- Traffic flows: UP, or a lane swap under way, during which traffic keeps flowing (R305). -/
def linkUp (s : State) (p : Nat) : Bool := link s p == lkUp || link s p == lkSwap

/-- The link runs encrypted. -/
def encrypted (s : State) (p : Nat) : Bool := rf s (atpReg p Reg.ATP_STATUS) 4 4 == 1

/-- COLOUR of a port: 3 is Grey. -/
def portColour (s : State) (p : Nat) : Nat := rf s (atpReg p Reg.ATP_STATUS) 15 14

/-- Own device ID: both FRT pages hold the same. -/
def devId (s : State) : Nat := rf s ((pgFrt 0).base + Reg.FRT_DEVID) 11 0

/-- The FRT instance beside a port (R18). -/
def frtOf (p : Nat) : Nat := p / 8

/-- DIM and DATELINE of a port (R319). -/
def portDim (s : State) (p : Nat) : Nat := rf s (atpReg p Reg.ATP_CONFIG) 3 0 % 8
def dateline (s : State) (p : Nat) : Bool := rf s (atpReg p Reg.ATP_CONFIG) 6 6 == 1

/-- Rank of a dimension (R319). -/
def dimRank (d : Nat) : Nat := lget [0, 1, 2, 2, 3, 3, 4, 4] d 0

/-- A fence bit (R326), held at instance 0. -/
def fenced (s : State) (dev : Nat) : Bool :=
  rf s ((pgFrt 0).base + Reg.FRT_FENCE + 4 * (dev / 32)) (dev % 32) (dev % 32) == 1

/-! ### Packets -/

/-- The 128-bit header value of a packet (R312). -/
def pktHeader (k : Packet) : Nat :=
  k.epoch.toNat + k.arg.toNat <<< 32 + k.portal.toNat <<< 59 + k.len.toNat <<< 62 + k.op.toNat <<< 72 +
  k.tag.toNat <<< 77 + k.gen.toNat <<< 91 + b2n k.world <<< 95 + k.hops.toNat <<< 96 + k.vc.toNat <<< 101 +
  k.cls.toNat <<< 102 + k.src.toNat <<< 104 + k.dst.toNat <<< 116

/-- Header and payload as they cross a link without encryption (R7, R312). -/
def pktWire (k : Packet) : List Byte := leBytes 16 (pktHeader k) ++ k.payload

/-- One bit of CRC-32 with the IEEE 802.3 polynomial, least significant bit first (log entry 105). -/
def crcBit (c : BitVec 32) : BitVec 32 := if c.getLsbD 0 then (c >>> 1) ^^^ 0xEDB88320 else c >>> 1

/-- One byte of it. -/
def crcByte (c : BitVec 32) (b : Byte) : BitVec 32 := (List.range 8).foldl (fun c _ => crcBit c) (c ^^^ b.zeroExtend 32)

/-- CRC-32 of bytes (R307). -/
def crc32 (l : List Byte) : BitVec 32 := ~~~ (l.foldl crcByte 0xFFFFFFFF)

/-- The CRC of a packet's trailer: over header and payload as transmitted, and SEQ (R307). -/
def trailerCrc (wire : List Byte) (seq : BitVec 16) : BitVec 32 := crc32 (wire ++ leBytes 2 seq.toNat)

/-- Header and payload bytes of a packet. -/
def pktBytes (k : Packet) : Nat := 16 + k.payload.length

/-- Credits a packet takes: 64-byte units of its header and payload (log entry 40). -/
def pktCredits (k : Packet) : Nat := ceilDiv (pktBytes k) 64

/-- Whether an operation exists in its class (R313, R341). -/
def opKnown (cls op : Nat) : Bool :=
  match cls with
  | 0 => decide (1 ≤ op) && decide (op ≤ 3)
  | 1 => decide (1 ≤ op) && decide (op ≤ 4)
  | 2 => (decide (1 ≤ op) && decide (op ≤ 9)) || op == 0x1F
  | _ => false

/-- Whether LEN is above 512 or does not match a known operation (R313, R341). -/
def lenBad (k : Packet) : Bool :=
  let n := k.len.toNat
  let zero : Bool := n != 0
  decide (512 < n) || n != k.payload.length ||
  (match k.cls.toNat, k.op.toNat with
   | 0, 1 => n != 8
   | 0, 2 => decide (n < 9)
   | 0, 3 => zero
   | 1, 1 => n == 0
   | 1, 2 => zero
   | 1, 3 => zero
   | 1, 4 => zero
   | 2, 1 => n == 0
   | 2, 2 => n != 4
   | 2, 3 => zero
   | 2, 4 => n != 4
   | 2, 5 => decide (480 < n)
   | 2, 6 => decide (480 < n)
   | 2, 7 => zero
   | 2, 8 => zero
   | 2, 9 => zero
   | 2, 0x1F => n != 4
   | _, _ => false)

/-- Number of a receive buffer. -/
def bufIdx : Buf → Nat
  | .req => 0
  | .rsp => 1
  | .col => 2
  | .fwd0 => 3
  | .fwd1 => 4

/-- Buffer of a class at its destination, or of a VC in transit (R320). -/
def bufFor (k : Packet) (final : Bool) : Buf :=
  if final then (match k.cls.toNat with
    | 0 => .req
    | 1 => .rsp
    | _ => .col)
  else if k.vc = 1 then .fwd1 else .fwd0

/-- Credits of a whole buffer (R320). -/
def bufCredits : Buf → Nat
  | .col => 512
  | _ => 256

/-- Attributes of a packet's occurrence (R484, R485). -/
def pktAttrs (k : Packet) (fwd : Bool) : Attrs :=
  { world := some k.world, classes := [if fwd then 8 else match k.cls.toNat with
      | 0 => 6
      | 1 => 7
      | _ => 9] }

/-! ### Drops and link events -/

/-- Drop causes (R330). -/
def dcHop : Nat := 1
def dcResidence : Nat := 2
def dcNoRoute : Nat := 3
def dcOrder : Nat := 4
def dcWorld : Nat := 5
def dcFenced : Nat := 6
def dcMalformed : Nat := 7
def dcNeighbour : Nat := 8
def dcPortLost : Nat := 9

/-- Drop a packet at the FRT beside port p (R330). -/
def dropPkt (p cause : Nat) (k : Packet) (s : State) : State :=
  let g := pgFrt (frtOf p)
  let s := rfAdd (g.base + (if cause = dcFenced then Reg.FRT_FENCE_DROP else Reg.FRT_DROP)) 31 0 1 s
  let s := reg64Set (g.base + Reg.FRT_LAST_DROP)
    (cause <<< 56 + k.cls.toNat <<< 48 + k.src.toNat <<< 36 + k.dst.toNat <<< 24 + p <<< 20) s
  let s := tally g 0x0101 1 (pktAttrs k false) s
  let s := setIrq g (if cause = dcNoRoute then 0x50000 else 0x10000) s
  emit g 0x30 (cause + p <<< 8 + k.src.toNat <<< 16 + k.dst.toNat <<< 32) s

/-- Control unit kinds on the wire, in the order R307 lists them. -/
def cuAck : Nat := 0
def cuNak : Nat := 1
def cuCredit : Nat := 2
def cuLaneSwap : Nat := 3
def cuSwapAt : Nat := 4
def cuKeySwitch : Nat := 5

/-- The IV of the next unit under a key (R310). -/
def linkIv (k : LinkKey) : BitVec 96 := BitVec.ofNat 96 (k.salt.toNat * 2 ^ 64 + k.counter % 2 ^ 64)

/-- Send a link control unit (R307); on an encrypted link it is authenticated with an empty plaintext, under a fresh counter value
(R310). The layout of its 16 bytes is not in the spec: its kind and value stand for it as additional data, and its CRC is not
formed (log entry 105). -/
def sendControl (p kind value : Nat) (s : State) : State :=
  match (if encrypted s p then (port s p).keyActive else none) with
  | none => output (.control p kind value none) s
  | some k =>
    output (.control p kind value (some (Config.gcmSeal k.key (linkIv k) (kind + 8 * value) 0)))
      (portMod p (fun x => { x with keyActive := some { k with counter := k.counter + 1 } }) s)

/-- Event 0x0722 of a port with its cause (log entry 41). -/
def downEvent (p : Nat) (cause : Option Nat) (s : State) : State :=
  match cause with
  | some c => emit (pgAtp p) 0x22 c s
  | none => emitBare (pgAtp p) 0x22 s

/-! ### Routes (R317, R318) -/

/-- The route entry of a destination. -/
def routeOf (s : State) (dst : Nat) : Nat := (tget s.routes 0 dst).toNat

/-- UP ports of a route entry, in ascending order; none where the entry is not VALID. -/
def routePorts (s : State) (e : Nat) : List Nat :=
  if nbit e 31 then (List.range 16).filter (fun p => nbit e p && linkUp s p) else []

/-- The port on which a packet leaves (R317). -/
def routePort (s : State) (k : Packet) : Option Nat :=
  let ps := routePorts s (routeOf s k.dst.toNat)
  if ps.isEmpty then none else ps[(k.src.toNat + k.tag.toNat) % ps.length]?

/-- Bytes queued for a port (R324). -/
def egressBytes (s : State) (p : Nat) : Nat := (port s p).egress.foldl (fun v t => v + pktBytes t.pkt) 0

/-- Queue a packet for a port. -/
def enqueue (b : Nat) (t : TxPacket) (s : State) : State :=
  let s := portMod b (fun x => { x with egress := x.egress ++ [t] }) s
  let n := egressBytes s b
  portMod b (fun x => { x with egPeak := max x.egPeak n }) s

/-- VC of a packet that leaves over port b (R319). -/
def outVc (s : State) (b : Nat) (keep : Nat) : BitVec 1 := if dateline s b then 1 else BitVec.ofNat 1 keep

/-- The port that a drop of a queued packet records: the one it arrived on, or for a local packet the one it was to leave by. -/
def dropPort (p : Nat) (t : TxPacket) : Nat := t.arrival.getD p

/-- How a local send fares (R314, R317, R326). -/
inductive SendOutcome where
  | sent | fenced | noRoute
deriving DecidableEq, Repr

/-- Route a packet of this device (R317, R319). HOPS comes from the route entry. A packet to the device's own ID is
delivered locally, through the buffers of port 0 (log entry 42). -/
def route (k : Packet) (s : State) : SendOutcome × State :=
  let dst := k.dst.toNat
  if dst = devId s then
    (.sent, portMod 0 (fun x => { x with rx := x.rx ++ [⟨bufFor k true, k, true, false⟩] }) s)
  else
    match routePort s k with
    | none => (.noRoute, setIrq (pgFrt 0) 0x40000 s)
    | some b =>
      let k := { k with hops := BitVec.ofNat 5 (nfld (routeOf s dst) 25 21), vc := outVc s b 0 }
      if k.world && !encrypted s b then (.sent, dropPkt b dcWorld k s)
      else (.sent, enqueue b ⟨k, 0, none, 0, 0⟩ s)

/-- Send a packet of this device (R317, R325, R326): to a fenced device it is skipped. -/
def inject (k : Packet) (s : State) : SendOutcome × State := if fenced s k.dst.toNat then (.fenced, s) else route k s

/-- Forward a packet that arrived on port a (R317, R319). `none` means that it still waits for room in the egress queue. -/
def forward (a : Nat) (k : Packet) (s : State) : Option State :=
  if k.hops.toNat ≤ 1 then some (dropPkt a dcHop k s)
  else
    match routePort s k with
    | none => some (dropPkt a dcNoRoute k s)
    | some b =>
      let da := portDim s a
      let db := portDim s b
      let same : Bool := da == db
      if !(decide (dimRank da < dimRank db) || (same && decide (2 ≤ db))) || (k.vc == 1 && same && dateline s b) then
        some (dropPkt a dcOrder k s)
      else if k.world && !encrypted s b then some (dropPkt a dcWorld k s)
      else if 65536 < egressBytes s b + pktBytes k then none
      else
        let out := { k with vc := outVc s b (if same then k.vc.toNat else 0), hops := BitVec.ofNat 5 (k.hops.toNat - 1) }
        some (tally (pgFrt (frtOf a)) 0x0100 1 (pktAttrs k true) (enqueue b ⟨out, 0, some a, k.vc.toNat, 0⟩ s))

/-! ### Receive buffers -/

/-- The oldest packet in a receive buffer of port p that is still to be served. -/
def rxHead (s : State) (p : Nat) (b : Buf) : Option RxPacket := (port s p).rx.find? (fun x => x.buf == b && !x.served)

/-- A packet leaves its receive buffer, and its credits return. -/
def rxRemove (p : Nat) (h : RxPacket) (s : State) : State :=
  portMod p (fun x =>
    { x with rx := x.rx.erase h
             freed := if h.loop then x.freed
               else tput x.freed (bufIdx h.buf) ((tget x.freed 0 (bufIdx h.buf) + pktCredits h.pkt) % 65536) }) s

/-- Remove the head of a receive buffer. -/
def rxTake (p : Nat) (b : Buf) (s : State) : State :=
  match rxHead s p b with
  | none => s
  | some h => rxRemove p h s

/-- The oldest REQ of port p is served; it keeps its buffer space until its RSP is sent (R321). -/
def rxServe (p : Nat) (h : RxPacket) (s : State) : State :=
  portMod p (fun x => { x with rx := x.rx.replace h { h with served := true } }) s

/-- An RSP answers a served REQ. -/
def answers (k : Packet) (h : RxPacket) : Bool :=
  h.served && h.pkt.src == k.dst && h.pkt.tag == k.tag && h.pkt.gen == k.gen

/-- An RSP of this device was sent, or will never be: the REQ that it answers leaves its buffer (R321). -/
def rspGone (k : Packet) (s : State) : State :=
  if k.cls ≠ 1 then s
  else
    match (List.range 16).findSome? (fun p => ((port s p).rx.find? (answers k)).map (fun h => (p, h))) with
    | none => s
    | some (p, h) => rxRemove p h s

/-- An RSP of this device waits in an egress queue. -/
def rspQueued (s : State) (k : Packet) : Bool :=
  (List.range 16).any (fun p => (port s p).egress.any (fun t => t.arrival.isNone && t.pkt.cls == 1 && t.pkt.dst == k.dst &&
    t.pkt.tag == k.tag && t.pkt.gen == k.gen))

/-- Move the forward packets of one buffer while their egress queues have room. -/
def drainFwd (p : Nat) (b : Buf) : Nat → State → State
  | 0, s => s
  | n + 1, s =>
    match rxHead s p b with
    | none => s
    | some h =>
      match forward p h.pkt (rxTake p b s) with
      | none => s
      | some s => drainFwd p b n s

/-- Move every forward packet that can move. -/
def drainAll (s : State) : State :=
  (List.range 16).foldl (fun s p =>
    let n := (port s p).rx.length
    if n = 0 then s else drainFwd p .fwd0 n (drainFwd p .fwd1 n s)) s

/-! ### Tags of requests (R328) -/

/-- A tag never used. -/
def Tag.fresh : Tag := ⟨.free, 0⟩

/-- Tag t. -/
def tagOf (s : State) (t : Nat) : Tag := tget s.tags Tag.fresh t

/-- Contribution of a tag state to FRT_TAGS: IN_USE, then QUARANTINE. -/
def TagState.weight : TagState → Nat
  | .free => 0
  | .outstanding => 1
  | .quarantine => 65536

/-- Change a tag; FRT_TAGS of its instance follows. -/
def tagSet (t : Nat) (v : Tag) (s : State) : State :=
  let a := (pgFrt (t / 8192)).base + Reg.FRT_TAGS
  let w := (regGet s a).toNat
  regSet a (BitVec.ofNat 32 (w + v.state.weight - (tagOf s t).state.weight)) { s with tags := tput s.tags t v }

/-- The requester of an outstanding tag completes. -/
def completeTag (t reason : Nat) (data : List Byte) (next : TagState) (s : State) : State :=
  output (.requestDone t reason data) (tagSet t { tagOf s t with state := next } s)

/-! ### A port goes down (R309) -/

/-- Route again a packet of port p that was never transmitted (R309); a fence does not recall it (R326). Where no other port of its
route is UP, a request completes with NO_ROUTE, and another packet is dropped as NO_ROUTE (R317, R331). -/
def reroute (p : Nat) (t : TxPacket) (s : State) : State :=
  match t.arrival with
  | none =>
    match route t.pkt s with
    | (.sent, s) => if t.pkt.cls = 1 && !rspQueued s t.pkt then rspGone t.pkt s else s
    | (_, s) =>
      if t.pkt.cls = 0 then completeTag t.pkt.tag.toNat 0x20 [] .free s else rspGone t.pkt (dropPkt p dcNoRoute t.pkt s)
  | some a =>
    let k := { t.pkt with vc := BitVec.ofNat 1 t.vcIn, hops := BitVec.ofNat 5 (t.pkt.hops.toNat + 1) }
    match forward a k s with
    | some s => s
    | none => portMod a (fun x => { x with rx := x.rx ++ [⟨bufFor k false, k, true, false⟩] }) s

/-- Clear what a link in operation holds; the keys, the maps and the receive buffers stay. A lane swap cut short is a lane failure
still to be handled (R329). -/
def Port.linkReset (x : Port) : Port :=
  { x with egress := [], retry := [], resend := [], nextSeq := 0, expSeq := 0, nakSent := false
           badTrains := 0, creditGot := [], creditUsed := [], freed := [], swapLane := none, txSwap := none
           swapCw := none, latched := x.swapLane.toList ++ x.latched, switchSeq := none, rxSwitch := none, keyOld := none }

/-- The port's link goes down: queued packets are routed again, unacknowledged ones are lost (R309). -/
def portLost (p : Nat) (s : State) : State :=
  let x := port s p
  let a := atpReg p Reg.ATP_STATUS
  let s := rfSet a 4 4 0 (rfSet a 13 8 0 (linkSet p lkDown s))
  let unfail (a : Nat) (l : Option Nat) (s : State) : State := match l with
    | some l => rfSet a (15 + l) (15 + l) 0 s
    | none => s
  let s := unfail (atpReg p Reg.ATP_LANES_RX) x.swapLane (unfail (atpReg p Reg.ATP_LANES_TX) x.txSwap s)
  let s := rfSet (atpReg p Reg.ATP_KEY_CTRL) 30 30 0 (portMod p Port.linkReset s)
  let s := x.retry.foldl (fun s t => dropPkt (dropPort p t) dcPortLost t.pkt s) s
  x.egress.foldl (fun s t => reroute p t s) s

/-- A port goes DOWN with a cause: event 0x0722, IRQ_STATUS.DOWN. -/
def goDown (p : Nat) (cause : Option Nat) (s : State) : State :=
  if link s p = lkDown then s
  else downEvent p cause (setIrq (pgAtp p) 0x20000 (portLost p s))

/-- DOWN with cause 3: it stays down until ENABLE is written (R310, R421). -/
def goDownAuth (p : Nat) (s : State) : State := portMod p (fun x => { x with locked := true }) (goDown p (some 3) s)

/-! ### Lanes (R304 to R306) -/

/-- Width of a direction from its lane register: 4, or one less for each failed lane after the spare is gone. -/
def laneWidth (w : Nat) : Nat := if nfld w 14 12 = 7 then min 4 (5 - (bitsOf 5 (nfld w 19 15)).length) else 4

/-- Colour of a direction. -/
def laneColour (w : Nat) : Nat := if laneWidth w < 4 then 2 else if nfld w 14 12 = 7 then 1 else 0

/-- A port's COLOUR in the encoding of R410. -/
def portUnitColour (c : Nat) : Nat := lget [0, 1, 3, 4] c 4

/-- Set COLOUR to the worse of the two directions; Grey stays (R306). A change goes to the Health Manager. -/
def refreshColour (p : Nat) (s : State) : State :=
  let old := portColour s p
  if old = 3 then s
  else
    let new := max (laneColour (regGet s (atpReg p Reg.ATP_LANES_RX)).toNat)
      (laneColour (regGet s (atpReg p Reg.ATP_LANES_TX)).toNat)
    colourChange 6 p (portUnitColour old) (portUnitColour new) (if new = 2 then 0x0721 else 0x0720) (rfSet (atpReg p Reg.ATP_STATUS) 15 14 new s)

/-- Make a port Grey: down until device reset, CAPS.RETIRED (R306, R41). -/
def portGrey (p : Nat) (s : State) : State :=
  let old := portColour s p
  let s := goDown p none s
  let s := pageRetired (pgAtp p) s
  colourChange 6 p (portUnitColour old) 4 0x0722 (rfSet (atpReg p Reg.ATP_STATUS) 15 14 3 s)

/-- The lane map after physical lane `bad` leaves it: the spare takes its logical number, or the direction goes 3 wide. -/
def swapMap (w bad : Nat) : Nat :=
  let spare := nfld w 14 12
  let w := nset w 19 15 (nfld w 19 15 ||| 2 ^ bad)
  if spare = 7 then w
  else
    let w := (List.range 4).foldl (fun w l => if nfld w (3 * l + 2) (3 * l) = bad then nset w (3 * l + 2) (3 * l) spare else w) w
    nset w 14 12 7

/-- The receiver acts on a failed lane (R305, R306). -/
def laneFailure (p lane : Nat) (s : State) : State :=
  let a := atpReg p Reg.ATP_LANES_RX
  let w := (regGet s a).toNat
  if nbit (nfld w 19 15) lane then s
  else if nfld w 14 12 = lane then
    -- the spare itself: it carries no logical lane
    refreshColour p (emitBare (pgAtp p) 0x20 (regSet a (BitVec.ofNat 32 (nset (swapMap w lane) 14 12 7)) s))
  else if nfld w 14 12 = 7 ∧ laneWidth w < 4 then portGrey p (rfSet a (15 + lane) (15 + lane) 1 s)
  else
    let (n, s) := draw (rfSet a (15 + lane) (15 + lane) 1 s)
    let s := linkSet p lkSwap (portMod p (fun x => { x with swapLane := some lane }) s)
    sendControl p cuSwapAt n (sendControl p cuLaneSwap lane s)

/-- A lane fails; during a swap or a retrain it is handled after that ends (R329). -/
def laneFails (p lane : Nat) (s : State) : State :=
  if (port s p).swapLane.isSome || link s p == lkRetrain then
    portMod p (fun x => { x with latched := if x.latched.contains lane then x.latched else x.latched ++ [lane] }) s
  else if linkUp s p then laneFailure p lane s
  else s

/-- LANE_FAILED (R305): codewords in which the lane carried more than 4 corrected symbols are counted, in ATP_LANE_ERR and in the
half-open window; at COUNT in one window, or when it loses CDR lock, the lane fails. -/
def laneFailedState (p lane n : Nat) (cdrLost : Bool) (s : State) : State :=
  let th := atpReg p Reg.ATP_LANE_THRESH
  let k := healthWindow s (rf s th 31 16)
  let w := tget (port s p).laneWin (k, 0) lane
  let total := (if w.1 = k then w.2 else 0) + n
  let s := if n = 0 then s
    else rfAdd (atpReg p (Reg.ATP_LANE_ERR + 4 * lane)) 31 0 n (portMod p (fun x => { x with laneWin := tput x.laneWin lane (k, total) }) s)
  if cdrLost || (n != 0 && decide (rf s th 15 0 ≤ total)) then laneFails p lane s else s

/-- Handle latched lane failures, oldest first, until one begins a swap. -/
def latchedGo (p : Nat) : List Nat → State → State
  | [], s => s
  | l :: r, s =>
    let s := laneFailure p l (portMod p (fun x => { x with latched := r }) s)
    if link s p = lkUp then latchedGo p r s else s

/-- The latched lane failures of port p are handled (R329). -/
def nextLatched (p : Nat) (s : State) : State := latchedGo p (port s p).latched s

/-- LANE_SWAP received: the transmitter trains the spare (R305). -/
def laneSwapState (p lane : Nat) (s : State) : State :=
  if linkUp s p then
    rfSet (atpReg p Reg.ATP_LANES_TX) (15 + lane) (15 + lane) 1
      (linkSet p lkSwap (portMod p (fun x => { x with txSwap := some lane }) s))
  else s

/-- SWAP_AT(n) received. -/
def swapAtState (p n : Nat) (s : State) : State :=
  if (port s p).txSwap.isSome then portMod p (fun x => { x with swapCw := some n }) s else s

/-- Set RX_WIDTH or TX_WIDTH from the lane maps. -/
def setWidths (p : Nat) (s : State) : State :=
  let a := atpReg p Reg.ATP_STATUS
  rfSet a 13 11 (laneWidth (regGet s (atpReg p Reg.ATP_LANES_TX)).toNat)
    (rfSet a 10 8 (laneWidth (regGet s (atpReg p Reg.ATP_LANES_RX)).toNat) s)

/-- LANE_SWITCH: at codeword n the new map is in use (R305, R306). -/
def laneSwitchState (p : Nat) (s : State) : State :=
  if link s p ≠ lkSwap then s
  else
    let x := port s p
    let s := match x.txSwap, x.swapCw with
      | some lane, some _ =>
        let a := atpReg p Reg.ATP_LANES_TX
        let s := regSet a (BitVec.ofNat 32 (swapMap (regGet s a).toNat lane)) s
        refreshColour p (portMod p (fun x => { x with txSwap := none, swapCw := none }) s)
      | _, _ => s
    let s := match x.swapLane with
      | some lane =>
        let a := atpReg p Reg.ATP_LANES_RX
        let red : Bool := rf s a 14 12 == 7
        let s := regSet a (BitVec.ofNat 32 (swapMap (regGet s a).toNat lane)) s
        let s := setIrq (pgAtp p) 0x10000 (portMod p (fun x => { x with swapLane := none }) s)
        if red then
          refreshColour p (emitBare (pgAtp p) 0x14 (alert 1 (emitBare (pgAtp p) 0x21 s)))
        else refreshColour p (emitBare (pgAtp p) 0x20 s)
      | none => s
    let s := setWidths p s
    let y := port s p
    let s := if y.swapLane.isNone && y.txSwap.isNone then linkSet p lkUp s else s
    if y.swapLane.isNone then nextLatched p s else s

/-! ### The link layer (R307 to R309) -/

/-- Start a retrain (R308): event 0x0723. -/
def startRetrain (p : Nat) (s : State) : State :=
  let s := rfAdd (atpReg p Reg.ATP_RETRAINS) 31 0 1 (linkSet p lkRetrain s)
  emitBare (pgAtp p) 0x23 (setIrq (pgAtp p) 0x40000 s)

/-- Resend from a SEQ onward; after 8 consecutive resends of one SEQ the port retrains (R308). -/
def resendFrom (p : Nat) (seq : BitVec 16) (s : State) : State :=
  let l := (port s p).retry.dropWhile (fun t => t.seq != seq)
  if l.isEmpty then s
  else if l.any (fun t => decide (8 ≤ t.tries)) then startRetrain p s
  else portMod p (fun x => { x with resend := l }) s

/-- Everything below the switch SEQ is acknowledged: the old key goes and BUSY clears (R311). -/
def finishSwitch (p : Nat) (s : State) : State :=
  let x := port s p
  match x.switchSeq with
  | none => s
  | some q =>
    if x.retry.all (fun t => decide ((t.seq - q).toNat < 32768)) then
      emitBare (pgAtp p) 0x25 (rfSet (atpReg p Reg.ATP_KEY_CTRL) 30 30 0
        (portMod p (fun x => { x with switchSeq := none, keyOld := none }) s))
    else s

/-- ACK: SEQ is the next one the peer expects (log entry 43). -/
def ackState (p : Nat) (seq : BitVec 16) (s : State) : State :=
  let x := port s p
  match x.retry with
  | [] => s
  | o :: _ =>
    let n := (seq - o.seq).toNat
    if n = 0 ∨ x.retry.length < n then s
    else
      let gone (t : TxPacket) : Bool := decide (((t.seq - o.seq) : BitVec 16).toNat < n)
      finishSwitch p (portMod p (fun x => { x with
        retry := x.retry.filter (fun t => !gone t), resend := x.resend.filter (fun t => !gone t) }) s)

/-- NAK(expected): resend from that SEQ onward (R308). -/
def nakState (p : Nat) (seq : BitVec 16) (s : State) : State := if linkUp s p then resendFrom p seq s else s

/-- CREDIT: the absolute count of credits that the peer has returned for a buffer (R307, R320). -/
def creditState (p : Nat) (b : Buf) (total : BitVec 16) (s : State) : State :=
  portMod p (fun x => { x with creditGot := tput x.creditGot (bufIdx b) total.toNat }) s

/-- KEY_SWITCH(s): the peer's packets from s onward use the new key (R311). -/
def keySwitchState (p : Nat) (seq : BitVec 16) (s : State) : State := portMod p (fun x => { x with rxSwitch := some seq }) s

/-- CONTROL_RESEND: ACK and CREDIT go out again (R307). -/
def controlResendState (p : Nat) (s : State) : State :=
  if linkUp s p then
    let x := port s p
    (List.range 5).foldl (fun s b => sendControl p cuCredit (b + tget x.freed 0 b <<< 4) s)
      (sendControl p cuAck x.expSeq.toNat s)
  else s

/-- RETRY_TIMEOUT: no ACK for 10 µs (R308). -/
def retryTimeoutState (p : Nat) (s : State) : State :=
  match (port s p).retry with
  | [] => s
  | o :: _ => if linkUp s p then resendFrom p o.seq s else s

/-- RETRAIN_END (R308). A lane swap that the retrain met goes on (R305, R329). -/
def retrainEndState (p : Nat) (good : Bool) (s : State) : State :=
  let x := port s p
  if link s p ≠ lkRetrain then s
  else if good then
    let l := x.retry.map (fun t => { t with tries := 0 })
    let s := portMod p (fun x => { x with badTrains := 0, retry := l, resend := l }) s
    if x.swapLane.isSome || x.txSwap.isSome then linkSet p lkSwap s else nextLatched p (linkSet p lkUp s)
  else if 1 ≤ (port s p).badTrains then goDown p (some 2) s
  else startRetrain p (portMod p (fun x => { x with badTrains := x.badTrains + 1 }) s)

/-- LOSS_OF_SIGNAL (R306). -/
def lossOfSignalState (p : Nat) (s : State) : State := goDown p (some 0) s

/-- A port that may train: ON with ENABLE, not Grey and not held down by R310 or R421. -/
def mayTrain (s : State) (p : Nat) : Bool :=
  isOn s (pgAtp p) && rf s ((pgAtp p).base + Hdr.CTRL) 0 0 == 1 && portColour s p != 3 && !(port s p).locked

/-- TRAINING_RETRY (R306), and the first training once the page is ON. -/
def trainingRetryState (p : Nat) (s : State) : State :=
  if mayTrain s p && link s p == lkDown then linkSet p lkTraining s else s

/-- PORT_UP (R306, R310, R330): training completes, unless ENCRYPT differs between the ends or an encrypted link has no active
key (log entry 44). -/
def portUpState (p : Nat) (peer : BitVec 12) (peerPort : BitVec 4) (peerEncrypt : Bool) (s : State) : State :=
  if link s p ≠ lkTraining then s
  else
    let enc : Bool := rf s (atpReg p Reg.ATP_CONFIG) 7 7 == 1
    if enc != peerEncrypt || (enc && (port s p).keyActive.isNone) then linkSet p lkDown s
    else
      let a := atpReg p Reg.ATP_STATUS
      let s := rfSet a 31 20 peer.toNat (rfSet a 19 16 peerPort.toNat (rfSet a 4 4 (b2n enc) (linkSet p lkUp s)))
      nextLatched p (emitFields (pgAtp p) 0x26 [(16, peer.toNat), (4, peerPort.toNat)] (setWidths p s))

/-! ### Packets arrive (R308, R313 to R320) -/

/-- NAK(expected): the receiver discards every packet until the expected SEQ arrives (R308). -/
def linkNak (p : Nat) (s : State) : State :=
  sendControl p cuNak (port s p).expSeq.toNat (portMod p (fun x => { x with nakSent := true }) s)

/-- A packet that comes before the expected SEQ is discarded; NAK was sent, or is sent now (R308). -/
def discardUnit (p : Nat) (s : State) : State := if (port s p).nakSent then s else linkNak p s

/-- A GCM failure (R310). -/
def gcmFailure (p : Nat) (s : State) : State :=
  let s := setIrq (pgAtp p) 0x80000 (rfAdd (atpReg p Reg.ATP_AUTH_FAIL) 31 0 1 s)
  let sec := msNow s / 1000
  let x := port s p
  let n := (if x.authSecond = sec then x.authFails else 0) + 1
  let s := portMod p (fun x => { x with authFails := n, authSecond := sec }) s
  if rf s (atpReg p Reg.ATP_CONFIG) 15 8 < n then goDownAuth p s else s

/-- A link control unit arrives (R307, R310): one whose CRC or, on an encrypted link, whose GCM tag fails is discarded and not
retried. -/
def ctrlUnit (p : Nat) (u : Sys2Proof.CtrlUnit) (f : State → State) (s : State) : State :=
  if !linkUp s p then f s
  else if !u.crcOk then rfAdd (atpReg p Reg.ATP_CRC_ERR) 31 0 1 s
  else if encrypted s p && !u.gcmOk then gcmFailure p s
  else f s

/-- Drop an accepted packet on arrival; its buffer space is returned at once. -/
def rejectPkt (p cause : Nat) (k : Packet) (s : State) : State :=
  let b := bufIdx (bufFor k (k.dst.toNat == devId s))
  dropPkt p cause k (portMod p (fun x => { x with
    freed := tput x.freed b ((tget x.freed 0 b + pktCredits k) % 65536) }) s)

/-- A packet that the link has accepted: checked, then delivered, forwarded or dropped (log entry 45). -/
def acceptPkt (p : Nat) (k : Packet) (s : State) : State :=
  let here : Bool := k.dst.toNat == devId s
  if lenBad k then rejectPkt p dcMalformed k s
  else if k.world && !encrypted s p then rejectPkt p dcWorld k s
  else if here then
    if fenced s k.src.toNat then rejectPkt p dcFenced k s
    else if !opKnown k.cls.toNat k.op.toNat then rejectPkt p dcMalformed k s
    else portMod p (fun x => { x with rx := x.rx ++ [⟨bufFor k true, k, false, false⟩] }) s
  else if k.cls = 3 then rejectPkt p dcMalformed k s
  else if k.cls = 0 ∨ k.cls = 1 then rejectPkt p dcNeighbour k s
  else
    let b := bufFor k false
    drainFwd p b 1 (portMod p (fun x => { x with rx := x.rx ++ [⟨b, k, false, false⟩] }) s)

/-- The CRC of an arriving unit fits what crossed the link (R307). -/
def crcFits (s : State) (p : Nat) (u : Sys2Proof.LinkUnit) (k : Packet) : Bool :=
  u.crc == trailerCrc (if encrypted s p then u.cipher else pktWire k) u.seq

/-- PACKET_RECEIVE (R308): an erased key takes the port down (R421); a unit that fails its FEC, CRC or GCM check, or that is not
the expected SEQ, is discarded. -/
def packetReceiveState (p : Nat) (u : Sys2Proof.LinkUnit) (k : Packet) (s : State) : State :=
  if !linkUp s p then s
  else
    let s := tally (pgAtp p) 0x0101 (pktBytes k) { pktAttrs k false with master := some (masterId 7 k.src.toNat) } s
    let x := port s p
    if encrypted s p && x.erased then goDownAuth p s
    else
    let s := if u.uncorr = 0 then s else rfAdd (atpReg p Reg.ATP_FEC_UNCORR) 31 0 u.uncorr s
    if !u.fecOk then linkNak p s
    else if !crcFits s p u k then linkNak p (rfAdd (atpReg p Reg.ATP_CRC_ERR) 31 0 1 s)
    else if encrypted s p && !u.gcmOk then
      let s := gcmFailure p s
      if linkUp s p then linkNak p s else s
    else if u.seq ≠ x.expSeq then
      if (u.seq - x.expSeq).toNat < 32768 then discardUnit p s else s
    else
      let s := portMod p (fun x =>
        { x with expSeq := x.expSeq + 1, nakSent := false
                 rxSwitch := if x.rxSwitch = some (x.expSeq + 1) then none else x.rxSwitch }) s
      acceptPkt p k s

/-! ### Packets leave (R320, R322) -/

/-- Credits held for a buffer of the peer. -/
def creditLeft (x : Port) (b : Buf) : Nat :=
  let i := bufIdx b
  (bufCredits b + tget x.creditGot 0 i + 65536 - tget x.creditUsed 0 i) % 65536

/-- The buffer a packet will occupy at the receiver. -/
def peerBuf (s : State) (p : Nat) (k : Packet) : Buf :=
  bufFor k (k.dst.toNat == rf s (atpReg p Reg.ATP_STATUS) 31 20)

/-- Arbitration class of a queued packet: 0 RSP, 1 FWD1, 2 FWD0, 3 local REQ and COL. -/
def txKind (t : TxPacket) : Nat :=
  if t.arrival.isSome then (if t.vcIn = 1 then 1 else 2)
  else if t.pkt.cls = 1 then 0 else 3

/-- The packet that the port grants next among its queued ones. -/
def arbitrate (s : State) (p : Nat) : Option TxPacket :=
  let x := port s p
  let ok (t : TxPacket) : Bool := decide (pktCredits t.pkt ≤ creditLeft x (peerBuf s p t.pkt))
  let pick (k : Nat) : Option TxPacket := x.egress.find? (fun t => txKind t == k && ok t)
  let order := if 3 ≤ x.localWait then [0, 3, 1, 2] else [0, 1, 2, 3]
  (order.filterMap pick).head?

/-- Bytes in the retry buffer. -/
def retryBytes (x : Port) : Nat := x.retry.foldl (fun v t => v + pktBytes t.pkt + 8) 0

/-- The key that a SEQ is sent under (R311). -/
def keyOf (x : Port) (seq : BitVec 16) : Option LinkKey :=
  match x.switchSeq with
  | some q => if (seq - q).toNat < 32768 then x.keyActive else x.keyOld
  | none => x.keyActive

/-- Put a packet on the wire, sealed on an encrypted link under a fresh counter value (R307, R310). -/
def putOnWire (p : Nat) (t : TxPacket) (s : State) : State :=
  let x := port s p
  let s := tally (pgAtp p) 0x0100 (pktBytes t.pkt) (pktAttrs t.pkt t.arrival.isSome) s
  if encrypted s p then
    match keyOf x t.seq with
    | none => s
    | some k =>
      let sealed := Config.gcmSeal k.key (linkIv k) t.seq.toNat (pktHeader t.pkt + leNat t.pkt.payload <<< 128)
      let k' := { k with counter := k.counter + 1 }
      let s := if keyOf x t.seq = x.keyActive then portMod p (fun x => { x with keyActive := some k' }) s
        else portMod p (fun x => { x with keyOld := some k' }) s
      output (.packet p t.seq.toNat t.pkt (some sealed) (trailerCrc (leBytes (pktBytes t.pkt) sealed) t.seq)) s
  else output (.packet p t.seq.toNat t.pkt none (trailerCrc (pktWire t.pkt) t.seq)) s

/-- PACKET_TRANSMIT: resends first, then the granted packet (R308, R322). -/
def packetTransmitState (p : Nat) (s : State) : State :=
  if !linkUp s p then s
  else if encrypted s p && (port s p).erased then goDownAuth p s
  else
    let x := port s p
    match x.resend with
    | t :: r =>
      let s := rfAdd (atpReg p Reg.ATP_RETRIES) 31 0 1 (portMod p (fun x => { x with
        resend := r, retry := x.retry.map (fun u => if u.seq = t.seq then { u with tries := u.tries + 1 } else u) }) s)
      putOnWire p t (tally (pgAtp p) 0x0102 1 (pktAttrs t.pkt t.arrival.isSome) s)
    | [] =>
      match arbitrate s p with
      | none => s
      | some t =>
        if 131072 < retryBytes x + pktBytes t.pkt + 8 then s
        else
          let b := bufIdx (peerBuf s p t.pkt)
          let t' := { t with seq := x.nextSeq }
          let waiting := x.egress.any (fun t => txKind t == 3)
          let s := portMod p (fun x =>
            { x with egress := x.egress.erase t, retry := x.retry ++ [t'], nextSeq := x.nextSeq + 1
                     creditUsed := tput x.creditUsed b ((tget x.creditUsed 0 b + pktCredits t.pkt) % 65536)
                     localWait := if txKind t = 3 ∨ !waiting then 0 else if txKind t = 0 then x.localWait
                       else x.localWait + 1 }) s
          drainAll (putOnWire p t' (if t.arrival.isNone then rspGone t.pkt s else s))

/-- THROTTLE_UPDATE: the end of a 1 µs period (R324). -/
def throttleUpdateState (p : Nat) (s : State) : State :=
  let g := (pgFrt (frtOf p)).base + Reg.FRT_THROTTLE
  let a := atpReg p Reg.ATP_THROTTLE
  let rate := rf s a 22 16
  let s1 :=
    if rf s g 23 16 * 65536 < (port s p).egPeak * 100 then
      rfAdd a 15 0 1 (rfSet a 22 16 (max (rf s g 7 0) (rate / 2)) s)
    else rfSet a 22 16 (min 64 (rate + rf s g 15 8)) s
  let s1 := if rf s1 a 22 16 < 64 then tally (pgAtp p) 0x0103 2000 {} s1 else s1
  let n := egressBytes s1 p
  portMod p (fun x => { x with egPeak := n }) s1

/-- The RSP of a served REQ could not be sent within the residence limit: it is discarded (R315). -/
def lateRsp (h : RxPacket) (s : State) : State :=
  let mine (t : TxPacket) : Bool := t.arrival.isNone && t.pkt.cls == 1 && answers t.pkt h
  match (List.range 16).findSome? (fun p => ((port s p).egress.find? mine).map (fun t => (p, t))) with
  | none => s
  | some (b, t) =>
    rspGone t.pkt (dropPkt b dcResidence t.pkt (portMod b (fun x => { x with egress := x.egress.erase t }) s))

/-- RESIDENCE_EXPIRY: the oldest packet of a place has waited too long (R327). -/
def residenceExpiryState (p : Nat) (w : Sys2Proof.Place) (s : State) : State :=
  let x := port s p
  match w with
  | .buffer b =>
    (match x.rx.find? (fun h => h.buf == b) with
     | none => s
     | some h => if h.served then lateRsp h s else dropPkt p dcResidence h.pkt (rxRemove p h s))
  | .egress =>
    (match x.egress with
     | [] => s
     | t :: r =>
       let s := dropPkt (dropPort p t) dcResidence t.pkt (portMod p (fun x => { x with egress := r }) s)
       drainAll (if t.arrival.isNone then rspGone t.pkt s else s))
  | .retry =>
    (match x.retry with
     | [] => s
     | t :: r =>
       finishSwitch p (dropPkt (dropPort p t) dcResidence t.pkt (portMod p (fun x =>
         { x with retry := r, resend := x.resend.filter (fun u => u.seq != t.seq) }) s)))

/-! ### Tags (R328) -/

/-- TAG_TIMEOUT. A limit of 0 disables it (R328, R333). -/
def tagTimeoutState (t : Nat) (s : State) : State :=
  if (tagOf s t).state = .outstanding ∧ rf s ((pgFrt (t / 8192)).base + Reg.FRT_CONFIG) 31 16 ≠ 0 then
    completeTag t 0x21 [] .quarantine s
  else s

/-- QUARANTINE_EXPIRY. -/
def quarantineExpiryState (t : Nat) (s : State) : State :=
  if (tagOf s t).state = .quarantine then tagSet t { tagOf s t with state := .free } s else s

/-- The lowest-numbered free tag of an instance. -/
def freeTag (s : State) (inst : Nat) : Option Nat :=
  (List.range' (8192 * inst) 8192).find? (fun t => (tagOf s t).state == .free)

/-- An RSP in the receive buffer of port p with operation `op`: it completes its tag or is stale (R328). -/
def takeRsp (p op : Nat) (reason : Packet → Nat) (s : State) : State :=
  match rxHead s p .rsp with
  | none => s
  | some h =>
    let k := h.pkt
    if k.op.toNat ≠ op then s
    else
      let s := rxTake p .rsp s
      let t := k.tag.toNat
      let g := tagOf s t
      if g.state = .outstanding ∧ g.gen = k.gen then completeTag t (reason k) k.payload .free s
      else
        let pg := pgFrt (t / 8192)
        emitBare (pgAtp p) 0x24 (setIrq pg 0x20000 (rfAdd (pg.base + Reg.FRT_STALE) 31 0 1 s))

def rdDataState (p : Nat) (s : State) : State := takeRsp p 1 (fun _ => 0) s
def wrAckState (p : Nat) (s : State) : State := takeRsp p 2 (fun _ => 0) s
def pongState (p : Nat) (s : State) : State := takeRsp p 3 (fun _ => 0) s
def nackState (p : Nat) (s : State) : State := takeRsp p 4 (fun k => fld k.arg 7 0) s

/-! ### Requests (R313 to R315) -/

/-- Operation, ARG and payload of a request; `none` when it has no packet form (R313). -/
def reqParts : Sys2Proof.ReqKind → Option (Nat × Nat × List Byte)
  | .rd va n => some (1, n.toNat, leBytes 8 va.toNat)
  | .wr va d => if d.isEmpty || decide (504 < d.length) then none else some (2, 0, leBytes 8 va.toNat ++ d)
  | .ping => some (3, 0, [])

/-- REQ_SEND (R314, R317, R326, R328): a refused or skipped request completes with its reason under the number 2^14, which is no
tag. A requester that finds no free tag waits. -/
def reqSendState (inst : Nat) (dst : BitVec 12) (world : Bool) (portal : BitVec 3) (epoch : BitVec 32)
    (r : Sys2Proof.ReqKind) (s : State) : State :=
  match reqParts r with
  | none => s
  | some (op, arg, data) =>
    let e := routeOf s dst.toNat
    if !isOn s (pgFrt inst) then s
    else if fenced s dst.toNat then output (.requestDone 16384 0x13 []) s
    else if dst.toNat ≠ devId s ∧ (routePorts s e).isEmpty then
      output (.requestDone 16384 0x20 []) (setIrq (pgFrt inst) 0x40000 s)
    else if dst.toNat ≠ devId s ∧ nfld e 25 21 ≠ 1 then output (.requestDone 16384 0x22 []) s
    else
      match freeTag s inst with
      | none => s
      | some t =>
        let gen := (tagOf s t).gen + 1
        let s := tagSet t ⟨.outstanding, gen⟩ s
        (inject { dst := dst, src := BitVec.ofNat 12 (devId s), cls := 0, vc := 0, hops := 1, world := world, gen := gen
                  tag := BitVec.ofNat 14 t, op := BitVec.ofNat 5 op, len := BitVec.ofNat 10 data.length, portal := portal
                  arg := BitVec.ofNat 27 arg, epoch := epoch, payload := data } s).2

/-- Answer a REQ: the RSP copies TAG, GEN, EPOCH and WORLD (R313). An RSP that does not wait in an egress queue is sent, or never
will be (R321). -/
def respond (q : Packet) (op arg : Nat) (data : List Byte) (s : State) : State :=
  let k : Packet :=
    { dst := q.src, src := BitVec.ofNat 12 (devId s), cls := 1, vc := 0, hops := 1, world := q.world, gen := q.gen
      tag := q.tag, op := BitVec.ofNat 5 op, len := BitVec.ofNat 10 data.length, portal := 0
      arg := BitVec.ofNat 27 arg, epoch := q.epoch, payload := data }
  let s := (inject k s).2
  if rspQueued s k then s else rspGone k s

/-- Answer with NACK. -/
def respondNack (q : Packet) (reason : Nat) (s : State) : State := respond q 4 reason [] s

/-- The portal's verdict on a request (R315): a reason, or how the access goes. -/
def portalVia (s : State) (q : Packet) : Except Nat Via :=
  let w := rf s ((pgFrt 0).base + Reg.FRT_PORTAL + 4 * q.portal.toNat) 31 0
  if !nbit w 4 then .error 0x0E
  else if q.world && !nbit w 5 then .error 0x07
  else .ok ⟨nfld w 2 0, .fabric, q.world, false⟩

/-- An access of the fabric can go on: it waits while XLAT is not ON (R274), and one of world S during a wipe (R420). -/
def accessOn (s : State) (world : Bool) : Bool := xlatOn s && !(s.sec.wiping && world)

/-- Serve the oldest REQ of port p when it has operation `op` and its access can go on. -/
def takeReq (p op : Nat) (access : Bool) (f : Packet → State → State) (s : State) : State :=
  match rxHead s p .req with
  | none => s
  | some h => if h.pkt.op.toNat ≠ op || (access && !accessOn s h.pkt.world) then s else f h.pkt (rxServe p h s)

/-- RD (R315). -/
def rdState (p : Nat) (s : State) : State :=
  takeReq p 1 true (fun q s =>
    match portalVia s q with
    | .error r => respondNack q r s
    | .ok v =>
      match virtRead v (leNat (q.payload.take 8) % 2 ^ 48) (fld q.arg 8 0 + 1) s with
      | (.ok d, s) => respond q 1 0 d s
      | (.error e, s) => respondNack q (causeReason e.cause) s) s

/-- WR (R315). -/
def wrState (p : Nat) (s : State) : State :=
  takeReq p 2 true (fun q s =>
    match portalVia s q with
    | .error r => respondNack q r s
    | .ok v =>
      match virtWrite v (leNat (q.payload.take 8) % 2 ^ 48) (q.payload.drop 8) s with
      | (.ok _, s) => respond q 2 0 [] s
      | (.error e, s) => respondNack q (causeReason e.cause) s) s

/-- PING (R313). -/
def pingState (p : Nat) (s : State) : State :=
  takeReq p 3 false (fun q s =>
    match portalVia s q with
    | .error r => respondNack q r s
    | .ok _ => respond q 3 0 [] s) s

/-! ### Register writes with an action -/

/-- A write of FRT_ROUTE for the entry that FRT_RSEL selects (R318); instance 1 discards it. -/
def routeWrite (inst v : Nat) (s : State) : State :=
  if inst ≠ 0 then s
  else
    let v := v &&& 0x83E0FFFF
    let absent := (List.range 16).any (fun p => nbit v p && decide (atwinPorts s.fuses.grade ≤ p))
    if (nbit v 31 && (nfld v 25 21 == 0 || nfld v 15 0 == 0)) || absent then recordError (pgFrt 0) 0x23 0 0 s
    else
      let i := rf s ((pgFrt 0).base + Reg.FRT_RSEL) 11 0
      { s with routes := if v = 0 then tdel s.routes i else tput s.routes i (BitVec.ofNat 32 v) }

/-- A write of FRT_FENCEj (R326); instance 1 discards it. -/
def fenceWrite (inst j v : Nat) (s : State) : State :=
  if inst ≠ 0 then s else regSet ((pgFrt 0).base + Reg.FRT_FENCE + 4 * j) (BitVec.ofNat 32 v) s

/-- ATP_KEY_CTRL.SWITCH (R311). -/
def keySwitchWrite (p : Nat) (s : State) : State :=
  let x := port s p
  let a := atpReg p Reg.ATP_KEY_CTRL
  if x.switchSeq.isSome || x.keyStandby.isNone then recordError (pgAtp p) 0x20 0 0 s
  else
    let s := portMod p (fun x => { x with
      switchSeq := some x.nextSeq, keyOld := x.keyActive, keyActive := x.keyStandby, keyStandby := none
      erased := false }) s
    let s := rfSet a 30 30 1 (rfSet a 1 1 0 (rfSet a 0 0 (1 - rf s a 0 0) s))
    finishSwitch p (if linkUp s p then sendControl p cuKeySwitch x.nextSeq.toNat s else s)

/-- A 32-bit word of ATP_KEY_STANDBY is written; the last word installs the key (R332). -/
def keyWordWrite (p i v : Nat) (s : State) : State :=
  let s := portMod p (fun x => { x with keyBuild := setFld x.keyBuild (32 * i + 31) (32 * i) v }) s
  if i = 7 then
    rfSet (atpReg p Reg.ATP_KEY_CTRL) 1 1 1
      (portMod p (fun x => { x with keyStandby := some ⟨x.keyBuild, x.saltBuild, 0⟩ }) s)
  else s

/-- ATP_SALT_STANDBY is written: the salt of the standby key. -/
def saltWrite (p v : Nat) (s : State) : State :=
  portMod p (fun x => { x with saltBuild := BitVec.ofNat 32 v
                               keyStandby := x.keyStandby.map (fun k => { k with salt := BitVec.ofNat 32 v }) }) s

/-- Erase a port's keys (R420): its next packet takes the port down (R421). -/
def eraseKeys (p : Nat) (s : State) : State :=
  let x := port s p
  if x.keyActive.isNone && x.keyStandby.isNone && x.keyOld.isNone then s
  else
    rfSet (atpReg p Reg.ATP_KEY_CTRL) 1 1 0
      (portMod p (fun x => { x with keyActive := none, keyStandby := none, keyOld := none, keyBuild := 0, saltBuild := 0
                                    erased := x.erased || x.keyActive.isSome }) s)

/-- FRT_DEVID, written through either instance, is writable only while every ATP page is OFF (R331, R333). -/
def devidWrite (inst v : Nat) (s : State) : State :=
  if (List.range 16).all (fun p => pageState s (pgAtp p) == 0) then
    rfSet ((pgFrt 1).base + Reg.FRT_DEVID) 11 0 v (rfSet ((pgFrt 0).base + Reg.FRT_DEVID) 11 0 v s)
  else recordError (pgFrt inst) 0x24 0 0 s

end Sys2Proof.Machine
end

