-- ==== Sys2Proof/Machine/Memc.lean ====
section
/-! DEFINITION. What is commanded of main memory: reads and writes of a line by a named master (R254, R265), evacuation (R259 to
R262), scrub and refresh (R263, R264). What MEMC does with each line is in Machine/Lines.lean. -/

namespace Sys2Proof.Machine

/-! ### Reads and writes of a line -/

/-- The channels show `o` at the line of PA, where the access reaches MEMC. -/
def observe (k : AccClass) (secure write : Bool) (pa : Nat) (o : LineObs) (s : State) : State :=
  if decodePa s pa = .main && (rptVerdict s k secure write pa).isNone then showLine (pa / 256) o s else s

/-- MEMORY_READ (R254, R265, R277): a master reads the line at PA. -/
def memoryReadState (k : AccClass) (secure : Bool) (pa : Nat) (o : LineObs) (s : State) : State :=
  let line := pa / 256 * 256
  match readLine k secure line 256 (observe k secure false line o s) with
  | (.ok d, s) => output (.memData line d false) s
  | (.error e, s) => output (if e.cause = 0xC then .memData line [] true else .memError line e.cause) s

/-- MEMORY_WRITE (R250, R265): a write within one line; less than a line is merged after a read of it. -/
def memoryWriteState (k : AccClass) (secure : Bool) (pa : Nat) (data : List Byte) (o : LineObs) (s : State) : State :=
  let data := data.take (256 - pa % 256)
  if data.isEmpty then s
  else
    match writeLine k secure pa data (if data.length < 256 then observe k secure true pa o s else s) with
    | (.ok _, s) => s
    | (.error e, s) => output (.memError pa e.cause) s

/-! ### Evacuation (R259 to R262) -/

/-- MEMC_EVAC, held at instance 0. -/
def evacReg : Nat := (pgMemc 0).base + Reg.MEMC_EVAC

/-- The two ways of a group. -/
def waysOf (s : State) (g : Nat) : List Nat := (List.range 64).filter (fun w => nfld (wayMap s w) 4 0 == g && !nbit (wayMap s w) 7)

/-- GO for group g (R259, R260, R262, R269): while BUSY the write is discarded. -/
def evacGo (g : Nat) (s : State) : State :=
  let s := if evacBusy s then s else rfSet evacReg 4 0 g s
  if evacBusy s then recordError (pgMemc 0) 0x20 0 0 s
  else if groupColour s g ≠ 2 ∨ 1 ≤ retiredGroups s then recordError (pgMemc 0) 0x21 0 0 s
  else
    let top := memTop s - 24 * 2 ^ 30
    let b := (pgMemc 0).base
    let s := (waysOf s g).foldl (fun s w => byteRegSet (b + Reg.MEMC_WAYMAP) w (wayMap s w + 128) s) s
    let s := rfSet (b + Reg.MEMC_MAP_STATE) 3 0 (retiredGroups s + 1) (reg64Set (b + Reg.MEMC_TOP) top s)
    let s := reg64Set (b + Reg.MEMC_EVAC_FIRST) 0 (regSet (b + Reg.MEMC_EVAC_LOST) 0 (reg64Set (b + Reg.MEMC_EVAC_PROGRESS) 0 s))
    let s := rfSet evacReg 31 30 2 s
    { s with
      evacGroup := g
      mem := s.mem.filter (fun e => e.1 < top || 0x00C0_0000_0000 ≤ e.1)
      memObs := s.memObs.filter (fun e => e.1 * 256 < top)
      markers := s.markers.filter (fun l => l * 256 < top) }

/-- A write to MEMC_EVAC of instance 0 by a secure master. The Management Controller requests the evacuation of an Amber group
(R258) by writing its number to GROUP without GO (log entry 104). -/
def evacWrite (m : Sys2Proof.Master) (v : Nat) (s : State) : State :=
  let g := nfld v 4 0
  if nbit v 8 then evacGo g s
  else
    let s := rfSet evacReg 4 0 g s
    if m = .mgc ∧ groupColour s g = 1 then groupRed g 1 s else s

/-- PA of the line with spill index k. -/
def orphanPa (s : State) (k : Nat) : Nat :=
  let j := linesPerWay (retiredGroups s)
  lineAt (lget (orphanWays s) (k / j) 0) (k % j) * 256

/-- The last line is copied (R260 step 5). -/
def evacFinish (g : Nat) (s : State) : State :=
  let s := groupColourSet g 3 0x0425 s
  let p := pgCgm g
  let s := mapsMod (fun m => { m with groups := m.groups ++ [g] }) (retirePage p s)
  emitFields (pgMemc 0) 0x25 [(8, g), (32, rf s ((pgMemc 0).base + Reg.MEMC_EVAC_LOST) 31 0)] (memcIrq 0x40000 (rfSet evacReg 31 30 1 s))

/-- EVAC_LINE_COPY (R260, R261): the next orphan line moves to its spill place, with the data as read. A line that reads poisoned
leaves a marker; what arrives of a line whose group has lost two members is a free value. -/
def evacLineState (o : LineObs) (s : State) : State :=
  if !evacBusy s then s
  else
    let b := (pgMemc 0).base
    let g := s.evacGroup
    let k := evacDone s
    let pa := orphanPa s k
    let l := pa / 256
    let was := memGetBytes s.mem pa 256
    let (r, s) := checkLine g pa was (s.markers.contains l) o (useEntry g s)
    let (data, s) := if linesLost s g then (let x := draw s; (leBytes 256 x.1, x.2)) else (r.data, s)
    let s := lineWritten l (if data = was then s else { s with mem := memPutBytes s.mem pa data })
    let s := useEntry (spillPlace s k).1 s
    let s :=
      if r.poisoned then
        let s := emitFields (pgMemc 0) 0x20 [(48, pa), (8, g)] { s with markers := s.markers ++ [l] }
        let s := if rf s (b + Reg.MEMC_EVAC_LOST) 31 0 = 0 then reg64Set (b + Reg.MEMC_EVAC_FIRST) pa s else s
        rfAdd (b + Reg.MEMC_EVAC_LOST) 31 0 1 s
      else s
    let s := reg64Set (b + Reg.MEMC_EVAC_PROGRESS) (k + 1) s
    if 2 * linesPerWay (retiredGroups s) ≤ k + 1 then evacFinish g s else s

/-! ### Scrub and refresh (R263, R264) -/

/-- PA of a group line now, if an address lies there (R252, R253, R261): of the lines of ways, those that have not moved to a spill
place; of the spill places, those that hold a line. -/
def groupLinePa (s : State) (g n : Nat) : Option Nat :=
  let half := n / halfLines
  let j := n % halfLines
  let jr := linesPerWay (retiredGroups s)
  let waits (k : Nat) : Bool := evacBusy s && decide (evacDone s ≤ k)
  if j < jr then
    match (List.range 64).find? (fun w => wayMap s w % 64 == g + 32 * half) with
    | some w => if nbit (wayMap s w) 7 && !waits (spillIndex s w j) then none else some (lineAt w j * 256)
    | none => none
  else
    let sv := survivors s
    if !sv.contains g then none
    else
      let k := (j - jr) * (2 * sv.length) + (half * sv.length + sv.findIdx (· == g))
      if waits k then none else some (orphanPa s k)

/-- The scrub of one group line with its PA, or with none: then what the line holds is a consistent line that no address reaches,
and the PA that an error of it records is a free value. -/
def scrubLine (g : Nat) (o : LineObs) (s : State) : Option Nat → State
  | some pa =>
    let l := pa / 256
    let (r, s) := checkLine g pa (memGetBytes s.mem pa 256) (s.markers.contains l) o s
    let s := settleLine l r s
    if r.poisoned then emitFields (memcOf g) 0x20 [(48, pa), (8, g)] s else s
  | none =>
    if quiet o && !linesLost s g then s
    else
      let (v, s) := draw s
      let pa := v % 2 ^ 40 * 256
      let (r, s) := checkLine g pa [] false o s
      if r.poisoned then emitFields (memcOf g) 0x20 [(48, pa), (8, g)] s else s

/-- SCRUB_READ (R263): the next line of a group that is not Grey. -/
def scrubState (g : Nat) (o : LineObs) (s : State) : State :=
  if groupColour s g = 3 then s
  else
    let a := (pgCgm g).base + Reg.CGM_SCRUB
    let passes := (pgCgm g).base + Reg.CGM_SCRUB_PASSES
    let n := rf s a 26 0
    let s := scrubLine g o (useEntry g s) (groupLinePa s g n)
    if groupLines ≤ n + 1 then
      let s := rfAdd passes 31 0 1 (rfSet a 26 0 0 s)
      emitFields (memcOf g) 0x26 [(16, g / 16), (32, rf s passes 31 0)] s
    else rfSet a 26 0 (n + 1) s

/-- REFRESH (R264): a refresh delays transactions to its bank and changes nothing else. -/
def refreshState (s : State) : State := s

/-- MR4_POLL (R264): a package reports its temperature rate. -/
def mr4State (package rate : Nat) (s : State) : State := { s with mr4 := tput s.mr4 package rate }

end Sys2Proof.Machine
end

