-- ==== Sys2Proof/Machine/Health.lean ====
section
/-! DEFINITION. Patrol, structural test, spares and reporting (R394 to R414). -/

namespace Sys2Proof.Machine

/-! ### Cores, lines and bands -/

/-- The cluster's cores lie in a retired band (R118). -/
def bandRetired (s : State) (n : Nat) : Bool :=
  !nbit (rf s (pgAcon.base + Reg.ACON_ROW_BANDS) 31 0) (n / 32) ||
  !nbit (rf s (pgAcon.base + Reg.ACON_COL_BANDS) 31 0) (n % 32)

/-- The array is idle for repair (R404): no context holds it, or the running one is at a window boundary with its drains
complete. -/
def arrayIdle (s : State) : Bool :=
  s.array.jobs.isEmpty && (match running s with
    | none => true
    | some c => atBoundary s c)

/-- Dimension class of a failed-line mask: 0 Green, 1 Amber-1, 2 Amber-2 (R403). -/
def lineClass (mask : Nat) : Nat := if mask = 0 then 0 else if failCount mask = 1 ∧ nbit mask 17 = false then 1 else 2

/-- Core colour of a cluster (R403). -/
def coreColour (s : State) (n : Nat) : Nat :=
  let r := rowFailed s n
  let c := colFailed s n
  if bandRetired s n then 4
  else if 2 ≤ failCount r ∧ 2 ≤ failCount c then 3
  else max (lineClass r) (lineClass c)

/-- CORE_STATE follows the lines and bands; a new colour is reported (R403, R410), Grey cores are a retired unit (R41), and a Red
cluster awaits its recovery at a reset (R400, R412). -/
def refreshCore (n code : Nat) (s : State) : State :=
  let a := (pgCore n).base + Reg.CORE_STATE
  let old := rf s a 2 0
  let new := coreColour s n
  let s := if new = 4 then pageRetired (pgCore n) s
    else if new = 3 ∧ old ≠ 3 then rfSet (pgHlth.base + Reg.HLTH_ALERT) 8 8 1 s
    else s
  colourChange 1 n old new code (rfSet a 2 0 new (rfSet a 4 4 (b2n (reducedCheck s n)) s))

/-- Fail a line of a cluster: dimension 0 rows, 1 columns (R402, R404). -/
def failLine (n dim line : Nat) (s : State) : State :=
  let a := (pgCore n).base + (if dim = 0 then Reg.CORE_ROW_MAP else Reg.CORE_COL_MAP)
  let s := rfSet a line line 1 s
  let w := BitVec.ofNat 32 (rf s a 17 0)
  let s := mapsMod (fun m => if dim = 0 then { m with rowLines := tput m.rowLines n w }
    else { m with colLines := tput m.colLines n w }) s
  refreshCore n 0x0B02 (emitFields pgHlth 0x02 [(16, n), (8, dim), (8, line)] s)

/-- Retire a band: dimension 0 rows, 1 columns (R118, R119). Event 0x0B06. -/
def retireBand (dim band : Nat) (s : State) : State :=
  let a := pgAcon.base + (if dim = 0 then Reg.ACON_ROW_BANDS else Reg.ACON_COL_BANDS)
  if rf s a band band = 0 then s
  else
    let s := rfSet a band band 0 s
    let m := rf s a 31 0
    let g := pgAcon.base + Reg.ACON_GEOMETRY
    let len := 16 * (bitsOf 32 m).length
    let s := if dim = 0 then rfSet g 9 0 len s else rfSet g 25 16 len s
    let w := BitVec.ofNat 32 m
    let s := mapsMod (fun m => if dim = 0 then { m with rowBands := w } else { m with colBands := w }) s
    let s := emit pgHlth 0x06 (dim + band <<< 8 + geomM s <<< 16 + geomN s <<< 32) s
    (List.range 32).foldl (fun s i => refreshCore (if dim = 0 then band * 32 + i else i * 32 + band) 0x0B06 s) s

/-- Retire the band of a cluster whose cores cannot be repaired (R404). -/
def retireCoreBand (n : Nat) (s : State) : State :=
  if geomN s ≤ geomM s then retireBand 0 (n / 32) s else retireBand 1 (n % 32) s

/-- Retire the band of a cluster whose CMEM or VEC has no spare left, or whose injector has failed; an edge cluster's band is the
one it feeds (R118, R406). Another cluster that lies in a retired band already retires no further one (DEDUCED, log entry 93). -/
def bandOut (n : Nat) (s : State) : State :=
  let s := cluMod n (fun c => { c with bandDue := false }) s
  if n = 0 then retireBand 1 0 (retireBand 0 0 s)
  else if n % 32 = 0 then retireBand 0 (n / 32) s
  else if n / 32 = 0 then retireBand 1 (n % 32) s
  else if bandRetired s n then s
  else retireCoreBand n s

/-- Carried banks are restored at the next window (R404). -/
def restoreCarried (s : State) : State :=
  match running s with
  | some c => actxMod c (fun a => { a with resumed := true }) s
  | none => s

/-- What the Health Manager does of itself, while its page is ON (R52). -/
def hlthActs (f : State → State) (s : State) : State := if isOn s pgHlth then f s else s

/-- LINE_REPAIR (R404): a failed core's line is failed, the row on a tie, or a band is retired, while the array is idle. -/
def lineRepairState (n pr pc : Nat) (s : State) : State :=
  if !isOn s pgHlth || !arrayIdle s then s
  else if (clu s n).bandDue then restoreCarried (bandOut n s)
  else if !(clu s n).failedCores.contains (pr * 18 + pc) then s
  else
    let s := cluMod n (fun c => { c with failedCores := c.failedCores.filter (· != pr * 18 + pc) }) s
    let r := rowFailed s n
    let c := colFailed s n
    if nbit r pr || nbit c pc || bandRetired s n then s
    else if 2 ≤ failCount r ∧ 2 ≤ failCount c then restoreCarried (retireCoreBand n (spareExhausted 1 n s))
    else if failCount r ≤ failCount c then restoreCarried (failLine n 0 pr s)
    else restoreCarried (failLine n 1 pc s)

/-! ### Banks (R397, R405) -/

/-- CMEM_BANK_MAP of a cluster. -/
def bankMapSet (n b phys : Nat) (s : State) : State :=
  mapsMod (fun m => { m with banks := tput m.banks (n * 32 + b) phys })
    (byteRegSet ((pgCmem n).base + Reg.CMEM_BANK_MAP) b phys s)

/-- A spare physical bank: neither mapped nor failed. -/
def spareBank (s : State) (n : Nat) : Option Nat :=
  (List.range 34).find? (fun p => (List.range 32).all (fun b => physBank s n b != p) && !(clu s n).badBanks.contains p)

/-- Colour of a cluster's CMEM or VEC by its failed parts and its spares (log entry 49). -/
def spareColour (failed spares : Nat) : Nat := if failed = 0 then 0 else if failed < spares then 1 else 2

/-- A physical bank is failed: event 0x0B07 and the colour. -/
def bankFailed (n b phys : Nat) (s : State) : State :=
  if (clu s n).badBanks.contains phys then s
  else
    let k := (clu s n).badBanks.length
    let s := cluMod n (fun c => { c with badBanks := c.badBanks ++ [phys] }) s
    let s := mapsMod (fun m => { m with badBanks := m.badBanks ++ [(n, phys)] }) (emitFields pgHlth 0x07 [(16, n), (5, b), (6, phys)] s)
    colourChange 2 n (spareColour k 2) (spareColour (k + 1) 2) 0x0B07 s

/-- The 64 KiB units of a cluster's CMEM whose lines the RPT denies to a bank copy: class MGMT, world S (R270, R277). Every line
of a unit is in the same region. -/
def copyDenied (n : Nat) : List Nat → State → List Nat × State
  | [], s => ([], s)
  | u :: us, s =>
    let lines := (List.range 256).map (fun l => cmemPa n (u * 65536 + l * 256))
    if (rptVerdict s .mgmt true false (cmemPa n (u * 65536))).isSome then
      let s := lines.foldl (fun s pa => (rptCheck .mgmt true false pa s).2) s
      let (l, s) := copyDenied n us s
      (u :: l, s)
    else copyDenied n us s

/-- The reads of a bank copy meet the errors of their words through port B (R161), in line order. -/
def copyReads (n b src : Nat) (ok : Nat → Bool) (s : State) : State :=
  let c := clu s n
  if (c.poison ++ c.correct).any (fun k => k / 16384 == src) then
    ((List.range 16384).filter ok).foldl (fun s l =>
      let key := src * 16384 + l
      if c.poison.contains key || c.correct.contains key then (eccRead n .b (l * 32 + (b + 31 * l) % 32) s).2 else s) s
  else s

/-- Copy logical bank b onto physical bank `dst` (R405) through port B: a bank in RET wakes (R163), poisoned words stay poisoned,
correctable errors are gone. A line that the RPT denies is not copied (DEDUCED, log entry 102). -/
def copyBank (n b dst : Nat) (s : State) : State :=
  let src := physBank s n b
  let (denied, s) := copyDenied n (List.range 64) s
  let ok (l : Nat) : Bool := !denied.contains (l / 256)
  let s := copyReads n b src ok (wakeBank n b s)
  let words := 16384 - 256 * denied.length
  let s := tally (pgCmem n) 0x0102 (2 * words) { world := some true, addr := some (cmemPa n 0) } s
  let lo := cmemKey n (src * 16384) 0
  let dest := cmemKey n (dst * 16384) 0
  let hi := cmemKey n (src * 16384 + 16384) 0
  let cells := s.cmem.filter (fun e => lo ≤ e.1 && e.1 < hi && ok ((e.1 - lo) / 8))
  let kept := s.cmem.filter (fun e => !(dest ≤ e.1 && e.1 < dest + 131072 && ok ((e.1 - dest) / 8)))
  let s := { s with cmem := cells.foldl (fun m e => memPut m (e.1 - lo + dest) e.2) kept }
  let stays (k : Nat) : Bool := k / 16384 != src && !(k / 16384 == dst && ok (k % 16384))
  cluMod n (fun c => { c with
    poison := c.poison.filter stays ++
      (c.poison.filter (fun k => k / 16384 == src && ok (k % 16384))).map (fun k => dst * 16384 + k % 16384)
    correct := c.correct.filter stays
    writeback := c.writeback.filter stays }) s

/-- Move logical bank b onto a spare: copy, then the switch of CMEM_BANK_MAP (R405). -/
def moveBank (n b spare : Nat) (s : State) : State := bankMapSet n b spare (copyBank n b spare s)

/-- Bank b is due for retirement no more; whether it was. -/
def bankDueTaken (n b : Nat) (s : State) : Bool × State :=
  ((clu s n).dueBanks.contains b, cluMod n (fun c => { c with dueBanks := c.dueBanks.filter (· != b) }) s)

/-- Start a rotation (R397, R405). -/
def startRotation (n : Nat) (byCmd : Bool) (s : State) : Option State :=
  match (clu s n).move, spareBank s n with
  | none, some p => some (cluMod n (fun c => { c with move := some ⟨c.rotateNext % 32, p, byCmd⟩ }) s)
  | _, _ => none

/-- BANK_ROTATION (R397). -/
def bankRotationState (n : Nat) (s : State) : State := hlthActs (fun s => (startRotation n false s).getD s) s

/-- Engine pages of a cluster read CAPS.RETIRED = 1 (R406). -/
def retireEngines (n : Nat) (s : State) : State :=
  [pgVec n, pgXpose n, pgRedu n, pgConv n, pgSfun n, pgGath n].foldl (fun s p => retirePage p (engineOff p s)) s

/-- BANK_COPY: the rotation under way ends, with its march over the freed bank, or the oldest bank due for retirement moves to a
spare (R397, R405). With no spare left the cluster is retired (R406). -/
def bankCopyEnd (n : Nat) (marchPass : Bool) (s : State) : State :=
  match (clu s n).move with
  | some m =>
    let old := physBank s n m.logical
    let s := moveBank n m.logical m.spare s
    let s := cluMod n (fun c => { c with move := none, rotateNext := (m.logical + 1) % 32 }) s
    let s := if m.byCmd then rfSet (pgHlth.base + Reg.HLTH_CMD) 31 31 0 s else s
    -- an error found in the bank, by the copy itself too, retires the bank that the copy has freed (R405)
    let (due, s) := bankDueTaken n m.logical s
    if marchPass && !due then s else bankFailed n m.logical old s
  | none =>
    match (clu s n).dueBanks with
    | [] => s
    | b :: r =>
      let s := cluMod n (fun c => { c with dueBanks := r }) s
      match spareBank s n with
      | some p =>
        let old := physBank s n b
        bankFailed n b old (bankDueTaken n b (moveBank n b p s)).2
      | none =>
        let k := (clu s n).badBanks.length
        let s := cluMod n (fun c => { c with bandDue := true }) (retireEngines n (spareExhausted 2 n s))
        colourChange 2 n (spareColour k 2) 4 0x0B14 s

/-- BANK_COPY: a copy that loses writes to the engines' port is repeated (R160). -/
def bankCopyState (n : Nat) (marchPass : Bool) (lostWords : Nat) (s : State) : State :=
  let copies := (clu s n).move.isSome || ((clu s n).dueBanks != [] && (spareBank s n).isSome)
  hlthActs (fun s => if copies && decide (0 < lostWords) then collide n lostWords s else bankCopyEnd n marchPass s) s

/-- CMEM_PATROL_READ: PTRL reads the next word; an error is handled by R161, and HLTH retires its bank (R397, R405). -/
def cmemPatrolReadState (n : Nat) (s : State) : State :=
  if !isOn s (pgPtrl n) then s
  else
    let w := (clu s n).patrolWord % 524288
    let b := cmemBank w
    let key := wordKey s n w
    let bad := (clu s n).poison.contains key || (clu s n).correct.contains key
    let s := cluMod n (fun c => { c with patrolWord := (w + 1) % 524288 }) s
    if bankCur s n b = 2 ∨ bankBusy s n b = true then s
    else
      let s := (eccRead n .a w (wakeBank n b s)).2
      if !bad then s
      else
        let a := (pgPtrl n).base + Reg.PTRL_FAIL
        let s := rfSet a 15 14 1 (rfSet a 8 0 (key / 16384) (rfAdd a 31 16 1 s))
        emitFields pgHlth 0x04 [(16, n), (2, 1), (9, key / 16384)] (cluMod n (fun c =>
          { c with dueBanks := if c.dueBanks.contains b then c.dueBanks else c.dueBanks ++ [b] }) s)

/-! ### Lanes (R203, R398) -/

/-- VEC_LANE_RETIRE of a cluster as one mask. -/
def laneMask (s : State) (n : Nat) : Nat :=
  reg64 s ((pgVec n).base + Reg.VEC_LANE_RETIRE_LO) + rf s ((pgVec n).base + Reg.VEC_LANE_RETIRE_HI) 3 0 <<< 64

/-- A physical lane is retired (R203, R406): after 4 spares VEC is retired and the cluster banded out. -/
def retireLane (n l : Nat) (s : State) : State :=
  let m := laneMask s n
  if nbit m l then s
  else
    let b := (pgVec n).base
    let k := (bitsOf 68 m).length
    let s := if l < 64 then reg64Set (b + Reg.VEC_LANE_RETIRE_LO) (m % 2 ^ 64 + 2 ^ l) s
      else rfSet (b + Reg.VEC_LANE_RETIRE_HI) (l - 64) (l - 64) 1 s
    let s := cluMod n (fun c => { c with badLanes := c.badLanes ++ [l] }) s
    let s := mapsMod (fun m => { m with lanes := m.lanes ++ [(n, l)] }) (emitFields pgHlth 0x08 [(16, n), (8, l)] s)
    if k < 4 then colourChange 3 n (spareColour k 4) (spareColour (k + 1) 4) 0x0B08 s
    else
      let s := retirePage (pgVec n) (engineOff (pgVec n) (cluMod n (fun c => { c with bandDue := true }) (spareExhausted 3 n s)))
      colourChange 3 n (spareColour k 4) 4 0x0B14 s

/-! ### Suspects and failed units (R399) -/

/-- A unit is failed. A core waits for LINE_REPAIR, a mapped bank for BANK_COPY. An edge cluster's injector has no spare (R401): the
band that it feeds waits for its retirement (R118; log entry 101). -/
def failUnit (n : Nat) (u : Sys2Proof.Unit3) (s : State) : State :=
  match u with
  | .core k => cluMod n (fun c =>
      { c with failedCores := if c.failedCores.contains k.val then c.failedCores else c.failedCores ++ [k.val] }) s
  | .bank p =>
    (match (List.range 32).find? (fun b => physBank s n b == p.val) with
     | some b => cluMod n (fun c => { c with dueBanks := if c.dueBanks.contains b then c.dueBanks else c.dueBanks ++ [b] }) s
     | none =>
       -- a spare bank has no logical bank: the payload's field is a free value (log entry 5)
       let (v, s) := draw s
       bankFailed n (v % 32) p.val s)
  | .lane l => retireLane n l.val s
  | .injector => if n % 32 = 0 ∨ n / 32 = 0 then cluMod n (fun c => { c with bandDue := true }) s else s

/-- A patrol failure of a unit (R399, R413): PTRL_FAIL, event 0x0B04 and the mismatch count. -/
def patrolFail (n unit index : Nat) (u : Sys2Proof.Unit3) (s : State) : State :=
  let a := (pgPtrl n).base + Reg.PTRL_FAIL
  let s := rfSet a 15 14 unit (rfSet a 8 0 index (rfAdd a 31 16 1 s))
  unitMismatch n u (emitFields pgHlth 0x04 [(16, n), (2, unit), (9, index)] s)

/-- SUSPECT_RERUN (R399): the patrol test runs CONFIRM_RUNS times once the unit is free. -/
def suspectRerunState (n : Nat) (u : Sys2Proof.Unit3) (results : List Bool) (s : State) : State :=
  let runs := max 1 (rf s (pgHlth.base + Reg.HLTH_CONFIG) 7 0)
  let free : Bool := match u with
    | .core _ => arrayIdle s
    | _ => true
  if !isOn s pgHlth || !(clu s n).suspects.contains u || results.length != runs || !free then s
  else
    let s := cluMod n (fun c => { c with suspects := c.suspects.filter (fun x => x != u) }) s
    if results.all (fun r => !r) then failUnit n u s else s

/-! ### Core and lane patrol (R394 to R398) -/

/-- The arbiter refuses patrol in this period (R446). -/
def patrolRefused (s : State) : Bool := rf s ((pgPst 0).base + Reg.PST_STATUS) 3 3 == 1

/-- The declared gap that serves a patrol round begun now in the running window, by the ACLK at which it began (R395): the round
begins at E + 9 or later and its 104 ACLK end with the gap. -/
def quietGap (s : State) : Option Nat :=
  match running s with
  | none => none
  | some c =>
    match (actx s c).win with
    | none => none
    | some w =>
      let cyc := s.clk.aclk - w.cycle0
      let gaps := if w.quiet then [(0, w.len)] else w.gaps
      if w.phase != .running then none
      else
        (gaps.find? (fun (a, l) =>
          let e := match s.array.lastInject with
            | some (t, k) => max a (t + k - w.cycle0)
            | none => a
          decide (a ≤ cyc) && decide (max cyc (e + 9) + 104 ≤ a + l + 1))).map (fun (a, _) => w.cycle0 + a)

/-- Whether a patrol round of a cluster can run now (R395): no context holds the array, or the running window is inside a declared
gap that can serve a round and has served the cluster none yet. -/
def patrolOpen (s : State) (n : Nat) : Bool :=
  !patrolRefused s && match running s, quietGap s with
  | none, _ => true
  | some _, some t => (clu s n).patrolGap != some t
  | some _, none => false

/-- Age of the oldest pass among the in-service cores of a cluster, in ms (R396, PTRL_OLDEST). -/
def oldestPass (s : State) (n : Nat) : Nat :=
  let r := rowFailed s n
  let c := colFailed s n
  if bandRetired s n then 0
  else (List.range 324).foldl (fun v p =>
    if nbit r (p / 18) || nbit c (p % 18) then v else max v (s.evr.opMs - tget (clu s n).passMs s.patrolSince p)) 0

/-- One patrol round of a cluster on its next core (R394, R396). The vector set is the implementation's, so the patrol
accumulator takes a free value (log entry 5). -/
def patrolOne (n : Nat) (pass : Bool) (s : State) : State :=
  let a := (pgPtrl n).base + Reg.PTRL_STATUS
  let k := rf s a 8 0 % 324
  let s := rfSet a 8 0 ((k + 1) % 324) (rfAdd a 31 16 1 s)
  let (v, s) := draw s
  let acc : CoreAcc := ⟨⟨(v : Int), false, false, false, false, false, false, false, false, 0⟩, v % resMod⟩
  let s := { s with array := { s.array with patrolAcc := tput s.array.patrolAcc (n * 324 + k) acc } }
  let s := cluMod n (fun c => { c with patrolGap := quietGap s }) s
  if pass then
    let s := cluMod n (fun c => { c with passMs := tput c.passMs k s.evr.opMs }) s
    if (clu s n).lateSent && decide (oldestPass s n ≤ 600000) then cluMod n (fun c => { c with lateSent := false }) s else s
  else patrolFail n 0 k (.core (Fin.ofNat 324 k)) s

/-- PATROL_ROUND (R394 to R396). -/
def patrolRoundState (n : Nat) (pass : Bool) (s : State) : State :=
  if isOn s (pgPtrl n) && patrolOpen s n && !bandRetired s n then patrolOne n pass s else s

/-- PATROL_LATE, once (R396). -/
def patrolLateState (n : Nat) (s : State) : State :=
  if (clu s n).lateSent || decide (oldestPass s n ≤ 600000) then s
  else emitFields pgHlth 0x05 [(16, n), (32, oldestPass s n)] (alert 2 (cluMod n (fun c => { c with lateSent := true }) s))

/-- LANE_PATROL (R398): HLTH takes the lane out and PTRL tests it; with no spare lane free, only while no stream of the cluster is
running. -/
def lanePatrolState (n lane : Nat) (pass : Bool) (s : State) : State :=
  let m := laneMask s n
  if !isOn s pgHlth || !isOn s (pgPtrl n) || nbit m lane || (decide (4 ≤ (bitsOf 68 m).length) && (csActive s n).isSome) then s
  else if pass then s
  else patrolFail n 2 lane (.lane (Fin.ofNat 68 lane)) s

/-! ### HLTH_CMD (R400, R404, R413, R414) -/

/-- A command of HLTH_CMD: discarded with HLTH_BUSY while BUSY. A page that is not ON takes no command. -/
def hlthCommand (f : State → State) (s : State) : State :=
  if !isOn s pgHlth then s
  else if rf s (pgHlth.base + Reg.HLTH_CMD) 31 31 = 1 then recordError pgHlth 0x20 0 0 s
  else f s

/-- CMD_REFUSED (R414). -/
def hlthRefuse (s : State) : State := recordError pgHlth 0x21 0 0 s

/-- A context runs on the cluster's cores or engines (R400); cores of a retired band run none (R118). -/
def contextOn (s : State) (n : Nat) : Bool := ((running s).isSome && !bandRetired s n) || (csActive s n).isSome

/-- SCAN_CLUSTER (R400): refused while a context runs on the cluster's cores or engines. The payload of SCAN_FAIL is a free value
(log entry 5). -/
def hlthScan (n : Nat) (mismatch : Option (Sys2Proof.Unit3 × Nat)) (s : State) : State :=
  hlthCommand (fun s =>
    if contextOn s n then hlthRefuse s
    else
      match mismatch with
      | none => s
      | some (u, _) => failUnit n u (emitOpen pgHlth 0x0A (alert 3 s))) s

/-- PATROL_CORE (R413): refused when no round can run. -/
def hlthPatrol (n : Nat) (pass : Bool) (s : State) : State :=
  hlthCommand (fun s => if patrolOpen s n && !bandRetired s n then patrolOne n pass s else hlthRefuse s) s

/-- RETIRE_ROW_BAND and RETIRE_COL_BAND: refused while the array is not idle (R404). -/
def hlthRetireBand (dim band : Nat) (s : State) : State :=
  hlthCommand (fun s => if arrayIdle s then restoreCarried (retireBand dim (band % 32) s) else hlthRefuse s) s

/-- ROTATE_BANK (R405): BUSY until the copy ends. Refused with no spare bank or a move under way. -/
def hlthRotate (n : Nat) (s : State) : State :=
  hlthCommand (fun s =>
    match startRotation n true s with
    | some s => rfSet (pgHlth.base + Reg.HLTH_CMD) 31 31 1 s
    | none => hlthRefuse s) s

/-- A write of HLTH_CMD. The tests of a scan and a patrol pass here; the commands of their own carry other results. -/
def hlthCmdWrite (v : Nat) (s : State) : State :=
  let t := nfld v 25 16
  match nfld v 3 0 with
  | 1 => hlthScan t none s
  | 2 => hlthPatrol t true s
  | 3 => hlthRetireBand 0 (t % 32) s
  | 4 => hlthRetireBand 1 (t % 32) s
  | 5 => hlthRotate t s
  | _ => s

/-! ### Reporting (R410 to R412) -/

/-- Units of a kind (R410). -/
def unitCount (s : State) (kind : Nat) : Nat := lget [0, 1024, 1024, 1024, 64, 32, atwinPorts s.fuses.grade, 2, 6] kind 0

/-- Counts of a kind's units in each colour: Green, Amber, Red, Grey. -/
def colourCounts (s : State) (kind : Nat) : List Nat :=
  let l := (s.colours.filter (fun e => e.1 / 65536 == kind)).map (fun e => pldmColour e.2)
  let c (k : Nat) : Nat := (l.filter (· == k)).length
  [unitCount s kind - l.length, c 2, c 3, c 4]

/-- A change entry (R410). -/
def changeEntry : List Nat → Nat
  | [kind, new, old, inst, ms, code] => kind + new <<< 8 + old <<< 12 + inst <<< 16 + (ms % 2 ^ 40) <<< 32 + code <<< 72
  | _ => 0

/-- HEALTH_DATAGRAM (R410): KIND 1 when colours have changed since the last one, with the 64 oldest changes; further ones are lost.
PERIOD_MS = 0 stops the periodic ones. -/
def healthDatagramState (s : State) : State :=
  let l := s.changes.take 64
  -- HLTH holds its reports until the Management Controller's firmware runs (R437)
  if (l.isEmpty && rf s (pgHlth.base + Reg.HLTH_REPORT) 15 0 == 0) || !s.power.standbyUp || s.sec.recovery
    || rf s (pgMgc.base + 0x104) 0 0 == 1 then s
  else
    let body := leBytes 2 1 ++ leBytes 2 (b2n (!l.isEmpty)) ++ leBytes 2 (devId s) ++
      leBytes 2 (rf s (pgHlth.base + Reg.HLTH_ALERT) 15 0) ++ leBytes 8 (s.evr.opMs % 2 ^ 40) ++
      leBytes 4 s.hlthSeq ++ leBytes 4 ((s.evr.head - 1) % 2 ^ 32) ++
      ((List.range' 1 8).flatMap (fun k => (colourCounts s k).flatMap (fun c => leBytes 2 c))) ++
      leBytes 2 l.length ++ leBytes 6 0 ++ l.flatMap (fun c => leBytes 16 (changeEntry c))
    output (.datagram body) { s with changes := [], hlthSeq := s.hlthSeq + 1 }

end Sys2Proof.Machine
end

