-- ==== Sys2Proof/Machine/Recorder.lean ====
section
/-! DEFINITION. The Event Recorder (R471 to R481) and the Counter Dump Engine (R486 to R488). -/

namespace Sys2Proof.Machine

/-! ### Records (R471 to R474) -/

/-- Codes whose SEV is 4 (R472). -/
def sevCritical (c : Nat) : Bool := c % 256 == 0x14 || c == 0x0A06 || c == 0x0A07 || c == 0x0904

/-- Codes whose SEV is 3 (R472). -/
def sevError (c : Nat) : Bool :=
  (decide (0x0200 ≤ c) && decide (c ≤ 0x027F)) || (decide (0x0300 ≤ c) && decide (c ≤ 0x037F)) ||
  (decide (0x0600 ≤ c) && decide (c ≤ 0x06FF)) || c % 256 == 0xF7 ||
  [0x03A1, 0x0420, 0x0740, 0x0730, 0x0744, 0x0B01, 0x0902, 0x0903, 0x0820].contains c

/-- Codes whose SEV is 2 (R472). -/
def sevWarning (c : Nat) : Bool :=
  [0x0280, 0x0380, 0x0B03, 0x03C0, 0x03C1, 0x03C2, 0x03C3, 0x03C4, 0x03A0, 0x0421, 0x0A10, 0x0A02, 0x0B05].contains c

/-- SEV of an event: the first row of R472 that matches. -/
def severity (c : Nat) : Nat :=
  if sevCritical c then 4
  else if sevError c then 3
  else if sevWarning c then 2
  else if 1 ≤ c / 256 ∧ c / 256 ≤ 11 then 1
  else 0

/-- SEV_WORLD of an event (R471). -/
def Event.sevWorld (e : Event) : Nat := severity e.code + 128 * b2n e.world

/-- EVR_STATUS. -/
def evrStatus : Nat := pgEvr.base + Reg.EVR_STATUS

/-- The newest record in RAM. -/
def newestRec (s : State) : Option EvRec :=
  if s.evr.head = 0 then none
  else
    match tget? s.evr.ram ((s.evr.head - 1) % 16384) with
    | some r => if r.seq + 1 = s.evr.head then some r else none
    | none => none

/-- Whether an event merges into a record (R473). -/
def mergesInto (r : EvRec) (e : Event) : Bool :=
  !r.mirrored && r.source == e.source && r.code == e.code && r.sevWorld == e.sevWorld && r.payload == e.payload

/-- Put a record into its RAM slot (R475). A record that it overwrites before it was mirrored is lost to the mirror (R476). -/
def putRec (r : EvRec) (s : State) : State :=
  let slot := r.seq % 16384
  let s :=
    match tget? s.evr.ram slot with
    | some old =>
      if old.mirrored || old.seq == r.seq then s
      else
        setIrq pgEvr 0x20000 (rfAdd evrStatus 31 16 1 { s with evr := { s.evr with
          lostFrom := if s.evr.lostN = 0 then old.seq else s.evr.lostFrom, lostN := s.evr.lostN + 1 } })
    | none => s
  { s with evr := { s.evr with ram := tput s.evr.ram slot r } }

/-- A new record takes the next SEQ (R474, R475). -/
def newRecord (e : Event) (s : State) : State :=
  let q := s.evr.head
  let s := putRec ⟨q, s.evr.opMs, s.evr.cycles, e.source, e.code, e.sevWorld, 0, 0, e.payload, false⟩ s
  { s with evr := { s.evr with head := (q + 1) % 2 ^ 40, tail := max s.evr.tail (q + 1 - 16384) } }

/-- Record one event: merge it into the open newest record, or create a record (R473). -/
def recordEvent (e : Event) (s : State) : State :=
  match newestRec s with
  | some r =>
    if mergesInto r e then
      putRec { r with repeat_ := min 65535 (r.repeat_ + 1), lastDelta := min (2 ^ 32 - 1) (s.evr.opMs - r.opMs) } s
    else newRecord e s
  | none => newRecord e s

/-- The order of events that arrive in one SCLK (R474). -/
def Event.before (a b : Event) : Bool := decide (a.code < b.code) || (a.code == b.code && decide (a.source ≤ b.source))

/-- Insert an event at its place. -/
def insertEvent (e : Event) : List Event → List Event
  | [] => [e]
  | x :: r => if e.before x && !x.before e then e :: x :: r else x :: insertEvent e r

/-- Events in ascending CODE and SOURCE. -/
def sortEvents (l : List Event) : List Event := l.foldl (fun a e => insertEvent e a) []

/-- EVENT_RECORD: `count` events reach the EVR in one SCLK (R474). -/
def eventRecordState (count : Nat) (s : State) : State :=
  let now := sortEvents (s.evq.take count)
  if !s.pins.vstby then s
  else now.foldl (fun s e => recordEvent e s) { s with evq := s.evq.drop count }

/-- An event of the EVR's own page, recorded at once. -/
def evrEvent (ev payload : Nat) : Event := ⟨pgEvr.source, 0x0C00 + ev, false, payload % 2 ^ 64⟩

/-! ### The mirror (R476) -/

/-- The oldest record in RAM that is not mirrored. -/
def oldestOpen (s : State) : Option EvRec :=
  (s.evr.ram.map (·.2)).foldl (fun (b : Option EvRec) r =>
    if r.mirrored then b
    else
      match b with
      | none => some r
      | some x => if r.seq < x.seq then some r else b) none

/-- Oldest SEQ in the mirror. -/
def mirrorTail (s : State) : Nat :=
  match s.flash.mirror with
  | [] => s.evr.head
  | (q, _) :: _ => q

/-- Write a record to the ring. A new sector is erased first; the oldest 2,048 records go when the ring is full. -/
def mirrorPut (r : EvRec) (s : State) : State :=
  let f := s.flash
  let m := if f.mirrorPos % 2048 = 0 ∧ f.sectors * 2048 < f.mirror.length + 2048 then
      f.mirror.drop 2048 else f.mirror
  let s := { s with flash := { f with mirror := tput m r.seq { r with mirrored := true }, mirrorPos := f.mirrorPos + 1 } }
  let s := { s with evr := { s.evr with ram := tput s.evr.ram (r.seq % 16384) { r with mirrored := true } } }
  { s with evr := { s.evr with ftail := mirrorTail s } }

/-- A sector of the ring fails to erase or program: a spare replaces it, or the ring shrinks. -/
def sectorFailure (s : State) : State :=
  let n := rf s evrStatus 15 8
  if 0 < n then rfSet evrStatus 15 8 (n - 1) s
  else recordEvent (evrEvent 0x14 0) { s with flash := { s.flash with sectors := s.flash.sectors - 1 } }

/-- A MIRROR_GAP record for the records lost since the last one. -/
def mirrorGap (s : State) : State :=
  if s.evr.lostN = 0 then s
  else
    let p := pack [(40, s.evr.lostFrom), (32, s.evr.lostN)]
    newRecord (evrEvent 0x03 p) { s with evr := { s.evr with lostN := 0 } }

/-- MIRROR: the oldest unmirrored record goes to flash once a newer record exists, or 60 s after its last occurrence. -/
def mirrorState (sectorFails : Bool) (s : State) : State :=
  if !s.pins.vstby then s
  else
    let s := mirrorGap s
    match oldestOpen s with
    | none => s
    | some r =>
      if r.seq + 1 = s.evr.head ∧ s.evr.opMs < r.opMs + r.lastDelta + 60000 then s
      else mirrorPut r (if sectorFails then sectorFailure s else s)

/-- Mirror every record that is not yet mirrored (R477). -/
def mirrorAll (s : State) : State :=
  let open_ := (s.evr.ram.map (·.2)).filter (fun r => !r.mirrored)
  let asc := open_.foldl (fun (a : Table EvRec) r => tput a r.seq r) []
  asc.foldl (fun s e => mirrorPut e.2 s) s

/-- EVR_HEAD after a reset (R477): the newest mirrored SEQ + 16,385. -/
def headAfterReset (s : State) : Nat :=
  match s.flash.mirror.getLast? with
  | some (q, _) => (q + 16385) % 2 ^ 40
  | none => s.evr.head

/-- A POWER_ON record (R477). -/
def powerOn (cause : Nat) (s : State) : State :=
  let h := headAfterReset s
  let s := { s with evr := { s.evr with head := h, tail := h, ftail := mirrorTail { s with evr := { s.evr with head := h } } } }
  newRecord (evrEvent 0x02 (pack [(8, cause), (40, h)])) s

/-! ### Time keeping (R480) -/

/-- Write OP_MS to the flash slot that is not the newest. -/
def persistOpMs (s : State) : State :=
  let i := if s.evr.slot then 0 else 1
  { s with flash := { s.flash with opMsSlots := lset s.flash.opMsSlots i (some s.evr.opMs) }
           evr := { s.evr with slot := !s.evr.slot } }

/-- OP_MS_PERSIST. -/
def opMsPersistState (s : State) : State := if s.pins.vstby then persistOpMs s else s

/-- OP_MS and POWER_CYCLES at a standby-domain power-on, and whether both slots had failed their CRC. -/
def resumeTime (s : State) : Bool × State :=
  match s.flash.opMsSlots.filterMap id with
  | [] =>
    (true, { s with
      evr := { s.evr with opMs := 0, cycles := 0 }, flash := { s.flash with powerCycles := some 0 } })
  | l =>
    let ms := min (2 ^ 40 - 1) (l.foldl max 0 + 60000)
    let n := min (2 ^ 24 - 1) (s.flash.powerCycles.getD 0 + 1)
    (false, { s with evr := { s.evr with opMs := ms, cycles := n }, flash := { s.flash with powerCycles := some n } })

/-! ### Clearing (R481) -/

/-- The clearing master in a CLEARED record. -/
def clearCode : Sys2Proof.Master → Nat
  | .host _ => 0
  | .mgc => 1
  | .hlth => 3

/-- EVR_CLEAR with the right KEY, by the master with this code. -/
def clearRecords (who : Nat) (s : State) : State :=
  let inRam := (s.evr.ram.filter (fun e => decide (s.evr.tail ≤ e.2.seq))).map (fun e => e.2.seq)
  let inFlash := s.flash.mirror.map (·.1)
  let n := (inRam ++ inFlash.filter (fun q => !inRam.contains q)).length
  let q := s.evr.head
  let s := { s with evr := { s.evr with ram := [], lostN := 0 }, flash := { s.flash with mirror := [] } }
  let s := newRecord (evrEvent 0x01 (pack [(40, n), (8, who)])) s
  let s := { s with evr := { s.evr with tail := q, ftail := q } }
  setIrq pgEvr 0x10000 (rfSet evrStatus 0 0 1 s)

/-- A write of EVR_CLEAR: any other KEY is ignored. -/
def evrClearWrite (m : Sys2Proof.Master) (key : Nat) (s : State) : State :=
  if key = 0xC1EA then clearRecords (clearCode m) s else s

/-- ERASE_DONE. -/
def eraseDoneState (s : State) : State := rfSet evrStatus 0 0 0 s

/-! ### Reading (R478, R479) -/

/-- What a master holds before its first read. -/
def MasterView.fresh : MasterView := ⟨none, 0, [], 0, []⟩

/-- What a master holds. -/
def view (s : State) (m : Sys2Proof.Master) : MasterView := tget s.views MasterView.fresh (Master.key m)

/-- Change what a master holds. -/
def viewMod (m : Sys2Proof.Master) (f : MasterView → MasterView) (s : State) : State :=
  { s with views := tmod s.views MasterView.fresh (Master.key m) f }

/-- The 256 bits of a record (R471); an NS master reads a secure record's PAYLOAD as zero (R479). -/
def EvRec.words (r : EvRec) (secure : Bool) : List Word64 :=
  let p := if nbit r.sevWorld 7 && !secure then 0 else r.payload
  let v := pack [(40, r.seq), (40, r.opMs), (24, r.cycles), (16, r.source), (16, r.code), (8, r.sevWorld), (16, r.repeat_),
    (32, r.lastDelta), (64, p)]
  (List.range 4).map (fun i => BitVec.ofNat 64 (v >>> (64 * i)))

/-- The record that an EVR_RSEL value selects; one that is not held reads as zeros. -/
def selectedRec (s : State) (sel : Word64) : Option EvRec :=
  let q := fld sel 39 0
  if bit sel 63 then tget? s.flash.mirror q else tget? s.evr.ram (q % 16384)

/-- A 64-bit read of EVR_REC0 latches the record (R478). -/
def latchRec (m : Sys2Proof.Master) (s : State) : State :=
  let w := match selectedRec s (view s m).rsel with
    | some r => r.words (Master.secure m)
    | none => []
  viewMod m (fun v => { v with latched := w }) s

/-- The agent and entry that a CDE_SSEL value selects (R488, R490). -/
def ringKey (w : Word) : Nat := (if bit w 31 then 1 + fld w 25 16 else 0) * 256 + fld w 7 0

/-- A read of CDE_SAMPLE0 latches the entry (R488). -/
def latchSample (m : Sys2Proof.Master) (s : State) : State :=
  viewMod m (fun v => { v with sample := tget s.rings [] (ringKey v.ssel) }) s

/-! ### Snapshots (R486, R487) -/

/-- Pages with CNT_CTRL.DUMP = 1: device pages first, each group in ascending order. -/
def dumpPages (s : State) : List Page :=
  let l := (s.regs.filter (fun e => e.1 % 0x1000 == Hdr.CNT_CTRL + 4 && nbit e.2.toNat 2)).filterMap (fun e => pageAt e.1)
  l.filter (fun p => decide (devPages ≤ p.base)) ++ l.filter (fun p => decide (p.base < devPages))

/-- The 64-byte record of a page (R487). -/
def dumpRecord (s : State) (p : Page) : List Byte :=
  let c := p.base + Hdr.CNT_CTRL
  leBytes 4 (p.type * 65536 + p.inst) ++ leBytes 1 (rf s c 7 0) ++ leBytes 1 (rf s c 23 16) ++
  leBytes 1 (b2n (rf s (p.base + Hdr.POWER) 9 8 != 0)) ++ leBytes 1 0 ++ leBytes 8 (pageCycle s p) ++
  (List.range 8).flatMap (fun i => leBytes 6 (reg64 s (p.base + Hdr.CNT + 8 * i)))

/-- Write consecutive 64-byte records into the ring from byte offset `w`. -/
def ringWrite (base size : Nat) : Nat → List (List Byte) → State → Except Fail Unit × State
  | _, [], s => (.ok (), s)
  | w, r :: rest, s =>
    match physWrite .onDie true (base + w % size) r s with
    | (.error e, s) => (.error e, s)
    | (.ok _, s) => ringWrite base size (w + 64) rest s

/-- A skipped snapshot (R487). -/
def skipSnapshot (s : State) : State :=
  setIrq pgCde 0x10000 (rfAdd (pgCde.base + Reg.CDE_SKIPPED) 31 0 1 s)

/-- A failure on the ring stops the CDE in OFF (R266, R487). -/
def cdeStop (reason info : Nat) (s : State) : State :=
  reachOff pgCde (recordError pgCde reason (info % 2 ^ 32) (info / 2 ^ 32) (rfSet (pgCde.base + Hdr.CTRL) 0 0 0 s))

/-- A snapshot pulse (R486, R487). -/
def takeSnapshot (manual : Bool) (s : State) : State :=
  let b := pgCde.base
  let size := rf s (b + Reg.CDE_RING_SIZE) 31 0 / 4096 * 4096
  if !isOn s pgCde ∨ size = 0 then s
  else
    let named := dumpPages s
    let pages := named.filter (fun p => pageLive s p)
    let need := 64 * (1 + pages.length)
    let wr := rf s (b + Reg.CDE_RING_WR) 31 0 % size
    let rd := rf s (b + Reg.CDE_RING_RD) 31 0 % size
    let used := (wr + size - rd) % size
    if size < used + need then skipSnapshot s
    else
      let seq := rf s (b + Reg.CDE_SNAP_SEQ) 31 0
      let flags := b2n manual + 2 * b2n (decide (pages.length < named.length))
      let header := leBytes 2 0x0C10 ++ leBytes 2 flags ++ leBytes 4 seq ++
        leBytes 8 (s.evr.opMs % 2 ^ 40 + s.evr.cycles <<< 40) ++ leBytes 4 pages.length ++
        leBytes 4 (rf s (b + Reg.CDE_SKIPPED) 31 0) ++ leBytes 8 (pageCycle s pgCde) ++ leBytes 32 0
      let base := reg64 s (b + Reg.CDE_RING_PA) / 4096 * 4096
      match ringWrite base size wr (header :: pages.map (dumpRecord s)) s with
      | (.ok _, s) =>
        regSet (b + Reg.CDE_SNAP_SEQ) (BitVec.ofNat 32 (seq + 1))
          (regSet (b + Reg.CDE_RING_WR) (BitVec.ofNat 32 ((wr + need) % size)) s)
      | (.error e, s) => cdeStop (causeReason e.cause) e.pa s

/-- SNAPSHOT: the period expires (R486). -/
def snapshotState (s : State) : State :=
  if rf s (pgCde.base + Reg.CDE_CONFIG) 31 0 = 0 then s else takeSnapshot false s

/-- A write of CDE_CMD. -/
def cdeCmdWrite (v : Nat) (s : State) : State := if nbit v 0 then takeSnapshot true s else s

end Sys2Proof.Machine
end

