-- ==== Sys2Proof/Machine/Reset.lean ====
section
/-! DEFINITION. What resets leave (R40, R41, R47, R54, R420, R462 to R466, R477, R497): the loss of the compute domain,
device reset, standby-domain power-on, and the failure maps that start-up loads. -/

namespace Sys2Proof.Machine

/-- Pages of the standby domain (R19). -/
def standbyPage (a : Nat) : Bool :=
  (decide (pgMgc.base ≤ a) && decide (a < pgSec.base + 0x1000)) || (decide (pgEvr.base ≤ a) && decide (a < pgEvr.base + 0x1000))

/-- First address of the Vault (R36). -/
def vaultBase : Nat := 0x0202_0000_0000

/-- Pages of the compute domain whose clock is SCLK; SCLK itself runs in the standby domain. -/
def computeSclkPages : List Page := [pgPst 0, pgPst 1, pgClk 0, pgClk 1, pgHlth, pgCde]

/-- FRT_DEVID at reset (R333, R497): the straps as last sampled. -/
def resetRegs (s : State) (t : Table Word) : Table Word :=
  let id := BitVec.ofNat 32 (s.pins.boardId.toNat * 8 + s.pins.slotId.toNat)
  if id = 0 then t
  else tput (tput t ((pgFrt 0).base + Reg.FRT_DEVID) id) ((pgFrt 1).base + Reg.FRT_DEVID) id

/-- Every block of the compute domain is at reset, and main memory, CMEM and all working state are lost (R54, R464). The
standby domain, its pages and the Vault are kept. -/
def computeReset (s : State) : State :=
  let z := State.reset
  { z with
    pending := s.pending
    regs := resetRegs s (s.regs.filter (fun e => standbyPage e.1))
    mem := s.mem.filter (fun e => decide (vaultBase ≤ e.1))
    clk := { z.clk with ticks := s.clk.ticks, sclk := s.clk.sclk, msTicks := s.clk.msTicks }
    cycOff := computeSclkPages.foldl (fun t p => tput t p.base s.clk.sclk) (s.cycOff.filter (fun e => standbyPage e.1))
    cycStop := s.cycStop.filter (fun e => standbyPage e.1)
    irqSent := s.irqSent.filter (fun e => standbyPage e.1)
    softDue := s.softDue.filter standbyPage
    fuses := s.fuses
    flash := s.flash
    pins := { s.pins with ready := false, haltShareLow := false }
    views := s.views.map (fun e => (e.1, { e.2 with ssel := 0, sample := [] }))
    evq := s.evq
    evr := s.evr
    hlthSeq := s.hlthSeq
    patrolSince := s.evr.opMs
    sec := s.sec
    power := { z.power with
      rails := s.power.rails, step := s.power.step, standbyUp := s.power.standbyUp, waitPwrEn := s.power.waitPwrEn }
    sent := s.sent
    draws := s.draws }

/-- The compute rails go down (R462, R464): they return only when PWR_EN rises again. -/
def railsDown (s : State) : State :=
  let s := computeReset s
  { s with power := { s.power with rails := false, step := 0, waitPwrEn := true }, pins := { s.pins with pwrGood := false } }

/-- Straps are sampled at the rising edge of RESET_N and at standby-domain power-on (R465, R497). -/
def sampleStraps (s : State) : State :=
  { s with pins := { s.pins with boardId := s.pins.boardPin, slotId := s.pins.slotPin } }

/-- SEC and the Management Controller at a reset of their domain: a new SEC_NONCE (R425), no connection, no session, no wipe
under way, and the Alias key to be derived again (R430). -/
def secReset (s : State) : SecState :=
  { State.reset.sec with trngDraws := s.sec.trngDraws + 1, nonceId := s.sec.trngDraws, wdogAt := msNow s }

/-- What every device reset leaves (R54, R420): secure memory and keys are erased, every register is at its reset value. The
rails stay as they are. -/
def resetAll (s : State) : State :=
  let z := State.reset
  let t := computeReset (sampleStraps s)
  { t with
    regs := resetRegs t []
    mem := []
    clk := { z.clk with ticks := s.clk.ticks, msTicks := s.clk.msTicks }
    cycOff := []
    cycStop := []
    irqSent := []
    softDue := []
    views := []
    sec := secReset s
    pins := { t.pins with
      tripLatched := false, supplyFault := false, clockRed := false, fwFault := false, pwrGood := s.power.rails }
    power := { t.power with step := 0, standbyUp := false } }

/-- A device reset that keeps the standby supply (R54, R424, R460, R465, R477): the events under way are recorded and
mirrored first, OP_MS is persisted and goes on, and POWER_ON carries the cause. -/
def deviceReset (cause : Nat) (s : State) : State := powerOn cause (resetAll (persistOpMs (mirrorAll (eventRecordState s.evq.length s))))

/-- Standby-domain power-on (R463, R477, R480): what RAM and queues held is gone. -/
def standbyPowerOn (s : State) : State :=
  let s := { s with
    evr := { s.evr with ram := [], head := 0, tail := 0, lostFrom := 0, lostN := 0 }
    evq := [], hlthSeq := 0
    pins := { s.pins with vstby := true } }
  let (bad, s) := resumeTime s
  let head := match s.flash.mirror.getLast? with
    | some (q, _) => q + 1
    | none => 0
  powerOn (if bad then 0x80 else 0) (resetAll { s with evr := { s.evr with head := head } })

/-! ### Failure maps at start-up (R41, R400, R463) -/

/-- CAPS.RETIRED of the pages that the maps record. -/
def loadPages (m : FailureMaps) (s : State) : State :=
  m.pages.foldl (fun s a => rfSet (a + Hdr.CAPS) 1 1 1 s) s

/-- Colour of a unit, set without a report: it is what the maps have recorded. -/
def setColour (kind inst v : Nat) (s : State) : State :=
  { s with colours := if v = 0 then tdel s.colours (kind * 65536 + inst) else tput s.colours (kind * 65536 + inst) v }

/-- A port page that the maps retire reads Grey (R306). -/
def loadPorts (m : FailureMaps) (s : State) : State :=
  ((List.range 16).filter (fun p => m.pages.contains (pgAtp p).base)).foldl (fun s p =>
    setColour 6 p 4 (rfSet (atpReg p Reg.ATP_STATUS) 15 14 3 s)) s

/-- Bands and ACON_GEOMETRY (R118, R119). -/
def loadBands (m : FailureMaps) (s : State) : State :=
  let b := pgAcon.base
  let rows := 16 * (bitsOf 32 m.rowBands.toNat).length
  let cols := 16 * (bitsOf 32 m.colBands.toNat).length
  regSet (b + Reg.ACON_COL_BANDS) m.colBands (regSet (b + Reg.ACON_ROW_BANDS) m.rowBands
    (rfSet (b + Reg.ACON_GEOMETRY) 25 16 cols (rfSet (b + Reg.ACON_GEOMETRY) 9 0 rows s)))

/-- Core lines (R402). -/
def loadLines (m : FailureMaps) (s : State) : State :=
  let s := m.rowLines.foldl (fun s e => regSet ((pgCore e.1).base + Reg.CORE_ROW_MAP) e.2 s) s
  m.colLines.foldl (fun s e => regSet ((pgCore e.1).base + Reg.CORE_COL_MAP) e.2 s) s

/-- CORE_STATE of a cluster. -/
def loadCore (n : Nat) (s : State) : State :=
  let a := (pgCore n).base + Reg.CORE_STATE
  let c := coreColour s n
  if c = 0 ∧ reducedCheck s n = false then s
  else
    let s := if c = 4 then rfSet ((pgCore n).base + Hdr.CAPS) 1 1 1 s else s
    setColour 1 n c (rfSet a 2 0 c (rfSet a 4 4 (b2n (reducedCheck s n)) s))

/-- Banks (R155, R405). -/
def loadBanks (m : FailureMaps) (s : State) : State :=
  let s := m.banks.foldl (fun s e => byteRegSet ((pgCmem (e.1 / 32)).base + Reg.CMEM_BANK_MAP) (e.1 % 32) e.2 s) s
  m.badBanks.foldl (fun s e =>
    let s := cluMod e.1 (fun c => { c with badBanks := c.badBanks ++ [e.2] }) s
    setColour 2 e.1 (if retired s (pgVec e.1) then 4 else spareColour (clu s e.1).badBanks.length 2) s) s

/-- Lanes (R203). -/
def loadLanes (m : FailureMaps) (s : State) : State :=
  m.lanes.foldl (fun s e =>
    let b := (pgVec e.1).base
    let s := if e.2 < 64 then reg64Set (b + Reg.VEC_LANE_RETIRE_LO) (reg64 s (b + Reg.VEC_LANE_RETIRE_LO) + 2 ^ e.2) s
      else rfSet (b + Reg.VEC_LANE_RETIRE_HI) (e.2 - 64) (e.2 - 64) 1 s
    let s := cluMod e.1 (fun c => { c with badLanes := c.badLanes ++ [e.2] }) s
    setColour 3 e.1 (if retired s (pgVec e.1) then 4 else spareColour (clu s e.1).badLanes.length 4) s) s

/-- Groups and members (R252, R253, R262): the memory map is laid out with the retired groups left out. -/
def loadMemory (m : FailureMaps) (s : State) : State :=
  let b := (pgMemc 0).base
  let r := m.groups.length
  let s := m.members.foldl (fun s e =>
    let a := cgmState e.1
    let s := if rf s a 15 12 = 15 then rfSet a 15 12 e.2 s else rfSet a 19 16 e.2 s
    setColour 5 e.1 (if rf s a 19 16 = 15 then 1 else 3) (rfSet a 1 0 (if rf s a 19 16 = 15 then 1 else 2) s)) s
  if r = 0 then s
  else
    let s := m.groups.foldl (fun s g =>
      let s := [g, g + 32].foldl (fun s w => byteRegSet (b + Reg.MEMC_WAYMAP) w (wayMap s w % 128 + 128) s) s
      setColour 5 g 4 (rfSet ((pgCgm g).base + Hdr.CAPS) 1 1 1 (rfSet (cgmState g) 1 0 3 s))) s
    rfSet (b + Reg.MEMC_MAP_STATE) 3 0 r (reg64Set (b + Reg.MEMC_TOP) ((32 - r) * (24 * 2 ^ 30)) s)

/-- Movers (R282). -/
def loadMovers (m : FailureMaps) (s : State) : State :=
  m.moverMap.foldl (fun s e => setColour 4 e.1 1 s) { s with movers := m.moverMap, badMovers := m.badMovers }

/-- The Health Manager reloads the failure maps, before READY (R41). -/
def loadMaps (s : State) : State :=
  let m := s.flash.maps
  let s := loadMovers m (loadMemory m (loadLanes m (loadBanks m (loadLines m (loadBands m (loadPorts m (loadPages m s)))))))
  let marked := (m.rowLines.map (·.1) ++ m.colLines.map (·.1)).eraseDups
  let all : Bool := m.rowBands == 0xFFFFFFFF && m.colBands == 0xFFFFFFFF
  (if all then marked else List.range 1024).foldl (fun s n => loadCore n s) s

end Sys2Proof.Machine
end

