-- ==== Sys2Proof/Machine/Xlat.lean ====
section
/-! DEFINITION. The translation cache and its invalidation (R274 to R276), and writes of the protected regions (R277 to R280). -/

namespace Sys2Proof.Machine

/-- PAGE_WALK (R271 to R274): a miss of context c is walked, and a leaf that is found is cached.
The direction and the kind of the access are judged when the access uses the leaf (R273). -/
def pageWalkState (c va : Nat) (s : State) : State :=
  if !xlatOn s || (tlbHit s c va).isSome then s
  else
    (missWalk c va s).2

/-- XLAT_INVAL_CMD. -/
def invalReg : Nat := pgXlat.base + Reg.XLAT_INVAL_CMD

/-- Begin an invalidation (R275). -/
def invalBegin (x : Inval) (s : State) : State :=
  if rf s invalReg 31 31 = 1 then recordError pgXlat 0x20 0 0 s
  else rfSet invalReg 31 31 1 { s with inval := some x }

/-- The range registers: first address and units of 64 KiB, 0 treated as 1 (R276). -/
def invalRangeOf (s : State) (c : Nat) : Inval :=
  let va := reg64 s (pgXlat.base + Reg.XLAT_INVAL_VA) % 2 ^ 48 / 2 ^ 16 * 2 ^ 16
  let n := rf s (pgXlat.base + Reg.XLAT_INVAL_LEN) 31 0
  .range c va (if n = 0 then 1 else n)

/-- A write to XLAT_INVAL_CMD (R276). -/
def invalWrite (v : Nat) (s : State) : State :=
  match nfld v 1 0 with
  | 1 => invalBegin .all s
  | 2 => invalBegin (.context (nfld v 6 4)) s
  | 3 => invalBegin (invalRangeOf s (nfld v 6 4)) s
  | _ => s

/-- Whether an invalidation drops an entry: a RANGE drops every page that overlaps it. -/
def drops (x : Inval) (e : TlbEntry) : Bool :=
  match x with
  | .all => true
  | .context c => e.ctx == c
  | .range c va n => e.ctx == c && decide (e.va < va + n * 65536) && decide (va < e.va + e.size)

/-- INVAL_DONE (R275). -/
def invalDoneState (s : State) : State :=
  match s.inval with
  | none => s
  | some x =>
    let s := setFill { s with xlat := s.xlat.filter (fun e => !drops x e), inval := none }
    setIrq pgXlat 0x10000 (rfSet invalReg 31 31 0 s)

/-- A write to RPT_REGION i (R278, R280): reserved bits read 0; LOCK freezes the regions (R12). -/
def regionWrite (i v : Nat) (s : State) : State :=
  if locked s pgRpt then s else reg64Set (pgRpt.base + Reg.RPT_REGION + 8 * i) (nset v 9 6 0) s

end Sys2Proof.Machine
end

