-- ==== Sys2Proof/Machine/Power.lean ====
section
/-! DEFINITION. The Power Steward (R441 to R455), the clock units (R456 to R460), supplies and the power-up sequence
(R461 to R467), and the module's output pins (R412, R498, R499). -/

namespace Sys2Proof.Machine

/-! ### Registers -/

/-- A PST register, held at instance 0 (R468). -/
def pstReg (r : Nat) : Nat := (pgPst 0).base + r

/-- A PST_STATUS bit: 0 THROTTLED, 1 UNMET, 2 THERMAL, 3 PATROL_REFUSED. -/
def pstBit (s : State) (i : Nat) : Bool := rf s (pstReg Reg.PST_STATUS) i i == 1
def pstBitSet (i : Nat) (v : Bool) (s : State) : State := rfSet (pstReg Reg.PST_STATUS) i i (b2n v) s

/-- THROTTLE_PCT: values outside 10 to 50 are treated as 50 (R468). -/
def throttlePct (s : State) : Nat :=
  let v := rf s (pstReg Reg.PST_BUDGET) 23 16
  if 10 ≤ v ∧ v ≤ 50 then v else 50

/-- BUDGET_W. -/
def budgetW (s : State) : Nat := rf s (pstReg Reg.PST_BUDGET) 11 0

/-- A stored budget (R443). -/
def clampBudget (w : Nat) : Nat := min 2400 (max 600 w)

/-- Store a new budget; the setter in the event has no encoding (log entry 5). -/
def budgetStore (w : Nat) (s : State) : State :=
  let s := rfSet (pstReg Reg.PST_BUDGET) 11 0 (clampBudget w) s
  let (v, s) := draw s
  emitFields (pgPst 0) 0x01 [(12, clampBudget w), (16, v)] s

/-- BUDGET_SET (R443): the BMC sets the budget. -/
def budgetSetState (watts : Nat) (s : State) : State := if s.power.rails then budgetStore watts s else s

/-! ### Clocks (R447, R448, R452, R456, R460) -/

/-- Floors of ACLK and ECLK in steps of 12.5 MHz. -/
def floorA : Nat := 24
def floorE : Nat := 30

/-- The lowest ECLK step that R447 allows at ACLK step a. -/
def eFloor (a : Nat) : Nat := max floorE (ceilDiv (17 * a) 16)

/-- A field of CLK_PLL of instance i: domain d, bit 0 ACTIVE, 1 A_FAILED, 2 B_FAILED, 3 ON_STANDBY. -/
def pllBit (s : State) (i d k : Nat) : Bool := rf s ((pgClk i).base + Reg.CLK_PLL) (4 * d + k) (4 * d + k) == 1
def pllBitSet (i d k : Nat) (v : Bool) (s : State) : State :=
  rfSet ((pgClk i).base + Reg.CLK_PLL) (4 * d + k) (4 * d + k) (b2n v) s

/-- ACLK (domain 0) or ECLK (domain 1) has lost a PLL and so has no standby (R453). -/
def singlePll (s : State) (d : Nat) : Bool := [0, 1].any (fun i => pllBit s i d 1 || pllBit s i d 2)

/-- ON_STANDBY of ACLK or ECLK, on both I/O dies: all compute dies share one frequency (R456). -/
def standbySet (d : Nat) (v : Bool) (s : State) : State := pllBitSet 0 d 3 v (pllBitSet 1 d 3 v s)

/-- The domain runs from its standby PLL. -/
def onStandby (s : State) (d : Nat) : Bool := pllBit s 0 d 3

/-- PST_FREQ shows the frequencies that the domains run at now. -/
def showFreq (s : State) : State :=
  let a := if onStandby s 0 then floorA else s.power.pllA
  let e := if onStandby s 1 then floorE else s.power.pllE
  rfSet (pstReg Reg.PST_FREQ) 15 8 e (rfSet (pstReg Reg.PST_FREQ) 7 0 a s)

/-- Put ACLK and ECLK on their floors: from the standby PLLs, or by slewing a domain that has none (R452, R453, R459). -/
def toFloors (s : State) : State :=
  let s := if singlePll s 0 then { s with power := { s.power with wantA := floorA } } else standbySet 0 true s
  let s := if singlePll s 1 then { s with power := { s.power with wantE := floorE } } else standbySet 1 true s
  showFreq { s with power := { s.power with awaitGrant := true } }

/-- A domain returns from its standby PLL once the active PLL stands at its grant (R452). -/
def leaveStandby (s : State) : State :=
  if s.power.floorHold || s.power.awaitGrant then s
  else
    let s := if onStandby s 0 && s.power.pllA == s.power.wantA then standbySet 0 false s else s
    if onStandby s 1 && s.power.pllE == s.power.wantE then standbySet 1 false s else s

/-- One step of ACLK toward its target, unless it would break the ratio of R447. -/
def stepA (s : State) : State :=
  let p := s.power
  if p.wantA < p.pllA then { s with power := { p with pllA := p.pllA - 1 } }
  else if p.pllA < p.wantA ∧ eFloor (p.pllA + 1) ≤ p.pllE then { s with power := { p with pllA := p.pllA + 1 } }
  else s

/-- One step of ECLK toward its target, unless it would break the ratio of R447. -/
def stepE (s : State) : State :=
  let p := s.power
  if p.wantE < p.pllE ∧ eFloor p.pllA ≤ p.pllE - 1 then { s with power := { p with pllE := p.pllE - 1 } }
  else if p.pllE < p.wantE then { s with power := { p with pllE := p.pllE + 1 } }
  else s

/-- SLEW_STEP (R448): 64 SCLK pass. Falling, ACLK steps first; rising, ECLK steps first. -/
def slewStepState (s : State) : State :=
  if !s.power.rails then s
  else
    let s := if s.power.wantA < s.power.pllA then stepE (stepA s) else stepA (stepE s)
    showFreq (leaveStandby s)

/-- ROW_UNGATE (R451): the next cluster row gets ACLK. -/
def rowUngateState (s : State) : State :=
  if s.power.rails && decide (s.power.rowsOn < 32) then { s with power := { s.power with rowsOn := s.power.rowsOn + 1 } } else s

/-! ### Grants (R442 to R446, R450, R452, R454) -/

/-- The highest step from `hi` down to `lo` that passes, or `lo`. -/
def highest (ok : Nat → Bool) (lo : Nat) : Nat → Nat
  | 0 => lo
  | hi + 1 => if hi + 1 ≤ lo then lo else if ok (hi + 1) then hi + 1 else highest ok lo hi

/-- The grants of one period (R444). -/
structure Grants where
  fabric : Int
  host   : Int
  a      : Nat
  e      : Nat
  patrol : Nat
deriving DecidableEq, Repr

/-- Array and engine draw at a step (R444). -/
def arrDraw (req a : Nat) : Nat := ceilDiv (req * a) 96
def engDraw (req e : Nat) : Nat := ceilDiv (req * e) 120

/-- The arbiter's computation (R444) over the requests of groups 0 to 6, the floors of groups 2 and 3, and the budget in W. -/
def computeGrants (budget : Int) (req : List Nat) (floor2 floor3 : Nat) : Grants :=
  let r (g : Nat) : Nat := lget req g 0
  let avail := 4 * budget - r 0 - r 1
  let g2 := min (r 2 : Int) (max avail floor2)
  let avail := avail - g2
  let g3 := min (r 3 : Int) (max avail floor3)
  let avail := avail - g3
  let a := highest (fun a => decide ((arrDraw (r 4) a + engDraw (r 5) (eFloor a) : Int) ≤ avail)) floorA 96
  let e := highest (fun e => decide ((engDraw (r 5) e : Int) ≤ avail - arrDraw (r 4) a)) (eFloor a) 120
  let avail := avail - arrDraw (r 4) a - engDraw (r 5) e
  ⟨g2, g3, a, e, if (r 6 : Int) ≤ avail then r 6 else 0⟩

/-- The requests of groups 0 to 6 (R442, R450). A share that is no whole number of credits is rounded up (log entry 52). -/
def requests (s : State) (x : Sys2Proof.PowerSample) : List Nat :=
  let cls := if (running s).isSome then s.power.pclassNow else 0
  let eng := ceilDiv (rf s (pstReg Reg.PST_ENG) 15 0 * x.engBusy) (max 1 x.engCycles)
  [x.base, x.refresh, x.fabric, x.hostReq, rf s (pstReg Reg.PST_PCLASS + 4 * cls) 15 0, eng,
   if x.patrol then rf s (pstReg Reg.PST_ENG) 31 16 else 0]

/-- TJ_LIMIT: a value above 105 is treated as 105 (R454). -/
def tjLimit (s : State) : Nat := min 105 (rf s (pstReg Reg.PST_TJ) 15 8)

/-- The thermal correction of one period (R454). -/
def thermal (x : Sys2Proof.PowerSample) (s : State) : State :=
  let s := rfSet (pstReg Reg.PST_TJ) 7 0 (wrapInt 8 x.tjMax) s
  let lim : Int := tjLimit s
  let hot : Bool := decide (lim < x.tjMax)
  let s :=
    if hot && !pstBit s 2 then setIrq (pgPst 0) 0x40000 (emitOpen (pgPst 0) 0x05 s) else s
  let s := pstBitSet 2 hot s
  if !x.newMs then s
  else if hot then { s with power := { s.power with thermalCut := min 16 (s.power.thermalCut + 1) } }
  else if x.tjMax ≤ lim - 3 then { s with power := { s.power with thermalCut := s.power.thermalCut - 1 } }
  else s

/-- The budget in W that a period's grants are computed on (R444, R452, R454): less the guard band, the last millisecond's excess
and the thermal correction; THROTTLE_PCT of it while THROTTLED. -/
def effectiveBudget (s : State) : Int :=
  let b := budgetW s
  let share := if pstBit s 0 then b * throttlePct s / 100 else b
  let excess := rf s (pstReg Reg.PST_MEASURED) 11 0 - b
  (share : Int) - (b * s.power.thermalCut / 16 : Nat) - rf s (pstReg Reg.PST_BUDGET) 31 24 - (excess : Nat)

/-- A PST_GRANT register. -/
def setGrant (g req : Nat) (grant : Int) (s : State) : State :=
  regSet (pstReg Reg.PST_GRANT + 4 * g) (BitVec.ofNat 32 (min req 65535 * 65536 + min grant.toNat 65535)) s

/-- A grant as a cap in 64ths of the request, rounded down (R444). -/
def capOf (req : Nat) (grant : Int) : Nat := if req = 0 then 64 else grant.toNat * 64 / req

/-- The sum of every group's floor (R442, R445). -/
def floorSum (req : List Nat) (floor2 floor3 : Nat) : Nat :=
  lget req 0 0 + lget req 1 0 + min (lget req 2 0) floor2 + min (lget req 3 0) floor3 +
    arrDraw (lget req 4 0) floorA + engDraw (lget req 5 0) (eFloor floorA)

/-- GRANT_PERIOD (R441 to R446). While THROTTLED the grants are those of THROTTLE_PCT % of the budget, and from the next period
boundary on they take the place of the caps that the throttle's start set (R452). -/
def grantPeriodState (x : Sys2Proof.PowerSample) (s : State) : State :=
  if !s.power.rails then s
  else
    let s := if x.newMs then rfSet (pstReg Reg.PST_MEASURED) 11 0 x.measuredW s else s
    let s := thermal x s
    let req := requests s x
    let budget := effectiveBudget s
    let g := computeGrants budget req x.fabricMin x.hostMin
    let s := ([(0, ((lget req 0 0 : Nat) : Int)), (1, ((lget req 1 0 : Nat) : Int)), (2, g.fabric), (3, g.host),
        (4, ((arrDraw (lget req 4 0) g.a : Nat) : Int)), (5, ((engDraw (lget req 5 0) g.e : Nat) : Int)), (6, (g.patrol : Int))]).foldl
      (fun s e => setGrant e.1 (lget req e.1 0) e.2 s) s
    let unmet : Bool := decide (4 * budget < floorSum req x.fabricMin x.hostMin)
    let s := if unmet && !pstBit s 1 then
        setIrq (pgPst 0) 0x20000 (emitFields (pgPst 0) 0x04
          [(32, floorSum req x.fabricMin x.hostMin), (32, (4 * budget).toNat)] s)
      else s
    let s := pstBitSet 1 unmet (pstBitSet 3 (decide (g.patrol < lget req 6 0)) s)
    let s := { s with power := { s.power with
      fabricCap := capOf (lget req 2 0) g.fabric
      hostCap := capOf (lget req 3 0) g.host
      awaitGrant := false
      wantA := if s.power.floorHold then s.power.wantA else g.a
      wantE := if s.power.floorHold then s.power.wantE else g.e } }
    showFreq (leaveStandby s)

/-! ### THROTTLE_N (R452, R453, R466) -/

/-- THROTTLE_N: the pin has been low for 100 ns. -/
def throttleNState (s : State) : State :=
  if !s.power.rails || s.pins.throttleLow then s
  else
    let s := { s with pins := { s.pins with throttleLow := true } }
    let s := setIrq (pgPst 0) 0x10000 (emitFields (pgPst 0) 0x02 [(8, rf s (pstReg Reg.PST_BUDGET) 23 16)] s)
    let s := pstBitSet 3 true (pstBitSet 0 true s)
    toFloors { s with power := { s.power with throttledAt := s.clk.sclk, fabricCap := 1, hostCap := 1 } }

/-- THROTTLE_RELEASE: the pin has been high for 10 µs. -/
def throttleReleaseState (s : State) : State :=
  if !s.pins.throttleLow then s
  else
    let s := { s with pins := { s.pins with throttleLow := false } }
    if !pstBit s 0 then s
    else
      let us := (s.clk.sclk - s.power.throttledAt) / 800
      emitFields (pgPst 0) 0x03 [(32, us)] (pstBitSet 0 false s)

/-! ### Thermal trip (R455, R466) -/

/-- THERMTRIP. The payload's fields have no width in the spec (log entry 5). -/
def thermtripState (s : State) : State :=
  if !s.power.rails then s
  else
    let s := railsDown (emitOpen (pgPst 0) 0x06 s)
    { s with pins := { s.pins with tripLatched := true } }

/-! ### The core reference (R457 to R459) -/

/-- CLK_STATUS of instance i. -/
def clkStatus (i : Nat) : Nat := (pgClk i).base + Reg.CLK_STATUS

/-- The selected reference is lost (R459). -/
def loseReference (i source : Nat) (s : State) : State :=
  let s := rfSet (clkStatus i) 3 3 1 (rfSet (clkStatus i) 2 0 0 (rfSet (clkStatus i) 6 6 0 s))
  let s := setIrq (pgClk i) 0x10000 (emitFields (pgClk i) 0x10 [(3, source)] s)
  if i = 0 then
    let p := s.power
    toFloors { s with power := { p with floorHold := true, wantA := p.pllA, wantE := p.pllE } }
  else s

/-- REF_LOST: the named source is the one selected. -/
def refLostState (i source : Nat) (s : State) : State :=
  if !s.power.rails || source = 0 || rf s (clkStatus i) 2 0 ≠ (if i = 1 then 3 else source) then s
  else
    let s := { s with power := { s.power with refOk := lset s.power.refOk (2 * i + (if source = 2 then 0 else 1)) 0 } }
    loseReference i source s

/-- A measurement lies within ±200 ppm, inclusive (R458). -/
def inRange (m : Option Int) : Bool :=
  match m with
  | some d => decide (-200 ≤ d) && decide (d ≤ 200)
  | none => false

/-- REF_CHECK: a 1 ms window ends (R457, R458). Instance 1 runs from the reference that X0 forwards. -/
def refCheckState (i : Nat) (x : Sys2Proof.RefSample) (s : State) : State :=
  if !s.power.rails then s
  else
    let ok := s.power.refOk
    let hasLink : Bool := rf s ((pgClk i).base + Reg.CLK_REF_SEL) 7 0 != 0xFF
    let count (k : Nat) (good : Bool) : Nat := if good then min 8 (lget ok (2 * i + k) 0 + 1) else 0
    let nl := count 0 (hasLink && inRange x.link)
    let nr := count 1 (inRange x.refclk)
    let s := { s with power := { s.power with refOk := lset (lset ok (2 * i) nl) (2 * i + 1) nr } }
    let s := rfSet (clkStatus i) 5 5 (b2n (nl == 8)) (rfSet (clkStatus i) 4 4 (b2n (nr == 8)) s)
    let was := rf s (clkStatus i) 2 0
    if i = 1 then rfSet (clkStatus i) 11 8 nr (rfSet (clkStatus i) 2 0 3 s)
    else if (was = 2 ∧ nl < 8) ∨ (was = 1 ∧ nr < 8) then loseReference i was s
    else
      let best := if nl = 8 then 2 else if nr = 8 then 1 else 0
      let waiting := if best = 2 then 0 else if best = 1 then nl else max nl nr
      let s := rfSet (clkStatus i) 11 8 waiting (rfSet (clkStatus i) 6 6 (b2n (best != 0)) (rfSet (clkStatus i) 2 0 best s))
      if best = was ∨ best = 0 then s
      else
        let s := setIrq (pgClk i) 0x10000 (emitFields (pgClk i) 0x11 [(3, best)] s)
        { s with power := { s.power with floorHold := false, awaitGrant := true } }

/-! ### PLLs (R460, R466) -/

/-- Number of a clock domain in CLK_PLL (R469). -/
def domainNo : Sys2Proof.ClkDomain → Nat
  | .aclk => 0
  | .eclk => 1
  | .nclk => 2
  | .mclk => 3
  | .hclk => 4
  | .sclk => 5

/-- Both PLLs of a domain have failed (R460). -/
def domainRed (i : Nat) (d : Sys2Proof.ClkDomain) (s : State) : State :=
  let s := rfSet (pgHlth.base + Reg.HLTH_ALERT) 8 8 1 (emitOpen (pgClk i) 0x14 s)
  let s := if d = .sclk then deviceReset 2 s else s
  let s := railsDown s
  { s with pins := { s.pins with clockRed := true } }

/-- PLL_FAILED (R460): a failed PLL that was active gives way to the other, ACLK and ECLK at the floor. A domain that the die
does not generate has none. The unit of a colour is numbered 6 × instance + domain (log entry 53). -/
def pllFailedState (i : Nat) (d : Sys2Proof.ClkDomain) (pllB : Bool) (s : State) : State :=
  let n := domainNo d
  let k := if pllB then 2 else 1
  if !s.power.rails || (i == 1 && d == .sclk) || pllBit s i n k then s
  else
    let both := pllBit s i n (3 - k)
    let active : Bool := pllBit s i n 0 == pllB
    let s := setIrq (pgClk i) 0x20000 (emitOpen (pgClk i) 0x12 (pllBitSet i n k true s))
    let s := colourChange 8 (6 * i + n) (if both then 1 else 0) (if both then 3 else 1) 0x0A12 s
    if both then domainRed i d s
    else
      let standby := pllBit s i n 3
      if n < 2 then
        -- on the standby PLL the domain stays there, and the standby becomes its only PLL (R466)
        let s := standbySet n false s
        let s := if active then pllBitSet i n 0 (!pllB) s else s
        let hold := s.power.floorHold
        let s :=
          if !(active || standby) then s
          else if n = 0 then { s with power := { s.power with pllA := floorA, wantA := if hold then floorA else s.power.wantA } }
          else { s with power := { s.power with pllE := floorE, wantE := if hold then floorE else s.power.wantE } }
        showFreq s
      else if active then pllBitSet i n 0 (!pllB) s
      else s

/-! ### Images at start-up (R426 to R430, R435) -/

/-- The step of R427 at which an image fails; 0 when it verifies. The life-cycle state relaxes the steps as R424 says. -/
def imageFailure (s : State) (cls : Nat) (m : Sys2Proof.ImageCheck) : Nat :=
  let lc := s.fuses.lifecycle
  if !m.header then 1
  else if !m.digest then 2
  else if lc = 0 ∧ (m.ecdsa || m.hss) = true then (if m.svn < lget s.fuses.svn (cls - 1) 0 then 5 else 0)
  else if !m.ecdsa then 3
  else if !m.hss then 4
  else if lc ≠ 3 ∧ m.svn < lget s.fuses.svn (cls - 1) 0 then 5
  else 0

/-- Events of a failed image (R427, R429). -/
def imageEvents (cls set fail : Nat) (m : Sys2Proof.ImageCheck) (s : State) : State :=
  if fail = 0 then s
  else
    let s := emitFields pgSec 0x02 [(16, cls), (1, set), (3, fail)] s
    if fail = 5 then emitFields pgSec 0x03 [(16, cls), (1, set), (32, m.svn)] s else s

/-- An image that a flash set does not hold. -/
def noImage : Sys2Proof.ImageCheck := ⟨false, false, false, false, 0, 0⟩

/-- Verify one class in both sets (R427 to R429): SEC_BOOT, the events, the SVN counter, and the image used. -/
def verifyClass (cls : Nat) (r : Sys2Proof.StepResult) (s : State) : Option Sys2Proof.ImageCheck × State :=
  let a := lget r.setA (cls - 1) noImage
  let b := lget r.setB (cls - 1) noImage
  let fa := imageFailure s cls a
  let fb := imageFailure s cls b
  let s := imageEvents cls 1 fb b (imageEvents cls 0 fa a s)
  if fa ≠ 0 ∧ fb ≠ 0 then (none, s)
  else
    let used := if fa = 0 then 0 else 1
    let other := if fa = 0 then b2n (fb != 0) else 1
    let lo := 2 * (cls - 1)
    let s := rfSet (pgSec.base + Reg.SEC_BOOT) (lo + 1) lo (used + 2 * other) s
    let low := min a.svn b.svn
    let s :=
      if fa = 0 ∧ fb = 0 ∧ lget s.fuses.svn (cls - 1) 0 < low then
        let v := min low 64
        emitFields pgSec 0x0A [(16, cls), (7, v)] { s with fuses := { s.fuses with svn := lset s.fuses.svn (cls - 1) v } }
      else s
    let img := if fa = 0 then a else b
    let l := (List.range 4).map (fun k => if k = cls - 1 then (img.hash, img.svn) else lget s.sec.images k (0, 0))
    (some img, { s with sec := { s.sec with images := l } })

/-- Fuse t + 1 of the LMS tree field (R435). -/
def advanceTree (cause : Nat) (s : State) : State :=
  let t := s.fuses.lmsTree
  if 1024 ≤ t then s
  else
    let s := { s with fuses := { s.fuses with lmsTree := t + 1 }, flash := { s.flash with journal := s.flash.journal.map (fun _ => (t, 0)) } }
    emitFields pgSec 0x08 [(10, t), (8, cause)] s

/-- LMS state at boot (R435): without a valid record of the current tree, the next tree is taken. -/
def lmsBoot (s : State) : State :=
  if s.fuses.lmsTree = 0 then s
  else if s.flash.journal.any (fun e => e.1 + 1 == s.fuses.lmsTree) then s
  else advanceTree 1 s

/-- Step 0 ends: the ROM has verified the firmware and derived the identity (R427, R428, R430). In SCRAPPED the ROM verifies no
image and halts. -/
def bootRom (r : Sys2Proof.StepResult) (s : State) : State :=
  if s.fuses.lifecycle = 4 then s
  else
    match verifyClass 1 r s with
    | (none, s) => { s with sec := { s.sec with recovery := true }, pins := { s.pins with fwFault := true } }
    | (some img, s) =>
      let key : Bool := s.fuses.lifecycle == 1 || s.fuses.lifecycle == 2
      let s := if key then
          { s with sec := { s.sec with
            aliasId := Config.aliasKey (Config.trng (s.fuses.uds.getD 0)) img.hash img.svn s.fuses.lifecycle
            aliasHash := img.hash, aliasSvn := img.svn } }
        else s
      let s := lmsBoot s
      { s with power := { s.power with standbyUp := true }, sec := { s.sec with wdogAt := msNow s } }

/-! ### The power-up sequence (R462, R463) -/

/-- Everything that the compute domain needs is present (R462). The life-cycle state SCRAPPED never enables the rails (R424). -/
def supplied (s : State) : Bool :=
  s.pins.vstby && s.pins.vmain && s.pins.pwrEn && !s.power.waitPwrEn && s.fuses.lifecycle != 4

/-- Go to a step of R463. PWR_GOOD is low until step 2 ends (R499). -/
def enterStep (k : Nat) (s : State) : State := { s with power := { s.power with step := k } }

/-- Step 1 is shown as begun once step 0 has ended and the conditions hold (log entry 51). -/
def beginSequence (s : State) : State :=
  if s.power.standbyUp && supplied s && s.power.step == 0 then
    let s := enterStep 1 s
    { s with pins := { s.pins with pwrGood := false } }
  else s

/-- A failure in step 2 or 3 (R463): READY is not asserted. -/
def supplyFailed (s : State) : State :=
  let s := emitOpen (pgPst 0) 0x07 s
  let s := railsDown s
  { s with pins := { s.pins with supplyFault := true } }

/-- RPT region 0 over the host mailbox (R432): NS, classes HOST and MGMT, every direction allowed. -/
def mailboxRegion : Nat := 1 + 4 + 8 + 16 + 32 + 2 ^ 12 + 2 ^ 13

/-- Step 5 ends (R428, R429, R432): firmware has verified classes 2 to 4. -/
def bootFirmware (r : Sys2Proof.StepResult) (s : State) : Bool × State :=
  let (ok, s) := [2, 3, 4].foldl (fun (x : Bool × State) cls =>
    let (img, s) := verifyClass cls r x.2
    (x.1 && img.isSome, s)) (true, s)
  let s := regionWrite 0 mailboxRegion s
  if !ok then (false, s)
  else
    let svns := (List.range 4).map (fun k => (7, (lget s.sec.images k (0, 0)).2))
    (true, emitFields pgSec 0x01 ((8, rf s (pgSec.base + Reg.SEC_BOOT) 7 0) :: svns) s)

/-- Structural scan at start-up (R400): each mismatch fails its unit. -/
def scanResults (l : List (Sys2Proof.Cluster × Sys2Proof.Unit3 × Nat)) (s : State) : State :=
  l.foldl (fun s e => failUnit e.1.val e.2.1 (emitOpen pgHlth 0x0A (alert 3 s))) s

/-- A cluster is Red: HLTH recovers it at a reset by a scan (R400). -/
def redCluster (s : State) : Bool := s.colours.any (fun e => e.1 / 65536 == 1 && e.2 == 3)

/-- POWER_UP_STEP_DONE (R463): step 0 of the standby domain ends, or the step of the compute domain that is in progress; step 4 waits
for both. Step 1 is in progress once everything is supplied (log entry 51). -/
def powerUpStepState (r : Sys2Proof.StepResult) (s : State) : State :=
  if !s.pins.vstby then s
  else if r.standby then
    (if s.power.standbyUp || s.sec.recovery then s else beginSequence (bootRom r s))
  else
    match s.power.step with
    | 0 => if supplied s then { enterStep 2 s with pins := { s.pins with pwrGood := false } } else s
    | 1 => enterStep 2 s
    | 2 =>
      if r.ok then
        let s := enterStep 3 s
        { s with power := { s.power with rails := true, rowsOn := 0 }, pins := { s.pins with pwrGood := true } }
      else supplyFailed s
    | 3 =>
      if !r.ok then supplyFailed s
      else if s.power.rowsOn < 32 || !s.power.standbyUp then s
      else enterStep 4 s
    | 4 => enterStep 5 (r.failTrain.foldl (fun s e => memberFail e.1.val e.2.val 0 s) (loadMaps s))
    | 5 =>
      (match bootFirmware r s with
       | (true, s) => enterStep (if r.scanWanted || redCluster s then 6 else 7) s
       | (false, s) => enterStep 9 s)
    | 6 => enterStep 7 (scanResults r.scanFails s)
    | 7 =>
      let s := enterStep 8 s
      { s with pins := { s.pins with ready := true } }
    | _ => s

/-- VSTBY_ON (R463). -/
def vstbyOnState (s : State) : State := if s.pins.vstby then s else standbyPowerOn s

/-- VSTBY_LOSS (R464): the rails go down, then the standby domain. -/
def vstbyLossState (s : State) : State :=
  if !s.pins.vstby then s
  else
    let s := resetAll (railsDown s)
    { s with
      pins := { s.pins with vstby := false, pwrGood := false }
      power := { s.power with rails := false, waitPwrEn := false } }

/-- PWR_EN_RISE (R462, R463): VSTBY, VMAIN and PWR_EN are all present. A latched trip waits for a device reset first (R455). -/
def pwrEnRiseState (s : State) : State :=
  if !s.pins.vstby || (s.power.rails && !s.power.waitPwrEn) then s
  else
    let s := { s with pins := { s.pins with vmain := true, pwrEn := true } }
    if s.pins.tripLatched then s
    else beginSequence { computeReset s with power := { (computeReset s).power with waitPwrEn := false, step := 0 } }

/-- PWR_EN_FALL (R464). -/
def pwrEnFallState (s : State) : State :=
  if !s.pins.pwrEn then s
  else
    let s := railsDown s
    { s with pins := { s.pins with pwrEn := false, supplyFault := false } }

/-- VMAIN_FAULT (R464): VMAIN outside its range while PWR_EN is high. -/
def vmainFaultState (s : State) : State :=
  if !s.pins.pwrEn || !s.pins.vmain then s
  else
    let s := railsDown (emitOpen (pgPst 0) 0x07 s)
    { s with pins := { s.pins with vmain := false, supplyFault := true } }

/-- RESET_N (R465). -/
def resetNState (s : State) : State := if s.pins.vstby then deviceReset 1 s else s

/-! ### Output pins (R412, R467, R498, R499): true is low for the active-low pins -/

/-- FAULT_N is driven low. -/
def faultLow (s : State) : Bool :=
  s.pins.vstby &&
  (s.pins.tripLatched || s.pins.supplyFault || s.pins.clockRed || s.pins.fwFault ||
   rf s (pgSec.base + Reg.SEC_TAMPER_STATUS) 31 31 == 1 ||
   (s.power.rails && rf s (pgHlth.base + Reg.HLTH_ALERT) 8 8 == 1))

/-- ALERT_N is driven low: a W1C bit of HLTH_ALERT is set. -/
def alertPinLow (s : State) : Bool :=
  s.pins.vstby && s.power.rails && rf s (pgHlth.base + Reg.HLTH_ALERT) 4 0 != 0

/-- THERMTRIP_N is driven low. -/
def thermtripLow (s : State) : Bool := s.pins.vstby && s.pins.tripLatched

/-- READY and PWR_GOOD are high. -/
def readyHigh (s : State) : Bool := s.pins.vstby && s.pins.ready
def pwrGoodHigh (s : State) : Bool := s.pins.vstby && s.pins.pwrGood

/-- The module's I3C static address (R497); it answers from the end of step 0 (R499). -/
def i3cAddress (s : State) : Nat := 0x30 + s.pins.slotId.toNat
def i3cAnswers (s : State) : Bool := s.pins.vstby && s.power.standbyUp

/-- DBG_UART is locked (R424): TX idles high and RX is ignored. -/
def uartLocked (s : State) : Bool := s.fuses.lifecycle == 2 || s.fuses.lifecycle == 4

end Sys2Proof.Machine
end

