-- ==== Sys2Proof/Machine/Skeep.lean ====
section
/-! DEFINITION. The Scale Keeper (R226 to R238, R245, R246): the entry window, absorption of statistics, the choice of
scales, thresholds, corrections, folds and rollbacks, and the commands of its page. -/

namespace Sys2Proof.Machine

/-- The half that holds entry i. -/
def skPage (i : Nat) : Page := pgSkeep (i / 8192)

/-- Replace entry i; SKEEP_COLD counts the COLD entries of the half. -/
def skPut (i : Nat) (e : SkEntry) (s : State) : State :=
  let old := (sk s i).cold
  let a := (skPage i).base + Reg.SKEEP_COLD
  let s := { s with skeep := tput s.skeep i e }
  if old == e.cold then s else rfSet a 13 0 (rf s a 13 0 + b2n e.cold - b2n old) s

/-- Change entry i. -/
def skMod (i : Nat) (f : SkEntry → SkEntry) (s : State) : State := skPut i (f (sk s i)) s

/-- The listed entries of a half. -/
def skHalf (s : State) (inst : Nat) : List Nat := (s.skeep.filter (fun e => e.1 / 8192 == inst)).map (·.1)

/-- The listed entries of a context. -/
def skOf (s : State) (c : Nat) : List Nat := (s.skeep.filter (fun e => e.2.ctx == c)).map (·.1)

/-- STEP of the working part: the owning context's last committed epoch plus 1 (R227). -/
def skStep (s : State) (e : SkEntry) : Nat := (ctxEpoch s e.ctx + 1) % 2 ^ 32

/-! ### The 128 bytes of an entry (R226, R227) -/

/-- FLAGS byte. -/
def SkEntry.flags (e : SkEntry) : Nat :=
  b2n e.cold + 2 * b2n e.kind + 4 * b2n e.action + 8 * b2n e.jobWide + 16 * e.ctx

/-- The committed part as 64 bytes. -/
def SkEntry.committed (e : SkEntry) : List Byte :=
  (List.range 16).flatMap (fun i => leBytes 2 (wrapInt 16 (lget e.hist i (-32768)))) ++
  leBytes 2 (wrapInt 12 e.scaleExp) ++ leBytes 2 (wrapInt 12 e.gradFrame) ++ leBytes 1 e.headroom ++ leBytes 1 e.hrMin ++
  leBytes 1 e.flags ++ leBytes 1 e.fmt ++ leBytes 1 e.sumLog2 ++ leBytes 1 0 ++ leBytes 2 e.clean ++ leBytes 4 e.zeros ++
  leBytes 4 e.sats ++ leBytes 4 e.nonfinite ++ leBytes 4 e.drops ++ leBytes 4 e.elements

/-- The working part as 64 bytes. -/
def SkEntry.working (e : SkEntry) (step : Nat) : List Byte :=
  leBytes 2 (wrapInt 16 e.wAmax) ++ leBytes 1 e.wCorr ++ leBytes 1 0 ++ leBytes 4 step ++
  e.wCounts.flatMap (leBytes 4) ++ leBytes 4 e.wElements ++ leBytes 20 0

/-- An entry with the committed part that 64 bytes give. -/
def SkEntry.load (e : SkEntry) (v : Nat) : SkEntry :=
  let f (o w : Nat) : Nat := nfld v (8 * o + w - 1) (8 * o)
  let fl := f 0x26 8
  { e with
    hist := (List.range 16).map (fun i => sext 16 (f (2 * i) 16))
    scaleExp := sext 12 (f 0x20 12)
    gradFrame := sext 12 (f 0x22 12)
    headroom := f 0x24 8
    hrMin := f 0x25 8
    cold := nbit fl 0
    kind := nbit fl 1
    action := nbit fl 2
    jobWide := nbit fl 3
    ctx := nfld fl 6 4
    fmt := f 0x27 5
    sumLog2 := f 0x28 8
    clean := f 0x2A 16
    zeros := f 0x2C 32
    sats := f 0x30 32
    nonfinite := f 0x34 32
    drops := f 0x38 32
    elements := f 0x3C 32 }

/-- KIND and FMT pairs (R226). -/
def kindFmtOk (kind : Bool) (fmt : Nat) : Bool :=
  if kind then fmt == 0x0E else [1, 2, 3, 4, 5, 6, 8, 9, 0x0A, 0x0C].contains fmt

/-- The checks of one 64-bit word of the committed part (R246). -/
def skWordBad (i v : Nat) : Bool :=
  if i = 4 then
    nfld v 15 12 != 0 || nfld v 31 28 != 0 || nbit v 55 || nfld v 63 61 != 0 || decide (63 < nfld v 39 32) ||
    decide (63 < nfld v 47 40) || !kindFmtOk (nbit v 49) (nfld v 60 56)
  else if i = 5 then nfld v 15 8 != 0 || decide (40 < nfld v 7 0)
  else false

/-! ### Scales (R229) -/

/-- P of R229: floor(log2) of the largest finite magnitude of a format. -/
def skP (fmt : Nat) : Option Int :=
  match fmt with
  | 0x01 => some 8
  | 0x02 => some 15
  | 0x08 => some 15
  | 0x05 => some 2
  | 0x06 => some 6
  | 0x0C => some 30
  | 0x09 => some 127
  | 0x0A => some 127
  | _ => none

/-- A: the largest non-empty HIST value. -/
def skA (e : SkEntry) : Option Int :=
  (e.hist.filter (fun h => decide (h ≠ -32768))).foldl (fun b h => match b with
    | none => some h
    | some x => some (max x h)) none

/-- Clamp to -2,048 to 2,047. -/
def clamp12 (x : Int) : Int := max (-2048) (min 2047 x)

/-- Recompute SCALE_EXP or GRAD_FRAME from the history (R229). -/
def skRecompute (e : SkEntry) : SkEntry :=
  match skA e with
  | none => e
  | some a =>
    if e.kind then { e with gradFrame := clamp12 (a + 1 + e.headroom + e.sumLog2 - 63) }
    else if isBlockFmt e.fmt then { e with scaleExp := 0 }
    else
      match skP e.fmt with
      | some p => { e with scaleExp := clamp12 (a + 1 - p + e.headroom) }
      | none => e

/-- Saturating 32-bit sum. -/
def sat32 (a b : Nat) : Nat := min (a + b) (2 ^ 32 - 1)

/-- Clear the collected statistics of the working part; CORR stays. -/
def SkEntry.clearStats (e : SkEntry) : SkEntry := { e with wAmax := -32768, wCounts := zeroCounts, wElements := 0 }

/-- COLD (R237). -/
def SkEntry.makeCold (e : SkEntry) : SkEntry :=
  { e with cold := true, hist := List.replicate 16 (-32768), scaleExp := 0, gradFrame := 0 }

/-! ### Absorption (R228) -/

/-- Absorb the counts and the AMAX_EXP of a record. -/
def SkEntry.absorb (e : SkEntry) (counts : List Nat) (elements : Nat) (amax : Int) (fromDrain : Bool) : SkEntry :=
  { e with
    wCounts := List.zipWith sat32 e.wCounts counts
    wElements := sat32 e.wElements elements
    wAmax := if e.kind && fromDrain then e.wAmax else max e.wAmax amax }

/-- STATS_ABSORB (R228): the k-th record on its way, or an earlier one to the same entry, reaches its entry. -/
def statsAbsorbState (k : Nat) (s : State) : State :=
  match s.statq[k]? with
  | none => s
  | some m0 =>
    let j := (s.statq.findIdx? (fun m => m.entry == m0.entry)).getD k
    match s.statq[j]? with
    | none => s
    | some m =>
      let p := skPage m.entry
      if !isOn s p then s
      else
        let s := { s with statq := s.statq.eraseIdx j }
        let e := sk s m.entry
        if m.step ≠ skStep s e ∨ m.ctx ≠ e.ctx ∨ m.revoked = true then emitFields p 0xC3 [(14, m.entry), (32, m.step)] (rfAdd (p.base + Reg.SKEEP_STALE) 31 0 1 s)
        else skPut m.entry (e.absorb m.counts m.elements m.amax m.fromDrain) s

/-! ### Corrections, folds and rollbacks -/

/-- SKEEP_CONFIG and the thresholds of an entry's half. -/
def skCfg (s : State) (i hi lo : Nat) : Nat := rf s ((skPage i).base + Reg.SKEEP_CONFIG) hi lo
def satLimit (s : State) (i : Nat) : Nat := rf s ((skPage i).base + Reg.SKEEP_THRESH0) 15 0

/-- Count j of the working part, in the order of R210. -/
def SkEntry.count (e : SkEntry) (j : Nat) : Nat := lget e.wCounts j 0

/-- Whether an entry needs a correction (R232). COUNT_OVF is count 2, COUNT_SAT count 3. -/
def needsCorrection (s : State) (i : Nat) : Bool :=
  let e := sk s i
  if e.kind then decide (0 < e.count 3 + e.count 2)
  else e.action && decide (satLimit s i < max (e.count 3) (e.count 2))

/-- Correct one entry (R234). -/
def correctEntry (i : Nat) (s : State) : State :=
  let e := sk s i
  let p := skPage i
  if skCfg s i 31 24 ≤ e.wCorr then emitBare p 0xC2 s
  else
    let aWork := if e.wAmax = -32768 then (skA e).getD (-32768) else e.wAmax
    let aHist := (skA e).getD aWork
    let inc := max (skCfg s i 3 0 : Int) (aWork - aHist - e.headroom)
    let e := skRecompute { e with
      headroom := (min (skCfg s i 15 8 : Int) (e.headroom + inc)).toNat, wCorr := e.wCorr + 1 }
    emitFields p 0xC1 [(14, i), (8, e.headroom), (12, (((if e.kind then e.gradFrame else e.scaleExp) % 4096).toNat))] (setIrq p 0x20000 (skPut i e s))

/-- What R233 and R234 decide for context c: whether a correction was made, so that the step is revoked, and whether a
gradient entry at CORR_LIMIT withholds READY. -/
def correctCtx (c : Nat) (s : State) : Bool × Bool × State :=
  let need := (skOf s c).filter (fun i => needsCorrection s i)
  let able := need.any (fun i => decide ((sk s i).wCorr < skCfg s i 31 24))
  let stuck := need.any (fun i => (sk s i).kind && decide (skCfg s i 31 24 ≤ (sk s i).wCorr))
  (able, stuck, need.foldl (fun s i => correctEntry i s) s)

/-- The threshold conditions of a folded entry (R231). -/
def thresholds (i : Nat) (s : State) : State :=
  let e := sk s i
  let p := skPage i
  let a0 := p.base + Reg.SKEEP_THRESH0
  let a1 := p.base + Reg.SKEEP_THRESH1
  let hit (n limit count : Nat) (b : Bool) (s : State) : State :=
    if b && limit != 0xFFFF then emit p 0xC0 (i + n <<< 16 + count <<< 32) (setIrq p 0x10000 s) else s
  let s := hit 0 (rf s a0 15 0) e.sats (decide (rf s a0 15 0 < e.sats)) s
  let s := hit 1 (rf s a0 31 16) e.nonfinite (decide (rf s a0 31 16 < e.nonfinite)) s
  let s := hit 2 (rf s a1 15 0) e.zeros (decide (rf s a1 15 0 * e.elements < e.zeros * 65536)) s
  hit 3 (rf s a1 31 16) e.drops (decide (rf s a1 31 16 * e.elements < e.drops * 65536)) s

/-- Fold one entry (R235). -/
def foldEntry (i : Nat) (s : State) : State :=
  let e := sk s i
  let decay := skCfg s i 23 16
  let clear (e : SkEntry) : SkEntry := { e.clearStats with wCorr := 0 }
  if e.wElements = 0 then skPut i (clear e) s
  else
    let e := if e.wAmax = -32768 then e else { e with hist := e.wAmax :: e.hist.take 15 }
    let e := { e with
      zeros := e.count 5, sats := e.count 3, nonfinite := sat32 (e.count 0) (e.count 1), drops := e.count 4
      elements := e.wElements }
    let e :=
      if e.count 3 = 0 ∧ e.count 2 = 0 then
        let k := min (e.clean + 1) 65535
        if decay ≠ 0 ∧ decay ≤ k ∧ e.hrMin < e.headroom then { e with headroom := e.headroom - 1, clean := 0 }
        else { e with clean := k }
      else { e with clean := 0 }
    thresholds i (skPut i (clear (skRecompute e)) s)

/-- The fold of context c at its commit (R235). -/
def foldSkeep (c : Nat) (s : State) : State := (skOf s c).foldl (fun s i => foldEntry i s) s

/-- A rollback of context c (R235): a record still on its way belongs to the old attempt and is to be discarded. -/
def rollbackSkeep (c : Nat) (s : State) : State :=
  let s := { s with statq := s.statq.map (fun m => if m.ctx = c then { m with revoked := true } else m) }
  (skOf s c).foldl (fun s i => skMod i SkEntry.clearStats s) s

/-! ### The window and the commands (R245, R246) -/

/-- The entry that SKEEP_SEL selects; none outside the page's half. -/
def skSelected (s : State) (inst : Nat) : Option Nat :=
  let i := rf s ((pgSkeep inst).base + Reg.SKEEP_SEL) 13 0
  if i / 8192 = inst then some i else none

/-- A read of SKEEP_ENTRY i of a half. -/
def skWindow (s : State) (inst i : Nat) : Nat :=
  match skSelected s inst with
  | none => 0
  | some j =>
    let e := sk s j
    let d := if i < 8 then e.committed else e.working (skStep s e)
    leNat ((d.drop (8 * (i % 8))).take 8)

/-- A write of SKEEP_ENTRY i as one 64-bit word (R246). -/
def skEntryWrite (inst i v : Nat) (s : State) : State :=
  let p := pgSkeep inst
  match skSelected s inst with
  | none => recordError p 0x20 0 0 s
  | some j =>
    if skWordBad i v then recordError p 0x22 0 0 s
    else
      let e := sk s j
      let w := leNat e.committed
      skPut j (e.load (nset w (64 * i + 63) (64 * i) v)) s

/-- SKEEP_CMD of a half. -/
def skCmdReg (inst : Nat) : Nat := (pgSkeep inst).base + Reg.SKEEP_CMD

/-- Begin a command: BUSY, unless one runs already or the page is not ON. -/
def skCommand (inst : Nat) (f : State → State) (s : State) : State :=
  let p := pgSkeep inst
  if rf s (skCmdReg inst) 31 31 = 1 then recordError p 0x21 0 0 s
  else if !isOn s p then s
  else f (rfSet (skCmdReg inst) 31 31 1 s)

/-- Physical address of an entry's committed part in the image. -/
def imagePa (s : State) (i : Nat) : Nat :=
  let a := (skPage i).base + Reg.SKEEP_IMAGE_PA
  (reg64 s a % 2 ^ 48 / 2 ^ 19) * 2 ^ 19 + 64 * (i % 8192)

/-- A failed image access ends the command (R246). -/
def imageFault (i : Nat) (e : Fail) (s : State) : State :=
  recordError (skPage i) (causeReason e.cause) (e.pa % 2 ^ 32) (e.pa / 2 ^ 32) s

/-- SAVE entries in order. -/
def skSaveFrom : List Nat → State → State
  | [], s => s
  | i :: r, s =>
    match physWrite .onDie true (imagePa s i) (sk s i).committed s with
    | (.error e, s) => imageFault i e s
    | (.ok _, s) => skSaveFrom r s

/-- LOAD entries in order: an entry that fails its checks becomes COLD, and every working part is cleared. -/
def skLoadFrom : List Nat → State → State
  | [], s => s
  | i :: r, s =>
    match physRead .onDie true (imagePa s i) 64 s with
    | (.error e, s) => imageFault i e s
    | (.ok d, s) =>
      let v := leNat d
      let old := { (sk s i).clearStats with wCorr := 0 }
      if (List.range 8).any (fun w => skWordBad w (nfld v (64 * w + 63) (64 * w))) then
        skLoadFrom r (recordError (skPage i) 0x22 i 0 (skPut i old.makeCold s))
      else
        let e := old.load v
        skLoadFrom r (skPut i (if e.cold then e.makeCold else e) s)

/-- Entries of a half, in order. -/
def halfEntries (inst : Nat) : List Nat := List.range' (8192 * inst) 8192

/-- SAVE (R246). -/
def skSave (inst : Nat) (s : State) : State := skCommand inst (skSaveFrom (halfEntries inst)) s

/-- LOAD (R246). -/
def skLoad (inst : Nat) (s : State) : State := skCommand inst (skLoadFrom (halfEntries inst)) s

/-- WARM for context c (R238). -/
def skWarm (inst c : Nat) (s : State) : State :=
  skCommand inst (fun s =>
    ((skOf s c).filter (fun i => i / 8192 == inst)).foldl (fun s i => skMod i (fun e =>
      let e := if e.cold && decide (e.wAmax ≠ -32768) then
          skRecompute { e with hist := e.wAmax :: e.hist.tail, cold := false }
        else e
      { e.clearStats with wCorr := 0 }) s) s) s

/-- INVALIDATE (R237). -/
def skInvalidate (inst : Nat) (s : State) : State :=
  skCommand inst (fun s => (skHalf s inst).foldl (fun s i => skMod i SkEntry.makeCold s) s) s

/-- CLEAR_WORKING for context c (R246). -/
def skClearWorking (inst c : Nat) (s : State) : State :=
  skCommand inst (fun s =>
    ((skOf s c).filter (fun i => i / 8192 == inst)).foldl (fun s i =>
      skMod i (fun e => { e.clearStats with wCorr := 0 }) s) s) s

/-- A write to SKEEP_CMD (R245). -/
def skCmdWrite (inst v : Nat) (s : State) : State :=
  let c := nfld v 10 8
  match nfld v 7 0 with
  | 1 => skSave inst s
  | 2 => skLoad inst s
  | 3 => skWarm inst c s
  | 4 => skInvalidate inst s
  | 5 => skClearWorking inst c s
  | _ => s

/-- SKEEP_CMD_DONE (R246). -/
def skeepCmdDoneState (inst : Nat) (s : State) : State :=
  if rf s (skCmdReg inst) 31 31 = 1 then setIrq (pgSkeep inst) 0x40000 (rfSet (skCmdReg inst) 31 31 0 s) else s

/-- A write to SKEEP_SEL (R246). -/
def skSelWrite (inst : Nat) (s : State) : State :=
  if (skSelected s inst).isSome then s else recordError (pgSkeep inst) 0x20 0 0 s

end Sys2Proof.Machine
end

