-- ==== Sys2Proof/Machine/Xseq.lean ====
section
/-! DEFINITION. Gradient exchange and step commit (R334 to R360): schedules, SEND and RECV ops, confirmation, rollback, the
three laps of the commit, the flip and queries. -/

namespace Sys2Proof.Machine

/-! ### Registers and states -/

/-- A context's exchange before its first START. -/
def XCtx.fresh : XCtx := ⟨0, [], [], 0, [], [], 0, 0, 0, [], [], false, 0, none, none⟩

/-- An op before it starts. -/
def OpState.fresh : OpState := ⟨false, false, false, 0, 0, none, false, false, false⟩

/-- The exchange of context c. -/
def xc (s : State) (c : Nat) : XCtx := tget s.xseq XCtx.fresh c

/-- Change it. -/
def xcMod (c : Nat) (f : XCtx → XCtx) (s : State) : State := { s with xseq := tput s.xseq c (f (xc s c)) }

/-- A register of context c, held at instance 0 (R360). -/
def xsReg (c off : Nat) : Nat := (pgXseq 0).base + off + c * 0x80

/-- STATE codes of R350. -/
def xIdle : Nat := 0
def xExchange : Nat := 1
def xLocalDone : Nat := 2
def xStatsSent : Nat := 3
def xReadySent : Nat := 4
def xWithheld : Nat := 5
def xRollback : Nat := 6
def xRolledBack : Nat := 7

/-- XSEQ_CTXc_STATUS.STATE. -/
def xState (s : State) (c : Nat) : Nat := rf s (xsReg c Reg.XSEQ_CTX_STATUS) 3 0

/-- Set it. -/
def xStateSet (c v : Nat) (s : State) : State := rfSet (xsReg c Reg.XSEQ_CTX_STATUS) 3 0 v s

/-- The working epoch E. -/
def xEpoch (s : State) (c : Nat) : Nat := rf s (xsReg c Reg.XSEQ_CTX_EPOCH_WORK) 31 0

/-- Set E. -/
def xEpochSet (c v : Nat) (s : State) : State := rfSet (xsReg c Reg.XSEQ_CTX_EPOCH_WORK) 31 0 v s

/-- Set the attempt A; STATUS.ATTEMPT saturates (R360). -/
def attemptSet (c a : Nat) (s : State) : State :=
  rfSet (xsReg c Reg.XSEQ_CTX_STATUS) 15 8 (min a 255) (xcMod c (fun x => { x with attempt := a }) s)

/-- A token counter of context c. -/
def xToken (s : State) (c g : Nat) : Nat := half s (xsReg c Reg.XSEQ_CTX_TOKEN) g

/-- Set it. -/
def xTokenSet (c g v : Nat) (s : State) : State := halfSet (xsReg c Reg.XSEQ_CTX_TOKEN) g v s

/-- The state of op i. -/
def opSt (s : State) (c i : Nat) : OpState := tget (xc s c).st OpState.fresh i

/-- Change it. -/
def opMod (c i : Nat) (f : OpState → OpState) (s : State) : State :=
  xcMod c (fun x => { x with st := tput x.st i (f (tget x.st OpState.fresh i)) }) s

/-- Op i of the schedule. -/
def xop (s : State) (c i : Nat) : Option XOp := (xc s c).ops[i]?

/-- The ring's leader (R350). -/
def isLeader (s : State) (c : Nat) : Bool := (xc s c).ringPos == 0

/-- Ring members relative to this device (R348). -/
def ringMember (x : XCtx) (k : Nat) : Nat := lget x.ring (k % max 1 x.ring.length) 0
def successor (x : XCtx) : Nat := ringMember x (x.ringPos + 1)
def predecessor (x : XCtx) : Nat := ringMember x (x.ringPos + x.ring.length - 1)

/-- A COL packet of context c (R334). -/
def colPkt (s : State) (c dst op arg epoch gen idx : Nat) (data : List Byte) : Packet :=
  { dst := BitVec.ofNat 12 dst, src := BitVec.ofNat 12 (devId s), cls := 2, vc := 0, hops := 1, world := ctxSecure s c
    gen := BitVec.ofNat 4 gen, tag := BitVec.ofNat 14 idx, op := BitVec.ofNat 5 op, len := BitVec.ofNat 10 data.length
    portal := BitVec.ofNat 3 c, arg := BitVec.ofNat 27 arg, epoch := BitVec.ofNat 32 epoch, payload := data }

/-- Reason of a send that does not go (R346). -/
def sendReason : SendOutcome → Option Nat
  | .sent => none
  | .fenced => some 0x13
  | .noRoute => some 0x29

/-- Send a COL packet of the working epoch and attempt; answers the reason of a refusal. -/
def colSend (c dst op arg idx : Nat) (data : List Byte) (s : State) : Option Nat × State :=
  let (r, s) := inject (colPkt s c dst op arg (xEpoch s c) (xc s c).attempt idx data) s
  (sendReason r, s)

/-! ### Rollback (R346, R347) -/

/-- Devices that a rollback's REVOKE goes to. -/
def revokeTargets (s : State) (c : Nat) : List Nat :=
  let x := xc s c
  let l := x.ops.map (·.peer) ++ (if x.ring.length < 2 then [] else [predecessor x, successor x])
  l.eraseDups.filter (fun d => d != devId s)

/-- Roll back the attempt (R347, R357). `op` is the failing op, 0xFFFF for none. -/
def rollback (c cause origin op : Nat) (s : State) : State :=
  let e := xEpoch s c
  let a := (xc s c).attempt
  let s := rfAdd (xsReg c Reg.XSEQ_CTX_ROLLBACKS) 31 0 1 (xStateSet c xRollback s)
  let s := rfSet (xsReg c Reg.XSEQ_CTX_ORIGIN) 7 0 cause (rfSet (xsReg c Reg.XSEQ_CTX_ORIGIN) 23 12 origin s)
  let s := xcMod c (fun x => { x with st := [], statsLanded := [], readyLanded := [], verdict := false, due := none }) s
  let s := rollbackSkeep c s
  let s := revokeContext c (reg64 s (xsReg c Reg.XSEQ_CTX_SCHED_VA) % 2 ^ 48) op s
  let s := (revokeTargets s c).foldl (fun s d => (colSend c d 4 0 0 (leBytes 4 (origin + cause <<< 16)) s).2) s
  let s := emitFields (pgXseq 0) 0x40 [(32, e), (8, min a 255), (8, cause), (16, origin), (8, c)] (setIrq (pgXseq 0) (2 ^ (16 + c)) s)
  let s := postFault c 0x0740 (e <<< 32 + (min a 255) <<< 64 + cause <<< 72 + origin <<< 80) s
  if rf s (xsReg c Reg.XSEQ_CTX_CTRL) 0 0 = 1 ∧ cause ≠ 0x28 then { s with pins := { s.pins with haltShareLow := true } }
  else s

/-- States in which a device rolls back on its own failures (R346, R349). -/
def mayRollBack (s : State) (c : Nat) : Bool :=
  let x := xState s c
  x == xExchange || x == xLocalDone || x == xStatsSent || x == xWithheld || (x == xReadySent && isLeader s c)

/-- This device fails the attempt: ERR_CODE and the rollback with this device as ORIGIN. -/
def failOwn (c cause op info0 info1 : Nat) (s : State) : State :=
  if mayRollBack s c then rollback c cause (devId s) op (recordError (pgXseq 0) cause info0 info1 s) else s

/-- An op fails: event 0x0743 as well. -/
def failOp (c op cause info0 info1 : Nat) (s : State) : State :=
  if mayRollBack s c then failOwn c cause op info0 info1 (emitFields (pgXseq 0) 0x43 [(16, op), (8, cause), (8, c)] s) else s

/-- A counter's failure fails the attempt, or the next one where this device may not roll back now: XSEQ halts at its next
command (R29, R346). -/
def counterFails (c cause info0 info1 : Nat) (s : State) : State :=
  if mayRollBack s c then failOwn c cause 0xFFFF info0 info1 s
  else xcMod c (fun x => { x with pending := some (cause, info0) }) s

/-- A signal counts in an XSEQ counter (R25, R29, R346). Both instances count in the counters of instance 0. -/
def xseqToken (c g incr : Nat) (s : State) : State :=
  if 31 < g then counterFails c 0x23 0 0 s
  else
    let v := xToken s c g + incr
    let s := xTokenSet c g (min v 65535) s
    if 65535 < v then counterFails c 0x0A g 65535 s else s

/-! ### Schedules (R336 to R338) -/

/-- An op from its 64 bytes (R337). -/
def decodeOp (v : Nat) : XOp :=
  let f (hi lo : Nat) : Nat := nfld v hi lo
  let kind := f 7 0
  let main : Bool := f 8 8 == 1
  let send : Bool := kind == 1
  let addrOk (lo : Nat) : Bool :=
    if main then f (lo + 63) (lo + 48) == 0 else f (lo + 31) (lo + 22) == 0 && f (lo + 63) (lo + 42) == 0
  { isSend := send, kindOk := kind == 1 || kind == 2, main := main, sigEn := f 9 9 == 1, waitEn := f 10 10 == 1
    gateEn := f 11 11 == 1 && send, peer := f 27 16, lbuf := f 42 32, waitCtr := f 52 48, waitCount := f 60 53
    addr := f 127 64, lenAddr := f 191 128, maxBytes := f 223 192, gate := f 228 224
    depends := (List.range 8).map (fun i => f (271 + 16 * i) (256 + 16 * i)), sigField := f 423 384
    reservedOk := f 15 12 == 0 && f 31 28 == 0 && f 47 43 == 0 && f 63 61 == 0 && addrOk 64 && addrOk 128 &&
      (!send || f 223 192 == 0) && f 231 229 == 0 && f 255 232 == 0 && f 423 418 == 0 && f 511 424 == 0 }

/-- Cluster and offset of a CMEM address of an op. -/
def opCluster (a : Nat) : Nat := nfld a 41 32
def opOffset (a : Nat) : Nat := nfld a 21 0

/-- Whether a SIGNAL field is one that R288 accepts. -/
def sigFieldOk (g : Nat) : Bool :=
  nfld g 33 26 != 0 && targetOk (nfld g 1 0) (nfld g 3 2) (nfld g 17 4) (nfld g 25 18)

/-- The checks of an op that fail with SCHED_INVALID (R338). -/
def XOp.valid (o : XOp) (count : Nat) : Bool :=
  o.kindOk && !(o.waitEn && o.waitCount == 0) &&
  (!o.isSend || o.depends.all (fun d => d == 0xFFFF || decide (d < count))) &&
  (!o.sigEn || sigFieldOk o.sigField) &&
  (o.isSend || (o.maxBytes % 64 == 0 && decide (64 ≤ o.maxBytes) && decide (o.maxBytes ≤ 2 ^ 30))) &&
  (o.main || (decide (opOffset o.lenAddr + 4 ≤ 0x40_0000) &&
    (o.isSend || decide (opOffset o.addr + o.maxBytes ≤ 0x40_0000))))

/-- Read ops in order; `none` at the end marks a fetch fault. -/
def readOps (v : Via) : List Nat → State → List XOp × Bool × State
  | [], s => ([], true, s)
  | a :: r, s =>
    match virtRead v a 64 s with
    | (.error _, s) => ([], false, s)
    | (.ok d, s) =>
      let (l, ok, s) := readOps v r s
      (decodeOp (leNat d) :: l, ok, s)

/-- Bytes as 16-bit numbers. -/
def halves : List Byte → List Nat
  | a :: b :: r => (a.toNat + 256 * b.toNat) :: halves r
  | _ => []

/-- Read a list of 16-bit numbers; an empty list needs no access. -/
def readHalves (v : Via) (a n : Nat) (s : State) : Option (List Nat) × State :=
  if n = 0 then (some [], s)
  else
    match virtRead v a (2 * n) s with
    | (.ok d, s) => (some (halves d), s)
    | (.error _, s) => (none, s)

/-- Read and check a context's schedule (R338): the exchange as far as it could be read, and the reason and op of the failure. -/
def loadSched (c : Nat) (s : State) : Option (Nat × Nat) × XCtx × State :=
  let old := { XCtx.fresh with attempt := (xc s c).attempt }
  let va := reg64 s (xsReg c Reg.XSEQ_CTX_SCHED_VA) % 2 ^ 48
  let v := viaCtx s c
  match virtRead v va 64 s with
  | (.error _, s) => (some (0x08, 0xFFFF), old, s)
  | (.ok d, s) =>
    let h := leNat d
    let f (hi lo : Nat) : Nat := nfld h hi lo
    let nOps := f 31 16
    let nRing := f 47 32
    let pos := f 63 48
    let nJw := f 207 192
    let x := { old with ringPos := pos, doneCtr := f 212 208, commitVa := f 303 256, recordVa := f 367 320 }
    if f 127 112 ≠ 0 ∨ f 191 176 ≠ 0 ∨ f 255 213 ≠ 0 ∨ f 319 304 ≠ 0 ∨ f 511 368 ≠ 0 then (some (0x02, 0xFFFF), x, s)
    else
      let (ops, okOps, s) := readOps v ((List.range (min nOps 4096)).map (fun i => va + 0x40 + 64 * i)) s
      let (ring, s) := if 4096 < nRing then (some [], s) else readHalves v (f 111 64) nRing s
      let (jw, s) := if 4096 < nJw then (some [], s) else readHalves v (f 175 128) nJw s
      let x := { x with ops := ops, ring := ring.getD [], jw := jw.getD [] }
      match ops.findIdx? (fun o => !o.reservedOk) with
      | some i => (some (0x02, i), x, s)
      | none =>
        if f 15 0 ≠ 1 ∨ nOps = 0 ∨ 4096 < nOps ∨ 4096 < nRing ∨ nRing ≤ pos ∨ 4096 < nJw ∨
            (ring.isSome ∧ lget x.ring pos 0 ≠ devId s) then
          (some (0x20, 0xFFFF), x, s)
        else
          match ops.findIdx? (fun o => !o.valid nOps) with
          | some i => (some (0x20, i), x, s)
          | none =>
            if !okOps then (some (0x08, ops.length), x, s)
            else if ring.isNone || jw.isNone then (some (0x08, 0xFFFF), x, s)
            else (none, x, s)

/-- The schedule of a context in EXCHANGE is read and checked (R338). -/
def takeSched (c : Nat) (s : State) : State :=
  let late := (xc s c).pending
  let (bad, x, s) := loadSched c s
  let s := xcMod c (fun _ => x) s
  match bad, late with
  | some (r, i), _ => failOwn c r i 0 0 s
  | none, some (r, g) => failOwn c r 0xFFFF g (if r = 0x0A then 65535 else 0) s
  | none, none => s

/-- Enter EXCHANGE for epoch `e`, attempt `a` (R338, R350). The reads of the schedule wait while XLAT is not ON (R274). -/
def enterExchange (c e a : Nat) (s : State) : State :=
  let s := regSet (xsReg c Reg.XSEQ_CTX_PROGRESS) 0 (xStateSet c xExchange (attemptSet c a (xEpochSet c e s)))
  if xlatOn s then takeSched c s
  else xcMod c (fun x => { XCtx.fresh with attempt := x.attempt, pending := x.pending, due := some .schedule }) s

/-! ### The flip (R353) -/

/-- Flip context c to its working epoch, then send COMMIT to the successor (R350, R353). -/
def flipNow (c : Nat) (s : State) : State :=
  let x := xc s c
  let e := xEpoch s c
  let dst := successor x
  let n := x.ring.length
  let s := foldSkeep c s
  let s := rfSet (acReg c Reg.ACON_CTX_EPOCH) 31 0 e s
  let record := leBytes 4 e ++ leBytes 1 (min x.attempt 255) ++ leBytes 1 (e % 2) ++ leBytes 2 x.ringPos ++ leBytes 8 0
  let s := (virtWrite (viaCtx s c) x.recordVa record s).2
  let s := emitFields (pgXseq 0) 0x41 [(32, e), (8, e % 2), (8, min x.attempt 255), (8, c)] (setIrq (pgXseq 0) (2 ^ (24 + c)) s)
  let e1 := (e + 1) % 2 ^ 32
  let s := if rf s (xsReg c Reg.XSEQ_CTX_CTRL) 1 1 = 1 then xStateSet c xIdle (attemptSet c 0 (xEpochSet c e1 s))
    else enterExchange c e1 0 s
  if n < 2 then s else (inject (colPkt s c dst 7 0 e x.attempt 0 []) s).2

/-- A flip, which waits with its record while XLAT is not ON (R274). -/
def flip (c : Nat) (s : State) : State :=
  if xlatOn s then flipNow c s else xcMod c (fun x => { x with due := some .flip }) s

/-- XLAT reaches ON: what waited for it goes on (R274). -/
def xseqDue (s : State) : State :=
  (List.range 8).foldl (fun s c =>
    match (xc s c).due with
    | none => s
    | some d =>
      let s := xcMod c (fun x => { x with due := none }) s
      match d with
      | .schedule => if xState s c = xExchange then takeSched c s else s
      | .flip => if xState s c = xReadySent then flipNow c s else s) s

/-! ### Ops (R339 to R345) -/

/-- How an op's access to memory or CMEM ends. -/
inductive OpAccess where
  | ok (data : List Byte)
  | fail (reason : Nat)
deriving DecidableEq, Repr

/-- The Guard's verdict on an XSEQ chunk (R180): a conflict is SCHEDULE_SLIP. A chunk that finds its pool full waits until an entry
leaves (R181). -/
def xGuard (c i n off len : Nat) (write : Bool) (s : State) : Option Nat × State :=
  let r : GRange := ⟨write, off, off + len⟩
  let cmd := chunkCmd (16384 + c * 4096 + i) 0
  let s := wavesAt n s
  let s := match guardJudgeAs s n 0xC cmd [r] with
    | .full => wavesAt n (eclkTo (portBFreeAt s n) s)
    | _ => s
  match guardJudgeAs s n 0xC cmd [r] with
  | .slip _ _ _ => (some 0x04, latchChunk n 0xC cmd r s)
  | _ => (none, guardEnterAs n 0xC (masterId 3 0) cmd [r] (some s.clk.eclk) s)

/-- An op whose CMEM side finds the Guard's pool held by chunks under way waits with all its accesses (R181). -/
def opWaits (s : State) (o : XOp) : Bool :=
  !o.main && (portBFull s (opCluster o.addr) || portBFull s (opCluster o.lenAddr))

/-- Read for op i at byte `k` past its address. -/
def opRead (c i : Nat) (main : Bool) (addr k len : Nat) (s : State) : OpAccess × State :=
  if main then
    match virtRead (viaCtx s c) (nfld addr 47 0 + k) len s with
    | (.ok d, s) => (.ok d, s)
    | (.error e, s) => (.fail (causeReason e.cause), s)
  else if 0x40_0000 < opOffset addr + k + len then (.fail 0x20, s)
  else
    match xGuard c i (opCluster addr) (opOffset addr + k) len false s with
    | (some r, s) => (.fail r, s)
    | (none, s) =>
      match physRead .onDie (ctxSecure s c) (cmemPa (opCluster addr) (opOffset addr + k)) len s with
      | (.ok d, s) => (.ok d, s)
      | (.error e, s) => (.fail (causeReason e.cause), s)

/-- Write for op i at byte `k` past its address. -/
def opWrite (c i : Nat) (main : Bool) (addr k : Nat) (d : List Byte) (s : State) : Option Nat × State :=
  if main then
    match virtWrite (viaCtx s c) (nfld addr 47 0 + k) d s with
    | (.ok _, s) => (none, s)
    | (.error e, s) => (some (causeReason e.cause), s)
  else
    match xGuard c i (opCluster addr) (opOffset addr + k) d.length true s with
    | (some r, s) => (some r, s)
    | (none, s) =>
      match physWrite .onDie (ctxSecure s c) (cmemPa (opCluster addr) (opOffset addr + k)) d s with
      | (.ok _, s) => (none, s)
      | (.error e, s) => (some (causeReason e.cause), s)

/-- Whether op i counts as confirmed (R344, R345). -/
def opConfirmed (s : State) (c i : Nat) : Bool :=
  match xop s c i with
  | some o => if o.isSend then (opSt s c i).confirmSent else (opSt s c i).completed && (opSt s c i).confirmGot
  | none => true

/-- Count an op in PROGRESS. -/
def progress (c hi lo : Nat) (s : State) : State := rfAdd (xsReg c Reg.XSEQ_CTX_PROGRESS) hi lo 1 s

/-- Op i completes and sends its SIGNAL (R26, R339). -/
def opComplete (c i : Nat) (o : XOp) (s : State) : State :=
  let s := progress c 12 0 (opMod c i (fun t => { t with completed := true }) s)
  let s := if !o.isSend && (opSt s c i).confirmGot then progress c 28 16 s else s
  let g := o.sigField
  if o.sigEn then
    (signalsOf (nfld g 1 0) (nfld g 3 2) (nfld g 17 4) (nfld g 25 18) (nfld g 33 26) c (masterId 3 0)).foldl
      (fun s y => sendSignal y s) s
  else s

/-- Whether op i may start (R339): ops that name its PEER and LBUF before it have started, and at most 256 ops are active. -/
def mayStart (s : State) (c i : Nat) (o : XOp) : Bool :=
  (List.range i).all (fun j => match xop s c j with
    | some q => !(q.peer == o.peer && q.lbuf == o.lbuf) || (opSt s c j).started
    | none => true) &&
  decide (((xc s c).st.filter (fun e => e.2.started && !e.2.completed)).length < 256)

/-- Start op i and pass its WAIT (R339). Answers whether it goes on. -/
def opGate (c i : Nat) (o : XOp) (s : State) : Bool × State :=
  let t := opSt s c i
  if t.started = false ∧ mayStart s c i o = false then (false, s)
  else
    let s := if t.started then s else opMod c i (fun t => { t with started := true }) s
    if t.waited || !o.waitEn then (true, opMod c i (fun t => { t with waited := true }) s)
    else
      let v := xToken s c o.waitCtr
      if o.waitCount ≤ v then
        (true, opMod c i (fun t => { t with waited := true }) (xTokenSet c o.waitCtr (v - o.waitCount) s))
      else (false, s)

/-- Send the stream in pieces of 512 bytes (R341). -/
def sendPieces (c i : Nat) (o : XOp) (len : Nat) : Nat → Nat → State → Option Nat × State
  | 0, _, s => (none, s)
  | fuel + 1, j, s =>
    if len ≤ 512 * j then (none, s)
    else
      match opRead c i o.main o.addr (512 * j) (min 512 (len - 512 * j)) s with
      | (.fail r, s) => (some r, s)
      | (.ok d, s) =>
        match colSend c o.peer 1 (o.lbuf + (j / 16384) <<< 11) j d s with
        | (some r, s) => (some r, s)
        | (none, s) => sendPieces c i o len fuel (j + 1) s

/-- SEND (R339): every step whose condition holds. -/
def sendState (c i : Nat) (s : State) : State :=
  match xop s c i with
  | none => s
  | some o =>
    if !o.isSend || xState s c != xExchange || (opSt s c i).completed || !isOn s (pgXseq 0) || !xlatOn s then s
    else
      let (go, s) := opGate c i o s
      if !go || !(opSt s c i).granted || opWaits s o then s
      else
        match opRead c i o.main o.lenAddr 0 4 s with
        | (.fail r, s) => failOp c i r 0 0 s
        | (.ok d, s) =>
          let len := leNat d
          if 64 * (opSt s c i).credit < len then failOp c i 0x21 0 0 s
          else
            match sendPieces c i o len (len / 512 + 1) 0 s with
            | (some r, s) => failOp c i r 0 0 s
            | (none, s) =>
              match colSend c o.peer 2 o.lbuf 0 (leBytes 4 len) s with
              | (some r, s) => failOp c i r 0 0 s
              | (none, s) => opComplete c i o s

/-- RECV (R339): waits, then grants its whole buffer with one CREDIT (R341). -/
def recvState (c i : Nat) (s : State) : State :=
  match xop s c i with
  | none => s
  | some o =>
    if o.isSend || xState s c != xExchange || (opSt s c i).granted || !isOn s (pgXseq 0) then s
    else
      let (go, s) := opGate c i o s
      if !go then s
      else
        match colSend c o.peer 0x1F o.lbuf 0 (leBytes 4 (o.maxBytes / 64)) s with
        | (some r, s) => failOp c i r 0 0 s
        | (none, s) => opMod c i (fun t => { t with granted := true }) s

/-- SEND_CONFIRM (R345). -/
def sendConfirmState (c i : Nat) (s : State) : State :=
  match xop s c i with
  | none => s
  | some o =>
    let t := opSt s c i
    if !o.isSend || xState s c != xExchange || !t.completed || t.confirmSent || !isOn s (pgXseq 0) then s
    else if !(o.depends.all (fun d => d == 0xFFFF || opConfirmed s c d)) || (o.gateEn && xToken s c o.gate == 0) then s
    else
      let s := if o.gateEn then xTokenSet c o.gate (xToken s c o.gate - 1) s else s
      match colSend c o.peer 3 o.lbuf 0 [] s with
      | (some r, s) => failOp c i r 0 0 s
      | (none, s) => progress c 28 16 (opMod c i (fun t => { t with confirmSent := true }) s)

/-- The RECV completes once END has arrived and the bytes received equal its LENGTH (R339). -/
def recvFinish (c i : Nat) (o : XOp) (s : State) : State :=
  let t := opSt s c i
  if t.length = some t.received ∧ t.completed = false then
    match opWrite c i o.main o.lenAddr 0 (leBytes 4 t.received) s with
    | (some r, s) => failOp c i r 0 0 s
    | (none, s) => opComplete c i o s
  else s

/-- First op in schedule order that satisfies a test. -/
def findOp (s : State) (c : Nat) (f : XOp → OpState → Bool) : Option (Nat × XOp) :=
  ((xc s c).ops.zipIdx.find? (fun (o, i) => f o (opSt s c i))).map (fun (o, i) => (i, o))

/-! ### Lap messages (R348, R352) -/

/-- One record of a STATS or READY message. -/
structure LapRec where
  entry    : Nat
  amax     : Int
  counts   : List Nat
  elements : Nat
deriving DecidableEq, Repr

/-- This device's working part of an entry. -/
def ownRec (s : State) (i : Nat) : LapRec := ⟨i, (sk s i).wAmax, (sk s i).wCounts, (sk s i).wElements⟩

/-- The 40 bytes of a record (R352). -/
def LapRec.bytes (r : LapRec) : List Byte :=
  leBytes 2 (r.entry % 16384) ++ leBytes 2 (wrapInt 16 r.amax) ++
  (List.range 8).flatMap (fun i => leBytes 4 (lget r.counts i 0)) ++ leBytes 4 r.elements

/-- A record from its 40 bytes. -/
def lapRec (v : Nat) : LapRec :=
  ⟨nfld v 15 0, sext 16 (nfld v 31 16), (List.range 8).map (fun i => nfld v (63 + 32 * i) (32 + 32 * i)), nfld v 319 288⟩

/-- Records packed without padding. -/
def lapRecs : Nat → List Byte → List LapRec
  | 0, _ => []
  | n + 1, d => lapRec (leNat (d.take 40)) :: lapRecs n (d.drop 40)

/-- The sum of two records (R352). -/
def LapRec.add (a b : LapRec) : LapRec :=
  ⟨a.entry, max a.amax b.amax, List.zipWith sat32 a.counts b.counts, sat32 a.elements b.elements⟩

/-- Packets of a lap message: P of R336. -/
def lapPackets (x : XCtx) : Nat := max 1 (ceilDiv x.jw.length 12)

/-- Send a lap message to the successor. -/
def sendLap (c op : Nat) (verdict : Bool) (rs : List LapRec) : List Nat → State → Option Nat × State
  | [], s => (none, s)
  | j :: r, s =>
    match colSend c (successor (xc s c)) op (b2n verdict + j <<< 11) j (((rs.drop (12 * j)).take 12).flatMap LapRec.bytes) s with
    | (some e, s) => (some e, s)
    | (none, s) => sendLap c op verdict rs r s

/-- Read a lap message from the commit area: STATS from packet slot 0, READY from slot P (R341). -/
def readLap (c base : Nat) : List Nat → State → Except Nat (List LapRec) × State
  | [], s => (.ok [], s)
  | j :: r, s =>
    let x := xc s c
    let n := min 12 (x.jw.length - 12 * j)
    if n = 0 then readLap c base r s
    else
      match virtRead (viaCtx s c) (x.commitVa + 512 * (base + j)) (40 * n) s with
      | (.error e, s) => (.error (causeReason e.cause), s)
      | (.ok d, s) =>
        match readLap c base r s with
        | (.error e, s) => (.error e, s)
        | (.ok l, s) => (.ok (lapRecs n d ++ l), s)

/-- Replace the JOB_WIDE working parts with the sums (R348). -/
def loadSums (rs : List LapRec) (s : State) : State :=
  rs.foldl (fun s r => skMod r.entry (fun e => { e with wAmax := r.amax, wCounts := r.counts, wElements := r.elements }) s) s

/-- Records match the receiver's list (R352). -/
def lapMatches (x : XCtx) (rs : List LapRec) : Bool := rs.map (·.entry) == x.jw

/-- READY returns to the leader (R350). -/
def readyReturn (c : Nat) (verdict : Bool) (s : State) : State :=
  if verdict then rollback c 0x26 (devId s) 0xFFFF s else flip c s

/-- The sums are loaded and R232 evaluated; READY goes on, or is withheld (R234, R348). -/
def sendReady (c : Nat) (verdict : Bool) (rs : List LapRec) (s : State) : State :=
  let x := xc s c
  let (able, stuck, s) := correctCtx c (loadSums rs s)
  if stuck then xStateSet c xWithheld s
  else
    let v := verdict || able
    if x.ring.length < 2 then readyReturn c v (xStateSet c xReadySent s)
    else
      match sendLap c 6 v rs (List.range (lapPackets x)) s with
      | (some r, s) => failOwn c r 0xFFFF 0 0 s
      | (none, s) => xcMod c (fun x => { x with queryIdx := 0 }) (xStateSet c xReadySent s)

/-- READY is complete: the leader takes its verdict, the others load the sums and forward it (R350). -/
def readyAct (c : Nat) (s : State) : State :=
  let x := xc s c
  if x.readyLanded.length < lapPackets x then s
  else if xState s c ≠ (if isLeader s c then xReadySent else xStatsSent) then s
  else
    match readLap c (lapPackets x) (List.range (lapPackets x)) s with
    | (.error r, s) => failOwn c r 0xFFFF 0 0 s
    | (.ok rs, s) =>
      if !lapMatches x rs then failOwn c 0x20 0xFFFF 0 0 s
      else if isLeader s c then readyReturn c x.verdict s
      else sendReady c x.verdict rs s

/-- STATS is complete: the leader loads the sums and sends READY; the others add their parts and pass it on (R350). -/
def statsAct (c : Nat) (s : State) : State :=
  let x := xc s c
  let st := xState s c
  if x.statsLanded.length < lapPackets x || !(if isLeader s c then st == xStatsSent else st == xLocalDone) then s
  else
    match readLap c 0 (List.range (lapPackets x)) s with
    | (.error r, s) => failOwn c r 0xFFFF 0 0 s
    | (.ok rs, s) =>
      if !lapMatches x rs then failOwn c 0x20 0xFFFF 0 0 s
      else if isLeader s c then sendReady c false rs s
      else
        match sendLap c 5 false (List.zipWith LapRec.add rs (x.jw.map (ownRec s))) (List.range (lapPackets x)) s with
        | (some r, s) => failOwn c r 0xFFFF 0 0 s
        | (none, s) => readyAct c (xStateSet c xStatsSent s)

/-- Every op is done and confirmed (R348). -/
def opsDone (s : State) (c : Nat) : Bool :=
  (xc s c).due.isNone && (List.range (xc s c).ops.length).all (fun i => (opSt s c i).completed && opConfirmed s c i)

/-- LOCALLY_DONE (R348, R350). -/
def locallyDoneState (c : Nat) (s : State) : State :=
  let x := xc s c
  let v := xToken s c x.doneCtr
  if xState s c != xExchange || !isOn s (pgXseq 0) || !xlatOn s || !opsDone s c || v == 0 then s
  else
    let s := xTokenSet c x.doneCtr (v - 1) s
    let own := x.jw.map (ownRec s)
    if !isLeader s c then statsAct c (xStateSet c xLocalDone s)
    else if x.ring.length < 2 then sendReady c false own (xStateSet c xStatsSent s)
    else
      match sendLap c 5 false own (List.range (lapPackets x)) s with
      | (some r, s) => failOwn c r 0xFFFF 0 0 s
      | (none, s) => statsAct c (xStateSet c xStatsSent s)

/-! ### Arriving COL packets (R335, R341) -/

/-- Discard a COL packet (R335): XSEQ_DROP, XSEQ_LAST_DROP and event 0x0744. -/
def colDrop (k : Packet) (cause : Nat) (s : State) : State :=
  let b := (pgXseq 0).base
  let s := rfAdd (b + Reg.XSEQ_DROP) 31 0 1 s
  emitFields (pgXseq 0) 0x44 [(8, cause), (16, k.src.toNat), (5, k.op.toNat), (32, k.epoch.toNat)] (reg64Set (b + Reg.XSEQ_LAST_DROP)
    (cause <<< 56 + k.src.toNat <<< 44 + k.gen.toNat <<< 40 + k.op.toNat <<< 32 + k.epoch.toNat) s)

/-- What R335 decides about a packet. -/
inductive ColVerdict where
  | process | absorb | drop (cause : Nat) | commitFirst
deriving DecidableEq, Repr

/-- The first row of R335 that matches. -/
def colJudge (s : State) (c : Nat) (k : Packet) : ColVerdict :=
  let e := xEpoch s c
  let st := xState s c
  let op := k.op.toNat
  let ep := k.epoch.toNat
  let other : Bool := k.gen.toNat != (xc s c).attempt % 16
  if op = 8 ∨ op = 9 then .process
  else if (op = 7 ∨ op = 4) ∧ (ep < e ∨ (ep = e ∧ other = true)) then .absorb
  else if ep < e then .drop 1
  else if ep = e ∧ other = true then .drop 2
  else if ep = e + 1 ∧ st = xReadySent ∧ isLeader s c = false then .commitFirst
  else if e < ep then .drop 3
  else if k.world ≠ ctxSecure s c then .drop 6
  else if st = xRollback ∧ op = 4 then .absorb
  else if st = xIdle ∨ st = xRollback ∨ st = xRolledBack then .drop 4
  else .process

/-- Judge and process a packet; `f` is its operation's rule. -/
def colProcess (c : Nat) (k : Packet) (f : State → State) : Nat → State → State
  | 0, s => s
  | n + 1, s =>
    match colJudge s c k with
    | .process => f s
    | .absorb => s
    | .drop cause => colDrop k cause s
    | .commitFirst => colProcess c k f n (flip c s)

/-- Operations whose own rule reaches memory: DATA, END, STATS and READY. -/
def colAccess (op : Nat) : Bool := op == 1 || op == 2 || op == 5 || op == 6

/-- Take the oldest COL packet of port p when it carries operation `op`. One that needs memory waits while XLAT is not ON (R274). -/
def takeCol (p op : Nat) (f : Nat → Packet → State → State) (s : State) : State :=
  match rxHead s p .col with
  | none => s
  | some h =>
    let k := h.pkt
    if k.op.toNat ≠ op || !isOn s (pgXseq 0) ||
        (!xlatOn s && (colAccess op || colJudge s k.portal.toNat k == .commitFirst)) then s
    else colProcess k.portal.toNat k (f k.portal.toNat k) 3 (rxTake p .col s)

/-- LBUF of a packet. -/
def pktLbuf (k : Packet) : Nat := fld k.arg 10 0

/-- The active RECV that a packet's LBUF names (R341). -/
def activeRecv (s : State) (c : Nat) (k : Packet) : Option (Nat × XOp) :=
  findOp s c (fun o t => !o.isSend && t.granted && !t.completed && o.lbuf == pktLbuf k)

/-- The oldest COL packet of port p lands in cluster memory whose Guard pool is held: it stays where it is (R181). -/
def landingWaits (p op : Nat) (s : State) : Bool :=
  match rxHead s p .col with
  | none => false
  | some h => h.pkt.op.toNat == op && (match activeRecv s h.pkt.portal.toNat h.pkt with
    | some (_, o) => opWaits s o
    | none => false)

/-- DATA (R341). -/
def dataState (p : Nat) (s : State) : State :=
  if landingWaits p 1 s then s else takeCol p 1 (fun c k s =>
    match activeRecv s c k with
    | none => colDrop k 4 s
    | some (i, o) =>
      let j := fld k.arg 26 11 * 16384 + k.tag.toNat
      if o.maxBytes < 512 * j + k.payload.length then failOp c i 0x21 0 0 (colDrop k 5 s)
      else
        match opWrite c i o.main o.addr (512 * j) k.payload s with
        | (some r, s) => failOp c i r 0 0 s
        | (none, s) => recvFinish c i o (opMod c i (fun t => { t with received := t.received + k.payload.length }) s)) s

/-- END (R341). -/
def colEndState (p : Nat) (s : State) : State :=
  if landingWaits p 2 s then s else takeCol p 2 (fun c k s =>
    match activeRecv s c k with
    | none => colDrop k 4 s
    | some (i, o) => recvFinish c i o (opMod c i (fun t => { t with length := some (leNat k.payload) }) s)) s

/-- CONFIRM (R344): of the first RECV in schedule order of that PEER and LBUF that has none. -/
def confirmState (p : Nat) (s : State) : State :=
  takeCol p 3 (fun c k s =>
    match findOp s c (fun o t => !o.isSend && o.lbuf == pktLbuf k && o.peer == k.src.toNat && !t.confirmGot) with
    | none => s
    | some (i, _) =>
      let s := opMod c i (fun t => { t with confirmGot := true }) s
      if (opSt s c i).completed then progress c 28 16 s else s) s

/-- REVOKE of the current attempt (R346). -/
def revokeState (p : Nat) (s : State) : State :=
  takeCol p 4 (fun c k s =>
    let v := leNat k.payload
    rollback c (nfld v 23 16) (nfld v 11 0) 0xFFFF s) s

/-- A lap packet lands in the commit area (R341). -/
def landLap (c : Nat) (k : Packet) (ready : Bool) (s : State) : State :=
  let x := xc s c
  let j := fld k.arg 26 11
  if lapPackets x ≤ j then colDrop k 5 s
  else
    match virtWrite (viaCtx s c) (x.commitVa + 512 * (if ready then lapPackets x + j else j)) k.payload s with
    | (.error e, s) => failOwn c (causeReason e.cause) 0xFFFF 0 0 s
    | (.ok _, s) =>
      if ready then
        readyAct c (xcMod c (fun x => { x with
          readyLanded := if x.readyLanded.contains j then x.readyLanded else x.readyLanded ++ [j]
          verdict := x.verdict || bit k.arg 0 }) s)
      else
        statsAct c (xcMod c (fun x => { x with
          statsLanded := if x.statsLanded.contains j then x.statsLanded else x.statsLanded ++ [j] }) s)

/-- STATS (R341, R350). -/
def statsState (p : Nat) (s : State) : State := takeCol p 5 (fun c k s => landLap c k false s) s

/-- READY (R341, R350). -/
def readyState (p : Nat) (s : State) : State := takeCol p 6 (fun c k s => landLap c k true s) s

/-- COMMIT (R350, R353). -/
def commitState (p : Nat) (s : State) : State :=
  takeCol p 7 (fun c _ s => if xState s c = xReadySent ∧ isLeader s c = false then flip c s else s) s

/-- The answer to a QUERY (R354). -/
def answerCode (s : State) (c e g : Nat) : Nat :=
  let st := xState s c
  let mine : Bool := (xc s c).attempt % 16 == g
  if e ≤ ctxEpoch s c then 0
  else if e = xEpoch s c ∧ (mine = false ∨ st = xRollback ∨ st = xRolledBack) then 1
  else if e = xEpoch s c ∧ st = xReadySent then 2
  else 3

/-- QUERY (R354). -/
def queryState (p : Nat) (s : State) : State :=
  takeCol p 8 (fun c k s =>
    (inject (colPkt s c k.src.toNat 9 (answerCode s c k.epoch.toNat k.gen.toNat) k.epoch.toNat k.gen.toNat 0 []) s).2) s

/-- ANSWER (R350, R354). A rollback on ROLLED_BACK has a CAUSE that the spec does not give (log entry 5). -/
def answerState (p : Nat) (s : State) : State :=
  takeCol p 9 (fun c k s =>
    let s := emitFields (pgXseq 0) 0x42 [(32, k.epoch.toNat), (16, k.src.toNat), (2, k.arg.toNat % 4), (8, c)] s
    let code := fld k.arg 1 0
    if xState s c ≠ xReadySent ∨ isLeader s c = true ∨ k.epoch.toNat ≠ xEpoch s c then s
    else if code = 0 then flip c s
    else if code = 1 ∧ k.gen.toNat = (xc s c).attempt % 16 then
      let (v, s) := draw s
      rollback c (v % 256) (devId s) 0xFFFF s
    else s) s

/-- CREDIT (R341): to the first SEND in schedule order of that PEER and LBUF that has none. -/
def colCreditState (p : Nat) (s : State) : State :=
  takeCol p 0x1F (fun c k s =>
    match findOp s c (fun o t => o.isSend && o.peer == k.src.toNat && o.lbuf == pktLbuf k && !t.granted) with
    | none => s
    | some (i, _) => opMod c i (fun t => { t with granted := true, credit := leNat k.payload }) s) s

/-! ### Commands and timers (R350, R351, R354, R357) -/

/-- A command that is not valid records CMD_IGNORED (R351). -/
def xIgnored (s : State) : State := recordError (pgXseq 0) 0x24 0 0 s

/-- START (R350, R351). -/
def xStart (c : Nat) (s : State) : State :=
  let st := xState s c
  if st = xIdle then enterExchange c ((ctxEpoch s c + 1) % 2 ^ 32) 0 s
  else if st = xRolledBack then enterExchange c (xEpoch s c) ((xc s c).attempt + 1) s
  else xIgnored s

/-- ROLLBACK written by the host (R351). -/
def xHostRollback (c : Nat) (s : State) : State :=
  let st := xState s c
  if st = xIdle ∨ st = xRollback ∨ st = xRolledBack then xIgnored s else rollback c 0x27 (devId s) 0xFFFF s

/-- COMMIT written by the host (R351). -/
def xHostCommit (c : Nat) (s : State) : State :=
  if xState s c = xReadySent ∧ isLeader s c = false then flip c s else xIgnored s

/-- A write of XSEQ_CTXc_CMD (R351). A page that is not ON takes no command. -/
def xseqCmd (c v : Nat) (s : State) : State :=
  if !isOn s (pgXseq 0) then s
  else if v = 1 then xStart c s
  else if v = 2 then xHostRollback c s
  else if v = 3 then xHostCommit c s
  else xIgnored s

/-- A write of XSEQ_CTXc_SET_EPOCH (R360). -/
def setEpochWrite (c v : Nat) (s : State) : State :=
  let st := xState s c
  if st = xIdle ∨ st = xRolledBack then
    attemptSet c 0 (xEpochSet c ((v + 1) % 2 ^ 32) (rfSet (acReg c Reg.ACON_CTX_EPOCH) 31 0 v s))
  else xIgnored s

/-- RING_TIMEOUT (R350); 0 disables it. -/
def ringTimeoutState (c : Nat) (s : State) : State :=
  let st := xState s c
  let due : Bool := st == xStatsSent || (if isLeader s c then st == xReadySent else st == xLocalDone)
  if due && rf s ((pgXseq 0).base + Reg.XSEQ_CONFIG) 31 16 != 0 then failOwn c 0x22 0xFFFF 0 0 s else s

/-- Try the targets of a QUERY in their cycle until one send goes (R354). -/
def queryTry (c : Nat) : Nat → State → State
  | 0, s => s
  | n + 1, s =>
    let x := xc s c
    let dst := match x.queryIdx % 3 with
      | 0 => predecessor x
      | 1 => successor x
      | _ => ringMember x 0
    let s := xcMod c (fun x => { x with queryIdx := (x.queryIdx + 1) % 3 }) s
    match colSend c dst 8 0 0 [] s with
    | (none, s) => s
    | (some _, s) => queryTry c n s

/-- QUERY_INTERVAL (R354). -/
def queryIntervalState (c : Nat) (s : State) : State :=
  if xState s c = xReadySent ∧ isLeader s c = false then queryTry c 3 s else s

/-- QUIET_EXPIRY: the interrupt and the fault-queue message, then ROLLED_BACK (R350, log entry 46). -/
def quietExpiryState (c : Nat) (s : State) : State :=
  if xState s c ≠ xRollback then s
  else
    let s := setIrq (pgXseq 0) (2 ^ (16 + c)) (xStateSet c xRolledBack s)
    let o := xsReg c Reg.XSEQ_CTX_ORIGIN
    postFault c 0x0740
      (xEpoch s c <<< 32 + (min (xc s c).attempt 255) <<< 64 + rf s o 7 0 <<< 72 + rf s o 23 12 <<< 80) s

/-- A wait passes its limit (R340): an op's WAIT or GATE, or the DONE_CTR test. -/
def xseqWaitTimeoutState (c : Nat) (op : Option Nat) (s : State) : State :=
  if rf s ((pgXseq 0).base + Reg.XSEQ_WAIT) 31 16 = 0 ∨ xState s c ≠ xExchange then s
  else
    match op with
    | some i =>
      (match xop s c i with
       | none => s
       | some o =>
         let t := opSt s c i
         let v := xToken s c o.waitCtr
         let g := xToken s c o.gate
         if t.started && !t.waited && o.waitEn && decide (v < o.waitCount) then failOp c i 0x0B o.waitCtr v s
         else if o.isSend && t.completed && !t.confirmSent && o.gateEn && g == 0 then failOp c i 0x0B o.gate g s
         else s)
    | none =>
      let d := (xc s c).doneCtr
      if opsDone s c && xToken s c d == 0 then failOwn c 0x0B 0xFFFF d 0 s else s

/-- HALT_SHARE_N is seen low without this module driving it (R357). -/
def haltShareState (s : State) : State :=
  if s.pins.haltShareLow then s
  else
    (List.range 8).foldl (fun s c =>
      if rf s (xsReg c Reg.XSEQ_CTX_CTRL) 0 0 = 1 ∧ mayRollBack s c = true then rollback c 0x28 (devId s) 0xFFFF s else s) s

/-- The 2 µs pulse ends (R357). -/
def haltShareReleaseState (s : State) : State := { s with pins := { s.pins with haltShareLow := false } }

end Sys2Proof.Machine
end

