-- ==== Sys2Proof/Machine/Security.lean ====
section
/-! DEFINITION. Worlds, the wipe of secure memory, tamper, life cycle, attestation, LMS signing and the supervision of the
Management Controller (R415 to R440). -/

namespace Sys2Proof.Machine

/-- MGC_WDOG and MGC_STATUS (R439). -/
def mgcWdogReg : Nat := pgMgc.base + 0x100
def mgcStatus : Nat := pgMgc.base + 0x104

/-- The Management Controller's firmware runs. -/
def mgcUp (s : State) : Bool :=
  s.pins.vstby && s.power.standbyUp && !s.sec.recovery && rf s mgcStatus 0 0 == 0 && s.fuses.lifecycle != 4

/-! ### The wipe (R419 to R421) -/

/-- Whether an address lies in secure memory (R419). -/
def isSecureMem (s : State) (pa : Nat) : Bool :=
  match decodePa s pa with
  | .vault => true
  | .cmem n off => bankSecure s n (cmemBank (off / 8))
  | _ => false

/-- Zero every bank whose world is S; the world is kept. -/
def zeroSecureBanks (s : State) : State :=
  (List.range 1024).foldl (fun s n =>
    let w := rf s ((pgCmem n).base + Reg.CMEM_BANK_WORLD) 31 0
    (bitsOf 32 w).foldl (fun s b => zeroPhys n (physBank s n b) s) s) s

/-- Wipe secure memory and erase the keys and sessions that a tamper erases (R420). A trigger during a wipe starts it again. -/
def beginWipe (s : State) : State :=
  let s := { s with mem := s.mem.filter (fun e => decide (e.1 < vaultBase)) }
  let s := (List.range 16).foldl (fun s p => eraseKeys p s) (zeroSecureBanks s)
  let s := { s with sec := { s.sec with
    wiping := true
    wipeAt := s.clk.sclk
    mctp := { s.sec.mctp with session := false, handshake := false }
    mailbox := { s.sec.mailbox with session := false, handshake := false } } }
  regSet (pgSec.base + Reg.SEC_WIPE) (BitVec.ofNat 32 (2 ^ 31)) s

/-- A held access proceeds. -/
def heldGo (h : HeldAccess) (s : State) : State :=
  match h.data with
  | some d => memoryWriteState h.cls h.secure h.pa d h.obs s
  | none => memoryReadState h.cls h.secure h.pa h.obs s

/-- MEMORY_READ and MEMORY_WRITE: an access to secure memory during a wipe is held until it completes (R420). -/
def memoryReadHeld (k : Sys2Proof.AccClass) (secure : Bool) (pa : Nat) (o : Sys2Proof.LineObs) (s : State) : State :=
  if s.sec.wiping && isSecureMem s pa then { s with sec := { s.sec with held := s.sec.held ++ [⟨k, secure, pa, none, o⟩] } }
  else memoryReadState k secure pa o s
def memoryWriteHeld (k : Sys2Proof.AccClass) (secure : Bool) (pa : Nat) (d : List Byte) (o : Sys2Proof.LineObs) (s : State) : State :=
  if s.sec.wiping && isSecureMem s pa then { s with sec := { s.sec with held := s.sec.held ++ [⟨k, secure, pa, some d, o⟩] } }
  else memoryWriteState k secure pa d o s

/-- WIPE_DONE (R420): the Vault takes 262,144 SCLK from the last trigger. The payload's trigger has no encoding in the spec (log
entry 5). -/
def wipeDoneState (s : State) : State :=
  if !s.sec.wiping then s
  else
    let held := s.sec.held
    let s := clocksTo { s.clk with sclk := max s.clk.sclk (s.sec.wipeAt + 262144) } s
    let s := { s with sec := { s.sec with wiping := false, held := [] } }
    let s := emitOpen pgSec 0x05 (regSet (pgSec.base + Reg.SEC_WIPE) 262144 s)
    held.foldl (fun s h => heldGo h s) s

/-! ### Tamper (R422, R423) -/

/-- Sources that act as a tamper. -/
def tamperMask (s : State) : Nat :=
  if s.fuses.lifecycle = 2 then 0xF else rf s (pgSec.base + Reg.SEC_TAMPER_EN) 3 0

/-- Abort every secure context (R423 step 2). -/
def abortSecure (s : State) : State :=
  (List.range 8).foldl (fun s c =>
    if !ctxSecure s c then s
    else
      let s := if acState s c = stIdle then s else aconAbort c s
      let x := xState s c
      if x = xIdle ∨ x = xRollback ∨ x = xRolledBack then s else xHostRollback c s) s

/-- TAMPER: sources are seen. -/
def tamperState (src : Nat) (s : State) : State :=
  if !s.pins.vstby || src = 0 then s
  else
    let a := pgSec.base + Reg.SEC_TAMPER_STATUS
    let s := rfSet a 3 0 (rf s a 3 0 ||| src) s
    if src &&& tamperMask s = 0 then s
    else
      let s := beginWipe (if s.power.rails then abortSecure s else s)
      emitFields pgSec 0x04 [(4, src)] (setIrq pgSec 0x10000 (rfSet a 31 31 1 s))

/-! ### Life cycle (R424, R425) -/

/-- A refused request (R425, R440). -/
def lcRefuse (reason : Nat) (s : State) : State := recordError pgSec reason 0 0 s

/-- Carry out a transition (R424): wipe, blow the fuse, record, reset the device. -/
def lcAdvance (target : Nat) (s : State) : State :=
  let old := s.fuses.lifecycle
  let s := beginWipe s
  let s := wipeDoneState s
  let s := { s with fuses := { s.fuses with lifecycle := target, udsLocked := s.fuses.udsLocked || decide (3 ≤ target) } }
  let s := setIrq pgSec 0x20000 (emitFields pgSec 0x06 [(3, old), (3, target)] s)
  deviceReset 2 s

/-- Run `f` for a request in a permitted state; any other request is LC_DENIED, and one during a wipe WIPE_BUSY. -/
def lcRequest (allowed : List Nat) (f : State → State) (s : State) : State :=
  if s.sec.wiping then lcRefuse 0x23 s
  else if allowed.contains s.fuses.lifecycle then f s
  else lcRefuse 0x20 s

/-- BLANK to PROVISIONED (R425, R435): the UDS is generated and fused, and the first LMS tree fuse is blown. -/
def lcProvision (certs : Bool) (s : State) : State :=
  lcRequest [0] (fun s =>
    if !certs then lcRefuse 0x20 s
    else
      let s := { s with
        fuses := { s.fuses with uds := some s.sec.trngDraws, lmsTree := max 1 s.fuses.lmsTree }
        flash := { s.flash with journal := [(0, 0), (0, 0)] }
        sec := { s.sec with trngDraws := s.sec.trngDraws + 1 } }
      lcAdvance 1 s) s

/-- PROVISIONED to FIELD. -/
def lcToField (s : State) : State := lcRequest [1] (lcAdvance 2) s

/-- SEC_NONCE. -/
def secNonce (s : State) : Nat := Config.trng s.sec.nonceId % 2 ^ 32

/-- SEC_NONCE changes (R425). -/
def newNonce (s : State) : State :=
  { s with sec := { s.sec with nonceId := s.sec.trngDraws, trngDraws := s.sec.trngDraws + 1 } }

/-- FIELD to RETURN: the token must verify and name this device and the current nonce. -/
def lcToReturn (ecdsaOk lmsOk : Bool) (deviceHash nonce : Nat) (s : State) : State :=
  lcRequest [2] (fun s =>
    let good : Bool := ecdsaOk && lmsOk && nonce == secNonce s &&
      deviceHash == Config.deviceIdHash (Config.trng (s.fuses.uds.getD 0))
    let s := newNonce s
    if good then lcAdvance 3 s else lcRefuse 0x21 s) s

/-- To SCRAPPED. -/
def lcToScrapped (s : State) : State := lcRequest [1, 2, 3] (lcAdvance 4) s

/-- A write of SEC_LC_CMD whose token or certificates the command does not describe: what they show is free (log entry 5). -/
def lcCmdWrite (v : Nat) (s : State) : State :=
  match nfld v 2 0 with
  | 1 =>
    let (x, s) := draw s
    lcProvision (x % 2 == 1) s
  | 2 => lcToField s
  | 3 =>
    let (x, s) := draw s
    let (h, s) := draw s
    let (n, s) := draw s
    lcToReturn (x % 2 == 1) (x / 2 % 2 == 1) h n s
  | 4 => lcToScrapped s
  | _ => lcRequest [] id s

/-! ### SPDM (R431 to R434). Message codes and the order of requests are DSP0274's (log entry 54). -/

/-- The connection of a transport. -/
def conn (s : State) (t : Sys2Proof.Transport) : Conn :=
  match t with
  | .mctp => s.sec.mctp
  | .mailbox => s.sec.mailbox

/-- Change the connection of a transport. -/
def connMod (t : Sys2Proof.Transport) (f : Conn → Conn) (s : State) : State :=
  match t with
  | .mctp => { s with sec := { s.sec with mctp := f s.sec.mctp } }
  | .mailbox => { s with sec := { s.sec with mailbox := f s.sec.mailbox } }

/-- Answer a request; request and response join the transcript. -/
def spdmAnswer (t : Sys2Proof.Transport) (msg : List Nat) (code : Nat) (fields : List Nat) (s : State) : State :=
  output (.spdm t code fields) (connMod t (fun c => { c with transcript := c.transcript ++ msg ++ code :: fields }) s)

/-- ERROR with its error code; the transcript does not change. -/
def spdmError (t : Sys2Proof.Transport) (code : Nat) (s : State) : State := output (.spdm t 0x7F [code]) s

/-- Why attestation is refused (R423, R424, R437): 0 tamper, 1 measurement changed, 2 state. -/
def attestRefusal (s : State) : Option Nat :=
  if rf s (pgSec.base + Reg.SEC_TAMPER_STATUS) 31 31 = 1 then some 0
  else if s.sec.refuse then some 1
  else if s.fuses.lifecycle ≠ 1 ∧ s.fuses.lifecycle ≠ 2 then some 2
  else none

/-- A request that attests or opens a session: refused with ERROR Unspecified and event 0x090B where R423, R424 or R437 say so. -/
def attest (t : Sys2Proof.Transport) (ready : Conn → Bool) (f : State → State) (s : State) : State :=
  if !mgcUp s then s
  else
    match attestRefusal s with
    | some c => emitFields pgSec 0x0B [(8, c)] (spdmError t 0x05 s)
    | none => if ready (conn s t) then f s else spdmError t 0x04 s

/-- A signed response (R433): H is the transcript hash, and the Alias key signs it. -/
def spdmSigned (t : Sys2Proof.Transport) (msg : List Nat) (code : Nat) (fields : List Nat) (s : State) : State :=
  let h := Config.sha384 ((conn s t).transcript ++ msg ++ code :: fields)
  let s := connMod t (fun c => { c with lastH := some h }) s
  spdmAnswer t msg code (fields ++ [Config.ecdsaSign s.sec.aliasId h]) s

def getVersionState (t : Sys2Proof.Transport) (msg : List Nat) (s : State) : State :=
  if !mgcUp s then s
  else spdmAnswer t msg 0x04 [0x12] (connMod t (fun _ => { Conn.fresh with version := true }) s)

def getCapabilitiesState (t : Sys2Proof.Transport) (msg : List Nat) (s : State) : State :=
  if !mgcUp s then s
  else if !(conn s t).version then spdmError t 0x04 s
  else spdmAnswer t msg 0x61 [] (connMod t (fun c => { c with caps := true }) s)

def negotiateAlgorithmsState (t : Sys2Proof.Transport) (msg : List Nat) (s : State) : State :=
  if !mgcUp s then s
  else if !(conn s t).caps then spdmError t 0x04 s
  else spdmAnswer t msg 0x63 [] (connMod t (fun c => { c with algs := true }) s)

/-- The certificate chain of slot 0 (R430), by what the Alias certificate carries. -/
def certChain (s : State) : List Nat := [s.sec.aliasId, s.sec.aliasHash.toNat, s.sec.aliasSvn, s.fuses.lifecycle]

def getDigestsState (t : Sys2Proof.Transport) (msg : List Nat) (s : State) : State :=
  attest t (·.algs) (fun s => spdmAnswer t msg 0x01 [(Config.sha384 (certChain s)).toNat] s) s

def getCertificateState (t : Sys2Proof.Transport) (msg : List Nat) (s : State) : State :=
  attest t (·.algs) (fun s => spdmAnswer t msg 0x02 (certChain s) s) s

def challengeState (t : Sys2Proof.Transport) (msg : List Nat) (s : State) : State :=
  attest t (·.algs) (spdmSigned t msg 0x03 []) s

/-- Measurement blocks 1 to 5 (R431). -/
def measurements (s : State) : List Nat :=
  (List.range 4).flatMap (fun k => [(lget s.sec.images k (0, 0)).1.toNat, (lget s.sec.images k (0, 0)).2]) ++
    s.fuses.lifecycle :: s.fuses.svn

def getMeasurementsState (t : Sys2Proof.Transport) (msg : List Nat) (s : State) : State :=
  attest t (·.algs) (fun s => spdmSigned t msg 0x60 (measurements s) s) s

/-- KEY_EXCHANGE is offered on MCTP only (R431). -/
def keyExchangeState (t : Sys2Proof.Transport) (msg : List Nat) (s : State) : State :=
  if !mgcUp s then s
  else if t = .mailbox then spdmError t 0x07 s
  else attest t (·.algs) (fun s => spdmSigned t msg 0x64 [] (connMod t (fun c => { c with handshake := true }) s)) s

def finishState (t : Sys2Proof.Transport) (msg : List Nat) (s : State) : State :=
  attest t (·.handshake)
    (fun s => spdmAnswer t msg 0x65 [] (connMod t (fun c => { c with handshake := false, session := true }) s)) s

def endSessionState (t : Sys2Proof.Transport) (msg : List Nat) (s : State) : State :=
  if !mgcUp s then s
  else if !(conn s t).session then spdmError t 0x04 s
  else spdmAnswer t msg 0x6C [] (connMod t (fun c => { c with session := false }) s)

/-! ### LMS (R433, R435, R436) -/

/-- t and the next b (R435): the larger next b of the two flashes' records of tree t. -/
def lmsT (s : State) : Nat := s.fuses.lmsTree - 1
def lmsNext (s : State) : Nat :=
  ((s.flash.journal.filter (fun e => e.1 == lmsT s)).map (·.2)).foldl max 0

/-- The key is exhausted. -/
def lmsExhausted (s : State) : Bool := lmsT s == 1023 && decide (32768 ≤ lmsNext s)

/-- LMS_SIGN (R433, R435, R436): the journal is written before the leaf signs. -/
def lmsSignState (t : Sys2Proof.Transport) (s : State) : State :=
  attest t (·.lastH.isSome) (fun s =>
    if lmsExhausted s then
      let s := recordError pgSec 0x22 0 0 (rfSet (pgSec.base + Reg.SEC_LMS) 31 31 1 s)
      spdmError t 0xFF (emitBare pgSec 0x14 (emitBare pgSec 0x09 s))
    else
      let tree := lmsT s
      let b := lmsNext s
      let leaf := 32768 * tree + b
      let h := (conn s t).lastH.getD 0
      let s := { s with flash := { s.flash with journal := s.flash.journal.map (fun _ => (tree, b + 1)) } }
      let s := spdmAnswer t [0xFE, 1] 0x7E [1, h.toNat, leaf, Config.hssSign leaf h] s
      if b + 1 = 32768 ∧ tree < 1023 then advanceTree 0 s else s) s

/-- LMS_CERT (R433): the HSS public key and its vendor statement, by the UDS that they come from. -/
def lmsCertState (t : Sys2Proof.Transport) (s : State) : State :=
  attest t (·.algs) (fun s => spdmAnswer t [0xFE, 2] 0x7E [2, s.fuses.uds.getD 0] s) s

/-! ### The host mailbox (R432) -/

/-- The vendor-defined OP of a request (R433), in DSP0274's layout: StandardID, vendor ID, length, payload. -/
def vendorOp (s : State) (m : List Byte) : Option Nat :=
  let std := leNat ((m.drop 4).take 2)
  let n := leNat ((m.drop 6).take 1)
  let ven := leNat ((m.drop 7).take n)
  if std = s.fuses.standardId.toNat ∧ ven = s.fuses.vendorId.toNat then some (leNat ((m.drop (9 + n)).take 1)) else none

/-- Answer the SPDM request whose bytes a transport delivered. -/
def spdmDispatch (t : Sys2Proof.Transport) (m : List Byte) (s : State) : State :=
  let msg := m.map (·.toNat)
  match lget msg 1 0 with
  | 0x84 => getVersionState t msg s
  | 0xE1 => getCapabilitiesState t msg s
  | 0xE3 => negotiateAlgorithmsState t msg s
  | 0x81 => getDigestsState t msg s
  | 0x82 => getCertificateState t msg s
  | 0x83 => challengeState t msg s
  | 0xE0 => getMeasurementsState t msg s
  | 0xE4 => keyExchangeState t msg s
  | 0xE5 => finishState t msg s
  | 0xEC => endSessionState t msg s
  | 0xFE =>
    (match vendorOp s m with
     | some 1 => lmsSignState t s
     | some 2 => lmsCertState t s
     | _ => spdmError t 0x01 s)
  | _ => spdmError t 0x07 s

/-- The response message's own bytes are DSP0274's: its code is known, and the rest is free (log entries 5 and 54). -/
def mailboxResponse (code seq : Nat) (s : State) : State :=
  let (n, s) := draw s
  let (v, s) := draw s
  let len := 4 + n % 32749
  let body := leBytes 1 0x12 ++ leBytes 1 code ++ leBytes (len - 2) v
  let s := (physWrite .mgmt true 0x8010 body s).2
  (physWrite .mgmt true 0x8000 (leBytes 4 seq ++ leBytes 4 len ++ leBytes 8 0) s).2

/-- The code of the last SPDM response sent. -/
def lastSpdm (s : State) : Option Nat :=
  match s.sent.getLast? with
  | some (.spdm _ code _) => some code
  | _ => none

/-- MAILBOX_POLL (R432). -/
def mailboxPollState (s : State) : State :=
  if !mgcUp s || !s.power.rails then s
  else
    match physRead .mgmt true 0 16 s with
    | (.error _, s) => s
    | (.ok h, s) =>
      let seq := leNat (h.take 4)
      let len := leNat ((h.drop 4).take 4)
      if seq = s.sec.mailSeq then s
      else
        let s := { s with sec := { s.sec with mailSeq := seq } }
        if 32752 < len then
          let s := spdmError .mailbox 0x01 s
          mailboxResponse 0x7F seq s
        else
          match physRead .mgmt true 16 len s with
          | (.error _, s) => s
          | (.ok m, s) =>
            let s := spdmDispatch .mailbox m s
            mailboxResponse ((lastSpdm s).getD 0x7F) seq s

/-- The BMC clears the Event Recorder through the Management Controller's firmware (R481). -/
def bmcClearState (key : Nat) (s : State) : State := if mgcUp s && key == 0xC1EA then clearRecords 2 s else s

/-! ### Link keys, recovery and the watchdog -/

/-- Write a standby key and salt of a port as the firmware does (R434). -/
def installKey (p : Nat) (key : BitVec 256) (salt : BitVec 32) (s : State) : State :=
  (List.range 8).foldl (fun s i => keyWordWrite p i (fld key (32 * i + 31) (32 * i)) s) (saltWrite p salt.toNat s)

/-- LINK_KEY (R434): inside a secured session. -/
def linkKeyState (p : Nat) (key : BitVec 256) (salt : BitVec 32) (s : State) : State :=
  if !mgcUp s then s
  else if !s.sec.mctp.session then spdmError .mctp 0x04 s
  else if pageLive s (pgAtp p) then spdmAnswer .mctp [0xFE, 4] 0x7E [4] (installKey p key salt s)
  else spdmError .mctp 0x05 s

/-- FIRMWARE_UPDATE (R428): in recovery, an image that verifies goes to set A and the device resets. -/
def firmwareUpdateState (img : Sys2Proof.ImageCheck) (s : State) : State :=
  if !s.pins.vstby || !s.sec.recovery then s
  else
    let f := imageFailure s 1 img
    if f = 0 then deviceReset 2 s else imageEvents 1 0 f img s

/-- A write of MGC_WDOG (R439). -/
def wdogWrite (s : State) : State := { s with sec := { s.sec with wdogAt := msNow s } }

/-- WDOG_MS: 0 is treated as 1,000 (R438). -/
def wdogMs (s : State) : Nat :=
  let v := rf s (pgSec.base + Reg.SEC_WDOG_CFG) 15 0
  if v = 0 then 1000 else v

/-- WATCHDOG_RESTART (R437): MGC_WDOG was not written within WDOG_MS. -/
def watchdogRestartState (img : Sys2Proof.ImageCheck) (s : State) : State :=
  if !mgcUp s || decide (msNow s < s.sec.wdogAt + wdogMs s) then s
  else
    let n := min 65535 (rf s mgcStatus 31 16 + 1)
    let s := emitFields pgSec 0x07 [(16, n)] (rfSet mgcStatus 31 16 n s)
    let k := msNow s / 60000
    let cnt := (if s.sec.restartWindow = k then s.sec.restartCount else 0) + 1
    let s := { s with sec := { s.sec with wdogAt := msNow s, restartWindow := k, restartCount := cnt } }
    if 3 ≤ cnt then
      let s := rfSet mgcStatus 0 0 1 s
      { s with pins := { s.pins with fwFault := true } }
    else
      let f := imageFailure s 1 img
      if f ≠ 0 then
        let s := imageEvents 1 (rf s (pgSec.base + Reg.SEC_BOOT) 0 0) f img s
        { s with sec := { s.sec with recovery := true }, pins := { s.pins with fwFault := true } }
      else if img.hash = s.sec.aliasHash ∧ img.svn = s.sec.aliasSvn then s
      else emitFields pgSec 0x0B [(8, 1)] { s with sec := { s.sec with refuse := true } }

end Sys2Proof.Machine
end

