-- ==== Sys2Proof/Machine/Qps.lean ====
section
/-! DEFINITION. Ethernet ports and queue pairs (R361 to R368, R377, R380, R381, R384): frames that a port answers itself,
connection management, RDMA READ and WRITE, congestion, retries, and the loss and return of a link. -/

namespace Sys2Proof.Machine

open Sys2Proof (EthNo CmReq)

/-- HEP register of port e. -/
def hepReg (e off : Nat) : Nat := (pgHep e).base + off

/-- HEP_PORT_STATUS.LINK: 0 DOWN, 1 TRAINING, 2 UP. -/
def ethLink (s : State) (e : Nat) : Nat := rf s (hepReg e Reg.HEP_PORT_STATUS) 1 0

/-- A port carries frames: its HEP page is ON and its link is UP. -/
def ethUp (s : State) (e : Nat) : Bool := isOn s (pgHep e) && ethLink s e == 2

/-- A port carries RoCEv2: its RDMA page is ON too. -/
def rdmaUp (s : State) (e : Nat) : Bool := ethUp s e && isOn s (pgRdma e)

/-- Bytes that a port receives (0x0100) or sends (0x0101), or its CNPs (0x0102), for a QP (R484): both pages count. -/
def tallyPort (e ev n : Nat) (q : Nat) (s : State) : State :=
  let x : Attrs := { master := some (masterId 4 q) }
  tally (pgRdma e) ev n x (tally (pgHep e) ev n x s)

/-! ### Frames that a port answers itself (R362) -/

/-- MAC, IPv4 and IPv6 addresses of a port. -/
def hepMac (s : State) (e : Nat) : Nat := reg64 s (hepReg e Reg.HEP_MAC) % 2 ^ 48
def hepIpv4 (s : State) (e : Nat) : Nat := rf s (hepReg e Reg.HEP_IPV4) 31 0
def hepIpv6 (s : State) (e : Nat) : Nat :=
  reg64 s (hepReg e Reg.HEP_IPV6) + reg64 s (hepReg e Reg.HEP_IPV6 + 8) <<< 64

/-- A frame that the port discards is counted. -/
def discardFrame (e : Nat) (s : State) : State := rfAdd (hepReg e Reg.HEP_RX_OTHER) 31 0 1 s

/-- ARP_REQUEST. -/
def arpState (e : Nat) (target sender : BitVec 32) (s : State) : State :=
  if !ethUp s e then s
  else if target.toNat = hepIpv4 s e then output (.arpReply e (hepMac s e) target.toNat sender.toNat) s
  else discardFrame e s

/-- NEIGHBOUR_SOLICITATION. -/
def neighbourState (e : Nat) (target sender : BitVec 128) (s : State) : State :=
  if !ethUp s e then s
  else if target.toNat = hepIpv6 s e then output (.ndReply e (hepMac s e) target.toNat sender.toNat) s
  else discardFrame e s

/-- ECHO_REQUEST of ICMP or ICMPv6, in a frame of up to 9,216 bytes with its Ethernet, IP and ICMP headers and frame check (log
entry 106). -/
def echoState (e : Nat) (v6 : Bool) (target sender : BitVec 128) (body : List Byte) (s : State) : State :=
  if !ethUp s e then s
  else if target.toNat = (if v6 then hepIpv6 s e else hepIpv4 s e) ∧ body.length + (if v6 then 66 else 46) ≤ 9216 then output (.echoReply e sender.toNat body) s
  else discardFrame e s

/-- OTHER_FRAME. -/
def otherFrameState (e : Nat) (s : State) : State := if ethUp s e then discardFrame e s else s

/-- PRIORITY_FLOW_CONTROL on PFC_PRIO when PFC_EN = 1: a pause holds the port's RoCEv2 packets back until it ends (log entry 106).
On any other priority it changes nothing. -/
def pfcState (e prio : Nat) (pause : Bool) (s : State) : State :=
  let a := hepReg e Reg.HEP_PORT_CONFIG
  if !ethUp s e || rf s a 3 3 != 1 || rf s a 6 4 != prio then s
  else
    let rest := s.paused.filter (fun x => x != (e, prio))
    if pause then { s with paused := rest ++ [(e, prio)] }
    else
      (s.heldTx.filter (fun x => x.1 == e)).foldl (fun s x => output x.2 s)
        { s with paused := rest, heldTx := s.heldTx.filter (fun x => x.1 != e) }

/-! ### Errors of a queue pair (R365, R368, R381) -/

/-- NAK syndromes of the InfiniBand transport: Invalid Request, Remote Access Error, Remote Operational Error (PRESUMED, log
entry 58). -/
def nakInvalid : Nat := 1
def nakAccess : Nat := 2
def nakOperation : Nat := 3

/-- A NAK of a QP, counted on its port. -/
def sendNak (q psn syndrome : Nat) (s : State) : State :=
  portSend (qp s q).port (.rdmaNak q psn syndrome) (rfAdd ((pgRdma (qp s q).port).base + Reg.RDMA_NAK_SENT) 31 0 1 s)

/-- A QP enters ERROR with a cause: QP_ERROR, event 0x0820 and the FAULT record of its context (R365, R378, R379). -/
def qpError (q cause psn : Nat) (s : State) : State :=
  let x := qp s q
  let s := qpMod q (fun x => { x with state := .error }) s
  let s := emit (pgHep x.port) 0x20 (0x400 + q + cause <<< 24 + psn <<< 32) s
  postFault x.ctx 0x0820 ((0x400 + q) <<< 32 + psn <<< 64 + cause <<< 96) (setIrq (pgHep x.port) 0x20000 s)

/-- A QP returns to RESET (R368, R384): it is free, nothing is bound to it, and its unacknowledged queue messages are to be sent
again. -/
def qpToReset (q : Nat) (s : State) : State :=
  let s := (List.range 8).foldl (fun s c =>
    if rf s (bindReg c) 31 31 = 1 ∧ rf s (bindReg c) 9 0 = q then regSet (bindReg c) 0 s else s) s
  { s with
    qps := tdel s.qps q
    hostWait := s.hostWait.filter (fun x => x.1 != q)
    queues := s.queues.map (fun e =>
      (e.1, { e.2 with msgs := e.2.msgs.map (fun m => if m.sentOn = some q then { m with sentOn := none } else m) })) }

/-! ### Connection management (R364) -/

/-- The lowest free queue pair. -/
def freeQp (s : State) : Option Nat := (List.range 1024).find? (fun q => (qp s q).state == .reset)

/-- CM_REQ. -/
def cmReqState (e : Nat) (r : Sys2Proof.CmReq) (s : State) : State :=
  if !rdmaUp s e then s
  else
    let c := fld r.ctxByte 2 0
    let bad := fld r.ctxByte 7 3 != 0 || decide (1 < r.roleByte.toNat) || ctxSecure s c
    match freeQp s with
    | none => portSend e (.cmRej e) s
    | some q =>
      if bad then portSend e (.cmRej e) s
      else
        let (psn, s) := draw s
        portSend e (.cmRep e (0x400 + q)) (qpMod q (fun _ =>
          { Qp.unused with
            state := .connecting, ctx := c, control := r.roleByte.toNat == 1, port := e, peer := r.peerQpn
            psn := psn % 2 ^ 24, mtu := 1024 * 2 ^ r.mtu.val }) s)

/-- CM_RTU. -/
def cmRtuState (q : Nat) (s : State) : State :=
  if rdmaUp s (qp s q).port && (qp s q).state == .connecting then qpMod q (fun x => { x with state := .rts }) s else s

/-- CM_DREQ (R368). -/
def cmDreqState (q : Nat) (s : State) : State :=
  if !rdmaUp s (qp s q).port || (qp s q).state == .reset then s
  else portSend (qp s q).port (.cmDrep (0x400 + q)) (qpToReset q s)

/-- RDMA_QP_CMD (R384): 1 RESET, 2 ERROR; other values record CMD_IGNORED (0x28). The QP table is shared as the mirrored registers
are: it changes through instance 0 only (R267, R383). -/
def qpCmdWrite (e v : Nat) (s : State) : State :=
  let p := pgRdma e
  let q := rf s (p.base + Reg.RDMA_QSEL) 9 0
  if e ≠ 0 then s
  else
  match v % 4 with
  | 1 => qpToReset q s
  | 2 => if (qp s q).state = .reset then s else qpMod q (fun x => { x with state := .error }) s
  | _ => recordError p 0x28 0 0 s

/-! ### Packets from the host -/

/-- A packet that carries ECN Congestion Experienced is answered with a CNP, at most one per QP per 50 µs, 625 idle steps
(R367). -/
def answerEcn (q : Nat) (s : State) : State :=
  let x := qp s q
  let due : Bool := match x.cnpAt with
    | none => true
    | some t => decide (t + 625 ≤ s.clk.ticks)
  if due then
    tallyPort x.port 0x0102 1 q (portSend x.port (.cnpSent q)
      (rfAdd ((pgRdma x.port).base + Reg.RDMA_CNP_SENT) 31 0 1 (qpMod q (fun x => { x with cnpAt := some s.clk.ticks }) s)))
  else s

/-- A packet that arrives on a QP: a QP in ERROR answers NAK Invalid Request (R368); one that is not ready takes none. One marked
Congestion Experienced is answered with a CNP (R367). -/
def onQp (q psn : Nat) (ecn : Bool) (f : Qp → State → State) (s : State) : State :=
  let x := qp s q
  if !rdmaUp s x.port then s
  else
    match x.state with
    | .rts => f x (if ecn then answerEcn q s else s)
    | .error => sendNak q psn nakInvalid s
    | _ => s

/-- The answer to a cause of R281: NAK syndrome and cause in the event (R365). -/
def rdmaAnswer (c : Nat) : Nat × Nat := (if c = 0xC ∨ c = 0xD then nakOperation else nakAccess, causeReason c)

/-- RDMA access of a QP's context (R270). -/
def viaQp (s : State) (x : Qp) : Via := ⟨x.ctx, .host, ctxSecure s x.ctx, true⟩

/-- Words of a CMEM piece whose writes are lost, by their number from the operation's first word. -/
def lostIn (lost : List Nat) (va a n off : Nat) : List Nat :=
  (wordsOf off n).filter (fun w => lost.contains (w - off / 8 + (a / 8 - va / 8)))

/-- Restore words that lost their write (R160). -/
def restoreWords (n : Nat) : List (Nat × List Byte) → State → State
  | [], s => s
  | (w, d) :: r, s => restoreWords n r (cmemPutRaw n (8 * w) d s)

/-- A write that is discarded clears no error of its word (R160, R161): the marks that `old` held for these words stand again. -/
def restoreMarks (n : Nat) (ws : List Nat) (old s : State) : State :=
  let keys := ws.map (wordKey old n)
  let put (x y : List Nat) : List Nat := x ++ y.filter (fun k => keys.contains k && !x.contains k)
  let c := clu old n
  if (c.poison ++ c.correct).any (fun k => keys.contains k) then
    cluMod n (fun k => { k with
      poison := put k.poison c.poison, correct := put k.correct c.correct, writeback := put k.writeback c.writeback }) s
  else s

/-- Write the pieces of an RDMA WRITE, line by line (R365, R366); the first failure ends it. -/
def rdmaPieces (v : Via) (lost : List Nat) (va : Nat) : List (Nat × Nat) → List Byte → State → Option (Nat × Nat) × State
  | [], _, s => (none, s)
  | (a, n) :: r, data, s =>
    match translate v.ctx a true v.rdma s with
    | (.error e, s) => (some (rdmaAnswer e.cause), s)
    | (.ok pa, s) =>
      let (cl, ws) := match decodePa s pa with
        | .cmem k o => (k, lostIn lost va a n o)
        | _ => (0, [])
      let old := ws.map (fun w => (w, cmemGetRaw s cl (8 * w) 8))
      match writeLine v.cls v.secure pa (data.take n) s with
      | (.error e, s) => (some (rdmaAnswer e.cause), s)
      | (.ok _, s') =>
        if ws.isEmpty then rdmaPieces v lost va r (data.drop n) s'
        else (some (nakOperation, 0x06), collide cl ws.length (restoreMarks cl ws s (restoreWords cl old s')))

/-- How an RDMA operation is checked before its first line (R365): the R_Key, and an address that has 48 bits (log entry 56). -/
def rdmaDenied (s : State) (va rkey : Nat) : Option (Nat × Nat) :=
  if rkey ≠ rf s (hepReg 0 Reg.HEP_RKEY) 31 0 then some (nakAccess, 0x07)
  else if 2 ^ 48 ≤ va then some (nakAccess, 0x08)
  else none

/-- A failed RDMA operation: the NAK, then ERROR (R365). -/
def rdmaFails (q psn : Nat) (e : Nat × Nat) (s : State) : State := qpError q e.2 psn (sendNak q psn e.1 s)

/-- An RDMA WRITE is carried out (R365). -/
def rdmaWriteNow (q psn va rkey : Nat) (lost : List Nat) (data : List Byte) (s : State) : State :=
  match rdmaDenied s va rkey with
  | some e => rdmaFails q psn e s
  | none =>
    match rdmaPieces (viaQp s (qp s q)) lost va (pieces va data.length) data s with
    | (some e, s) => rdmaFails q psn e s
    | (none, s) => portSend (qp s q).port (.rdmaAck q psn) s

/-- An RDMA READ is carried out (R365). -/
def rdmaReadNow (q psn va rkey len : Nat) (s : State) : State :=
  match rdmaDenied s va rkey with
  | some e => rdmaFails q psn e s
  | none =>
    match virtRead (viaQp s (qp s q)) va len s with
    | (.error e, s) => rdmaFails q psn (rdmaAnswer e.cause) s
    | (.ok d, s) =>
      portSend (qp s q).port (.rdmaData q psn d) (tallyPort (qp s q).port 0x0101 len q s)

/-- What arrived earlier on a QP still waits, so that what arrives now waits behind it (R372). -/
def qpWaits (s : State) (q : Nat) : Bool := s.hostWait.any (fun x => x.1 == q)

/-- Wait in arrival order. -/
def waitHost (q : Nat) (x : HostItem) (s : State) : State := { s with hostWait := s.hostWait ++ [(q, x)] }

/-- RDMA_WRITE. It waits while XLAT is not ON (R274). -/
def rdmaWriteState (q psn va rkey : Nat) (ecn : Bool) (lost : List Nat) (data : List Byte) (s : State) : State :=
  onQp q psn ecn (fun x s =>
    let s := tallyPort x.port 0x0100 data.length q s
    if qpWaits s q || ((rdmaDenied s va rkey).isNone && !xlatOn s) then waitHost q (.write psn va rkey ecn lost data) s
    else rdmaWriteNow q psn va rkey lost data s) s

/-- RDMA_READ. It waits while XLAT is not ON (R274). -/
def rdmaReadState (q psn va rkey len : Nat) (ecn : Bool) (s : State) : State :=
  onQp q psn ecn (fun _ s =>
    if qpWaits s q || ((rdmaDenied s va rkey).isNone && !xlatOn s) then waitHost q (.read psn va rkey len ecn) s
    else rdmaReadNow q psn va rkey len s) s

/-- UNSUPPORTED_PACKET (R363). -/
def unsupportedState (e : Nat) (q : Option Nat) (psn : Nat) (ecn : Bool) (s : State) : State :=
  let stray (s : State) : State := rfAdd ((pgRdma e).base + Reg.RDMA_UNSUPPORTED) 31 0 1 s
  if !rdmaUp s e then s
  else
    match q with
    | none => stray s
    | some q =>
      match (qp s q).state with
      | .rts => sendNak q psn nakInvalid (if ecn then answerEcn q s else s)
      | .error => sendNak q psn nakInvalid s
      | _ => stray s

/-! ### Congestion and retries (R367, R368) -/

/-- RDMA_CC of a QP's port. -/
def ccReg (s : State) (q : Nat) : Nat := (pgRdma (qp s q).port).base + Reg.RDMA_CC

/-- A packet that carries no PSN which its command gives arrives on a QP in ERROR: the PSN of its NAK is a free value. -/
def onQpOpen (q : Nat) (ecn : Bool) (f : Qp → State → State) (s : State) : State :=
  if (qp s q).state = .error then
    let (v, s) := draw s
    onQp q (v % 2 ^ 24) ecn f s
  else onQp q 0 ecn f s

/-- CNP. -/
def cnpState (q : Nat) (s : State) : State :=
  onQpOpen q false (fun _ s => qpMod q (fun x => { x with rate := max (rf s (ccReg s q) 7 0) (x.rate / 2) }) s) s

/-- CC_PERIOD. -/
def ccPeriodState (q : Nat) (s : State) : State :=
  let x := qp s q
  if x.state = .rts then qpMod q (fun x => { x with rate := min 64 (x.rate + rf s (ccReg s q) 15 8) }) s else s

/-- Every unacknowledged SEND of a QP is transmitted again, oldest first. -/
def resend (q : Nat) (s : State) : State := (qp s q).unacked.foldl (fun s e => portSend (qp s q).port e.2.2 s) s

/-- ACK_TIMEOUT: a retry, or ERROR after seven (R368). -/
def ackTimeoutState (q : Nat) (s : State) : State :=
  let x := qp s q
  match x.state, x.unacked with
  | .rts, (psn, _) :: _ =>
    if x.retries < 7 then resend q (qpMod q (fun x => { x with retries := x.retries + 1 }) s)
    else qpError q 0x0B psn s
  | _, _ => s

/-- RNR_NAK: retried without limit after the host's delay (R368). -/
def rnrNakState (q : Nat) (ecn : Bool) (s : State) : State := onQpOpen q ecn (fun _ s => resend q s) s

/-- The SENDs of a QP that an acknowledgement of `psn` covers: the oldest ones, up to the last whose last PSN is not after it. -/
def ackedBy (x : Qp) (psn : Nat) : List (Nat × Nat × Sent) :=
  x.unacked.takeWhile (fun e => decide ((psn + 2 ^ 24 - e.2.1) % 2 ^ 24 < 2 ^ 23))

/-- TRANSPORT_ACK: the SENDs of a QP up to `psn` are acknowledged, and the queue messages among them are removed (R368, R377). -/
def transportAckState (q psn : Nat) (ecn : Bool) (s : State) : State :=
  onQp q psn ecn (fun x s =>
    let l := ackedBy x psn
    if l.isEmpty then s
    else
      let gone (m : QMsg) : Bool := m.sentOn == some q && l.any (fun e => e.2.1 == m.psn)
      qpMod q (fun y => { y with unacked := y.unacked.drop l.length, retries := 0 })
        { s with queues := s.queues.map (fun e => (e.1, { e.2 with msgs := e.2.msgs.filter (fun m => !gone m) })) }) s

/-! ### Loss and return of a port (R381) -/

/-- HEP_PORT_STATUS.LINK changes; IRQ_STATUS.LINK follows (log entry 59). -/
def ethLinkSet (e v : Nat) (s : State) : State := setIrq (pgHep e) 0x10000 (rfSet (hepReg e Reg.HEP_PORT_STATUS) 1 0 v s)

/-- ETHERNET_LINK_DOWN. -/
def ethernetDownState (e : Nat) (s : State) : State :=
  if ethLink s e = 0 then s
  else
    ethLinkSet e 0 { s with
      linkDownAt := tput s.linkDownAt e (msNow s)
      paused := s.paused.filter (fun x => x.1 != e)
      heldTx := s.heldTx.filter (fun x => x.1 != e) }

/-- The queue pairs in use on a port, in order. -/
def portQps (s : State) (e : Nat) : List Nat :=
  (s.qps.filter (fun x => x.2.port == e && (x.2.state == .rts || x.2.state == .connecting))).map (·.1)

/-- The link of a port has been DOWN for HOLD_MS (R381). -/
def holdPassed (s : State) (e : Nat) : Bool :=
  match tget? s.linkDownAt e with
  | none => false
  | some t => decide (t + rf s (hepReg e Reg.HEP_PORT_CONFIG) 31 16 ≤ msNow s)

/-- PORT_HOLD_EXPIRY: every QP of the port enters ERROR, and event 0x0821 is recorded. -/
def portHoldState (e : Nat) (s : State) : State :=
  if ethLink s e = 2 || !holdPassed s e then s
  else
    let s := (portQps s e).foldl (fun s q => qpError q 0x13 (qp s q).psn s) { s with linkDownAt := tdel s.linkDownAt e }
    emitBare (pgHep e) 0x21 s

/-- LINK_RETURN: event 0x0822. SPEED chooses the mode; `mode` is the highest that both ends advertise, which SPEED = 3 asks for
(R361). -/
def linkReturnState (e mode : Nat) (s : State) : State :=
  let speed := rf s (hepReg e Reg.HEP_PORT_CONFIG) 1 0
  let mode := if speed = 3 then mode else speed
  if !isOn s (pgHep e) || ethLink s e == 2 then s
  else
    emitBare (pgHep e) 0x22
      (ethLinkSet e 2 (rfSet (hepReg e Reg.HEP_PORT_STATUS) 3 2 mode { s with linkDownAt := tdel s.linkDownAt e }))

end Sys2Proof.Machine
end

