-- ==== Sys2Proof/Machine/Signals.lean ====
section
/-! DEFINITION. The arrival of signals at their counters (R25 to R29). -/

namespace Sys2Proof.Machine

/-- A signal counts in a CSEQ's counter (R25, R29). A counter above 31 is COUNTER_RANGE at the next command. -/
def cseqToken (n c g incr : Nat) (s : State) : State :=
  let note (e : Nat × Nat × Nat) (s : State) : State :=
    cctxMod n c (fun k => { k with nextError := if k.nextError.isSome then k.nextError else some e }) s
  if 31 < g then note (0x24, 0, 0) s
  else
    let v := csToken s n c g + incr
    let s := csTokenSet n c g (min v 65535) s
    if 65535 < v then note (0x0A, g, 65535) s else s

/-- A signal counts in a gate counter of ACON (R25, R29). -/
def aconToken (c g incr : Nat) (s : State) : State :=
  if 31 < g then s
  else
    let v := gateCtr s c g + incr
    let s := gateCtrSet c g (min v 65535) s
    if 65535 < v then actxMod c (fun a => { a with overrun := some g }) s else s

/-- The page of the agent that consumes a signal. -/
def Signal.page (x : Signal) : Page :=
  match x.cls with
  | 0 => pgCseq x.target
  | 1 => pgMov (moverOf x.target)
  | 2 => pgXseq 0
  | _ => pgAcon

/-- A signal reaches its counter. Counters of a block that is OFF stay in their reset condition (R53, log entry 48). -/
def deliver (x : Signal) (s : State) : State :=
  if pageState s x.page = 0 then s
  else
    match x.cls with
    | 0 => cseqToken x.target x.ctx x.counter x.incr s
    | 1 => streamToken x.target x.counter x.incr s
    | 2 => xseqToken x.ctx x.counter x.incr s
    | _ => aconToken x.ctx x.counter x.incr s

/-- The counter that a signal adds to, by class: a CSEQ's of a context, a stream's, XSEQ's of a context, or ACON's. -/
def Signal.way (x : Signal) : List Nat :=
  match x.cls with
  | 0 => [0, x.target, x.ctx, x.counter]
  | 1 => [1, x.target, x.counter]
  | 2 => [2, x.ctx, x.counter]
  | _ => [3, x.ctx, x.counter]

/-- Whether two signals go from one producer to one counter (R27). -/
def Signal.sameWay (a b : Signal) : Bool := a.producer == b.producer && a.way == b.way

/-- A signal is sent: its ECLK has come, and the _M commands and statistics before it have taken effect (R26, R174). -/
def Signal.isSent (x : Signal) (s : State) : Bool :=
  decide (x.notBefore ≤ s.clk.eclk) && x.gaths.all (fun c => (clu s (x.producer % 4096)).gath.all (fun j => j.cmd != c)) &&
  x.stats.all (fun k => s.statq.all (fun m => m.no != k))

/-- SIGNAL_ARRIVAL: the k-th signal on its way arrives; an earlier one of its producer to the same counter arrives first
(R27), and none before it is sent (R26). -/
def signalArrivalState (k : Nat) (s : State) : State :=
  match s.flying[k]? with
  | none => s
  | some x =>
    let j := s.flying.findIdx (fun y => y.sameWay x)
    match s.flying[j]? with
    | none => s
    | some y => if !y.isSent s then s else deliver y { s with flying := s.flying.eraseIdx j }

end Sys2Proof.Machine
end

