-- ==== Sys2Proof/Machine/Pages.lean ====
section
/-! DEFINITION. Register accesses (R9 to R13, R43 to R49): what each address reads, how each field takes a write, mirrored
pages, and the writes that have an action; the start and stop of a block with what OFF and SOFT_RESET leave (R50 to R53). -/

namespace Sys2Proof.Machine

/-! ### Mirrored registers and 64-bit registers -/

/-- Registers held once and written through instance 0 (R267, R318, R360, R383, R457, R468; log entry 60). -/
def mirrored (type off : Nat) : Bool :=
  match type with
  | 0x0401 => decide (0x100 ≤ off) && off / 4 != Reg.MEMC_INFLIGHT / 4
  | 0x0703 => decide (0x100 ≤ off)
  | 0x0A01 => decide (0x100 ≤ off)
  | 0x0A02 => off == Reg.CLK_REF_SEL
  | 0x0801 => off == Reg.HEP_RKEY || (decide (Reg.HEP_IRQ_BIND ≤ off) && decide (off < Reg.HEP_CTX_QUEUE))
  | 0x0702 => off == Reg.FRT_ROUTE || (decide (Reg.FRT_PORTAL ≤ off) && decide (off < 0x140)) || decide (Reg.FRT_FENCE ≤ off)
  | _ => false

/-- Registers held once that both instances write: HEP_CTXc_QUEUE (R383; log entry 61). -/
def shared (type off : Nat) : Bool :=
  type == 0x0801 && decide (Reg.HEP_CTX_QUEUE ≤ off) && decide (off < Reg.HEP_CTX_QUEUE + 32)

/-- The page that holds a register. -/
def canon (p : Page) (off : Nat) : Page :=
  if p.inst = 1 ∧ (mirrored p.type off || shared p.type off) = true then
    match p.type with
    | 0x0401 => pgMemc 0
    | 0x0703 => pgXseq 0
    | 0x0A01 => pgPst 0
    | 0x0A02 => pgClk 0
    | 0x0801 => pgHep 0
    | 0x0702 => pgFrt 0
    | _ => p
  else p

/-- A write that instance 1 discards. -/
def discards (p : Page) (off : Nat) : Bool := p.inst == 1 && mirrored p.type off

/-- Offset within a context's register set. -/
def ctxOff (stride off : Nat) : Nat := (off - 0x400) % stride
/-- Context of a register set. -/
def ctxNo (stride off : Nat) : Nat := (off - 0x400) / stride

/-- The 64-bit register that holds the word at `off`, if one does (R44, R49 and the register tables). -/
def wide64 (type off : Nat) : Option Nat :=
  let b := off / 8 * 8
  let within (lo hi : Nat) : Bool := decide (lo ≤ off) && decide (off < hi)
  let inCtx (stride : Nat) (f : Nat → Bool) : Bool := decide (0x400 ≤ off) && decide (off < 0x400 + 8 * stride) && f (ctxOff stride off)
  let yes : Bool :=
    if off < 0x100 then within 0x080 0x0D0
    else
      match type with
      | 0x0201 => within 0x110 0x118 || inCtx 0x100 (fun o =>
          (decide (0x10 ≤ o) && decide (o < 0x20)) || (decide (0x28 ≤ o) && decide (o < 0x30)) ||
          (decide (0x40 ≤ o) && decide (o < 0x80)))
      | 0x0301 => inCtx 0x100 (fun o => decide (0x08 ≤ o) && decide (o < 0x20))
      | 0x0202 => within 0x110 0x120
      | 0x0302 => within 0x100 0x110
      | 0x0303 => within 0x100 0x108 || inCtx 0x40 (fun o => decide (0x08 ≤ o) && decide (o < 0x10))
      | 0x0309 => within 0x110 0x118 || within 0x180 0x200
      | 0x0401 => within 0x100 0x108 || within 0x158 0x160 || within 0x168 0x170
      | 0x0402 => within 0x148 0x150
      | 0x0501 => within 0x100 0x108 || within 0x110 0x150
      | 0x0502 => within 0x108 0x110 || within 0x800 0x1000
      | 0x0601 => within 0x140 0x180
      | 0x0702 => within 0x150 0x158
      | 0x0703 => within 0x108 0x110 || inCtx 0x80 (fun o => decide (0x10 ≤ o) && decide (o < 0x18))
      | 0x0801 => within 0x108 0x110
      | 0x0802 => within 0x108 0x110
      | 0x0902 => within 0x138 0x140
      | 0x0C01 => within 0x100 0x148
      | 0x0C02 => within 0x110 0x118 || within 0x140 0x160 || within 0x190 0x1B0
      | _ => false
  if yes then some b else none

/-! ### What an address reads -/

/-- RDMA_QP of the queue pair that RDMA_QSEL of a page selects (R384). -/
def qpRegister (s : State) (e : Nat) : Nat :=
  let x := qp s (rf s ((pgRdma e).base + Reg.RDMA_QSEL) 9 0)
  let st := match x.state with
    | .reset => 0
    | .connecting => 1
    | .rts => 2
    | .error => 3
  x.peer.toNat <<< 40 + x.psn <<< 16 + x.port <<< 12 + b2n x.control <<< 11 + x.ctx <<< 8 + st

/-- A register that shows state held elsewhere, as a whole number of its bytes from the offset answered; `none` where the stored
word is what it reads. -/
def shown (m : Sys2Proof.Master) (s : State) (p : Page) (off : Nat) : Option (Nat × Nat) :=
  let r (lo n v : Nat) : Option (Nat × Nat) := if lo ≤ off ∧ off < lo + n then some (lo, v) else none
  if off < 0x100 then r Hdr.CYCLE 8 (pageCycle s p)
  else
    match p.type with
    | 0x0202 => r Reg.GUARD_USE 4 (rf s (p.base + Reg.GUARD_USE) 24 16 <<< 16 + (liveEntries s.clk.eclk (clu s p.inst).guard).length % 512)
    | 0x0309 => if 0x180 ≤ off ∧ off < 0x200 then some (off / 8 * 8, skWindow s p.inst ((off - 0x180) / 8)) else none
    | 0x0601 =>
      if off = Reg.MOV_LOAD then some (off, movLoad s p.inst)
      else if 0x140 ≤ off ∧ off < 0x180 then some (0x140, streamEntry (strm s (selStream s p.inst)))
      else none
    | 0x0702 => r Reg.FRT_ROUTE 4 (routeOf s (rf s (p.base + Reg.FRT_RSEL) 11 0))
    | 0x0801 =>
      if Reg.HEP_CTX_QUEUE ≤ off ∧ off < Reg.HEP_CTX_QUEUE + 32 then
        let c := (off - Reg.HEP_CTX_QUEUE) / 4
        some (off, rf s (queueReg c) 31 16 <<< 16 + (tget s.queues HostQueue.empty c).msgs.length)
      else none
    | 0x0802 => r Reg.RDMA_QP 8 (qpRegister s p.inst)
    | 0x0101 =>
      let a := p.base + Reg.CORE_MISMATCH
      r Reg.CORE_MISMATCH 4 (if (clu s p.inst).coreWindow = coreWindowNow s then rf s a 31 0 else rf s a 8 0)
    | 0x0B02 => r Reg.PTRL_OLDEST 4 (oldestPass s p.inst)
    | 0x0902 =>
      if off = Reg.SEC_LC then some (off, s.fuses.lifecycle)
      else if off = Reg.SEC_WIPE then
        some (off, if s.sec.wiping then 2 ^ 31 + min 262144 (s.clk.sclk - s.sec.wipeAt) else rf s (p.base + off) 31 0)
      else if off = Reg.SEC_NONCE then some (off, secNonce s)
      else if Reg.SEC_SVN ≤ off ∧ off < Reg.SEC_SVN + 16 then some (off, lget s.fuses.svn ((off - Reg.SEC_SVN) / 4) 0)
      else if off = Reg.SEC_LMS then
        some (off, b2n (lmsExhausted s) <<< 31 + lmsT s <<< 16 + lmsNext s % 2 ^ 15)
      else r Reg.SEC_SPDM_VENDOR 8 (s.fuses.standardId.toNat <<< 32 + s.fuses.vendorId.toNat)
    | 0x0C01 =>
      if off / 8 * 8 = Reg.EVR_HEAD then some (Reg.EVR_HEAD, s.evr.head % 2 ^ 40)
      else if off / 8 * 8 = Reg.EVR_TAIL then some (Reg.EVR_TAIL, s.evr.tail % 2 ^ 40)
      else if off / 8 * 8 = Reg.EVR_FTAIL then some (Reg.EVR_FTAIL, s.evr.ftail % 2 ^ 40)
      else if off / 8 * 8 = Reg.EVR_RSEL then some (Reg.EVR_RSEL, (view s m).rsel.toNat)
      else if Reg.EVR_REC ≤ off ∧ off < Reg.EVR_REC + 32 then
        some (off / 8 * 8, (lget (view s m).latched ((off - Reg.EVR_REC) / 8) 0).toNat)
      else r Reg.EVR_TIME 8 (s.evr.cycles <<< 40 + s.evr.opMs)
    | 0x0C02 =>
      if off = Reg.CDE_SSEL then some (off, (view s m).ssel.toNat)
      else if Reg.CDE_SAMPLE ≤ off ∧ off < Reg.CDE_SAMPLE + 32 then
        some (off / 8 * 8, (lget (view s m).sample ((off - Reg.CDE_SAMPLE) / 8) 0).toNat)
      else none
    | _ => none

/-- The 32-bit word that a read of a page offset shows. -/
def liveWord (m : Sys2Proof.Master) (s : State) (p : Page) (off : Nat) : Nat :=
  match shown m s p off with
  | some (b, v) => (v >>> (8 * (off - b))) % 2 ^ 32
  | none => (regGet s ((canon p off).base + off)).toNat

/-- The 64-bit value of two words. -/
def live64 (m : Sys2Proof.Master) (s : State) (p : Page) (off : Nat) : Nat := liveWord m s p off + liveWord m s p (off + 4) <<< 32

/-- The latches that a 64-bit read of EVR_REC0 or CDE_SAMPLE0 takes (R478, R488). -/
def readLatch (m : Sys2Proof.Master) (p : Page) (off : Nat) (s : State) : State :=
  if p.type = 0x0C01 ∧ off = Reg.EVR_REC then latchRec m s
  else if p.type = 0x0C02 ∧ off = Reg.CDE_SAMPLE then latchSample m s
  else s

/-- A read that reaches its page: 64 bits at once, or a 32-bit half with the shadow of R44. -/
def pageRead (m : Sys2Proof.Master) (p : Page) (off size : Nat) (s : State) : Nat × State :=
  if size = 8 then
    let s := readLatch m p off s
    (live64 m s p off, s)
  else
    match wide64 p.type off with
    | none => (liveWord m s p off, s)
    | some b =>
      if off = b then
        (liveWord m s p off, viewMod m (fun v => { v with shadow := some (p.base + off, BitVec.ofNat 32 (liveWord m s p (off + 4))) }) s)
      else
        match (view s m).shadow with
        | some (a, w) =>
          if a = p.base + b then (w.toNat, viewMod m (fun v => { v with shadow := none }) s) else (liveWord m s p off, s)
        | none => (liveWord m s p off, s)

/-- A register read of a master (R43 to R46). `none` is a decode error. -/
def readReg (m : Sys2Proof.Master) (pa size : Nat) (s : State) : Option Nat × State :=
  match entry m pa size s with
  | .bus true => (none, s)
  | .bus false => (some 0, s)
  | .off => (some 0, if m = .mgc then output (.poweredOff m pa) s else s)
  | .denied p => (some 0, refuseAccess p m pa false s)
  | .go p =>
    let (v, s) := pageRead m p (pa - p.base) size s
    (some v, s)

/-! ### Field writes (R9 to R13) -/

/-- What a write leaves in one field: `w` is the word built so far, `old` the word before the write. -/
def fieldWrite (m : Sys2Proof.Master) (lck : Bool) (old v w : Nat) (r : FieldRow) : Nat :=
  let cur := nfld old r.hi r.lo
  let x := nfld v r.hi r.lo
  match r.acc with
  | .rw => nset w r.hi r.lo x
  | .w1c => nset w r.hi r.lo (cur - (cur &&& x))
  | .w1s => nset w r.hi r.lo (cur ||| x)
  | .rwl => if lck then w else nset w r.hi r.lo x
  | .rws => if Master.secure m then nset w r.hi r.lo x else w
  | .rwsH => if m = .hlth then nset w r.hi r.lo x else w
  | _ => w

/-- A non-secure write that tries to change a field only secure masters write (R11). -/
def fieldDenied (old v : Nat) (r : FieldRow) : Bool :=
  match r.acc with
  | .rws => nfld old r.hi r.lo != nfld v r.hi r.lo
  | .rwsH => nfld old r.hi r.lo != nfld v r.hi r.lo
  | .woS => nfld v r.hi r.lo != 0
  | _ => false

/-- The fields of a word, without WORLD where it is fixed. -/
def writable (p : Page) (off : Nat) : List FieldRow :=
  if off = Hdr.WORLD ∧ fixedWorld p.type = true then [] else fieldsAt p.type off

/-- Write the fields of a word that have no action. -/
def wordStore (m : Sys2Proof.Master) (p : Page) (off v : Nat) (s : State) : State :=
  let a := (canon p off).base + off
  let old := (regGet s a).toNat
  regSet a (BitVec.ofNat 32 ((writable p off).foldl (fieldWrite m (locked s p) old v) old)) s

/-- Whether a write of these words is refused in part under R11. -/
def wordsDenied (m : Sys2Proof.Master) (s : State) (p : Page) (words : List (Nat × Nat)) : Bool :=
  !Master.secure m && words.any (fun (off, v) =>
    !discards p off && (writable p off).any (fieldDenied (regGet s ((canon p off).base + off)).toNat v))

/-! ### Power states of a page (R49, POWER) -/

/-- Registers that show what the failure maps fix, what a clock runs at, or what is sticky until device reset: SOFT_RESET and
power gating leave them (R41, R423; log entry 64). -/
def keptRegister (type off : Nat) : Bool :=
  match type with
  | 0x0201 => decide (off < 0x10C)
  | 0x0401 => decide (off < 0x150)
  | 0x0402 => off == Reg.CGM_STATE
  | 0x0101 => decide (off < 0x10C)
  | 0x0303 => decide (off < 0x10C)
  | 0x0302 => off == Reg.CMEM_BANK_BUSY || (decide (0x120 ≤ off) && decide (off < 0x140))
  | 0x0A01 => off == Reg.PST_FREQ
  | 0x0A02 => off == Reg.CLK_STATUS || off == Reg.CLK_PLL
  | 0x0902 => off == Reg.SEC_TAMPER_STATUS || off == Reg.SEC_WIPE || off == Reg.SEC_BOOT
  | _ => false

/-- The word a register is left with: its reset value, with the RWL fields of a locked page kept. -/
def wordReset (keep : Bool) (p : Page) (a : Nat) (w : Word) (s : State) : Word :=
  let z := (resetWord s.fuses.grade a).toNat
  if keep then
    BitVec.ofNat 32 (((fieldsAt p.type (a - p.base)).filter (fun r => r.acc == .rwl)).foldl
      (fun v r => nset v r.hi r.lo (nfld w.toNat r.hi r.lo)) z)
  else BitVec.ofNat 32 z

/-- What block-specific registers show that is held elsewhere returns to its reset condition with them. -/
def shownReset (p : Page) (s : State) : State :=
  match p.type with
  | 0x0302 => cmemSoftReset p.inst s
  | 0x0309 => { s with skeep := s.skeep.filter (fun e => e.1 / 8192 != p.inst) }
  | 0x0601 => { s with streams := s.streams.filter (fun e => e.1 / 256 != p.inst) }
  | 0x0701 => { s with ports := tdel s.ports p.inst }
  | 0x0702 =>
    if p.inst = 0 then { s with routes := [], regs := resetRegs s s.regs }
    else regSet (p.base + Reg.FRT_DEVID) (regGet s ((pgFrt 0).base + Reg.FRT_DEVID)) s
  | 0x0703 => if p.inst = 0 then { s with xseq := [] } else s
  | 0x0C01 => { s with views := s.views.map (fun e => (e.1, { e.2 with rsel := 0, latched := [] })) }
  | 0x0C02 => { s with views := s.views.map (fun e => (e.1, { e.2 with ssel := 0, sample := [] })) }
  | _ => s

/-- Every block-specific register returns to its reset value, RWL fields of a locked page kept when `keep` (R52). -/
def blockReset (keep : Bool) (p : Page) (s : State) : State :=
  let k := keep && locked s p
  let mine (a : Nat) : Bool :=
    decide (p.base + 0x100 ≤ a) && decide (a < p.base + 0x1000) && !keptRegister p.type (a - p.base)
  let old := s.regs.filter (fun e => mine e.1)
  let s := if p.type = 0x0302 then shownReset p s else s
  let s := old.foldl (fun s e => regSet e.1 (wordReset k p e.1 e.2 s) s) s
  if p.type = 0x0302 then s else shownReset p s

/-- A page at OFF enters a power state: GATED loses the block-specific registers, the array loses its ungated rows (R451). -/
def enterPstate (p : Page) (v : Nat) (s : State) : State :=
  let cur := pstate s p
  if v = cur then s
  else
    let s := if cur = 2 then blockReset false p s else s
    let s := if cur = 2 ∧ p.type = 0x0201 then { s with power := { s.power with rowsOn := 0 } } else s
    let s := if v = 0 then clockRun p s else if cur = 0 then clockStop p s else s
    rfSet (p.base + Hdr.POWER) 9 8 v s

/-- A write of POWER: 3 leaves PSTATE_REQ unchanged; at OFF the request takes effect at once. -/
def powerWrite (p : Page) (v : Nat) (s : State) : State :=
  if locked s p ∨ v % 4 = 3 then s
  else
    let s := rfSet (p.base + Hdr.POWER) 1 0 (v % 4) s
    if pageState s p = 0 then enterPstate p (v % 4) s else s

/-! ### Start and stop (R52, R53) -/

/-- STATE.RESTART_PENDING and a write of CTRL.ENABLE. -/
def restartPending (s : State) (p : Page) : Bool := rf s (p.base + Hdr.STATE) 4 4 == 1
def enableSet (p : Page) (v : Bool) (s : State) : State := rfSet (p.base + Hdr.CTRL) 0 0 (b2n v) s

/-- The block returns to FULL and enters STARTING. -/
def beginStart (p : Page) (s : State) : State := stateSet p 1 (enterPstate p 0 s)

/-- Token counters and status of the eight contexts return to their reset condition. -/
def clearCtxRegs (base : Nat) (stride : Nat) (offs : List Nat) (s : State) : State :=
  (List.range 8).foldl (fun s c => offs.foldl (fun s o => regSet (base + 0x400 + c * stride + o) 0 s) s) s

/-- Offsets of the 32 token counters of a context's set. -/
def tokenOffs (first : Nat) : List Nat := (List.range 16).map (fun i => first + 4 * i)

/-- Guard entries of drains in flight leave with them. -/
def dropJobs (s : State) : State :=
  s.array.jobs.foldl (fun s j => j.cmds.foldl (fun s e => guardLeave e.1 e.2 s.clk.eclk s) s) s

/-- At OFF a block's working state is in its reset condition (R53, R299, R309; log entries 65 and 66). -/
def workReset (p : Page) (s : State) : State :=
  let n := p.inst
  match p.type with
  | 0x0201 =>
    let s := clearCtxRegs p.base 0x100 (0x04 :: tokenOffs 0x80) (regSet activeReg 0 (dropJobs s))
    { s with acon := [], array := { s.array with bank0 := Bank.empty, bank1 := Bank.empty, jobs := [], lastInject := none, lastDrain := none } }
  | 0x0301 =>
    let s := clearCtxRegs p.base 0x100 (0x00 :: tokenOffs 0x40) (csActiveSet n none s)
    cluMod n (fun c => { c with ctxs := [] }) s
  | 0x0303 | 0x0306 | 0x0308 => engineOff p s
  | 0x0309 =>
    let s := { s with statq := s.statq.filter (fun x => x.entry / 8192 != n) }
    rfSet (skCmdReg n) 31 31 0
      ((skHalf s n).foldl (fun s i => skMod i (fun e => { e.clearStats with wCorr := 0 }) s) s)
  | 0x0501 => setFill (rfSet invalReg 31 31 0 { s with xlat := [], inval := none })
  | 0x0601 =>
    let s := (moverStreams s n).foldl (fun s e =>
      e.2.chunks.foldl (fun s ch => ch.clusters.foldl (fun s k => guardLeave k ch.cmd s.clk.eclk s) s) s) s
    moverOff n s
  | 0x0701 => portMod n (fun x => { x with rx := [], latched := [] }) (portLost n s)
  | 0x0702 =>
    regSet (p.base + Reg.FRT_TAGS) 0 { s with tags := s.tags.filter (fun e => e.1 / 8192 != n) }
  | 0x0703 =>
    if n = 0 then clearCtxRegs p.base 0x80 ([0x08, 0x18] ++ tokenOffs 0x40) { s with xseq := [] } else s
  | 0x0801 =>
    let s := rfSet (hepReg n Reg.HEP_PORT_STATUS) 1 0 0 { s with linkDownAt := tdel s.linkDownAt n, heldTx := s.heldTx.filter (fun x => x.1 != n) }
    let s := (s.qps.filter (fun x => x.2.port == n)).foldl (fun s x => qpToReset x.1 s) s
    if pageState s (pgHep (1 - n)) = 0 then { s with queues := s.queues.map (fun e => (e.1, { e.2 with msgs := [], lostFlag := false })) }
    else s
  | 0x0802 => (s.qps.filter (fun x => x.2.port == n)).foldl (fun s x => qpToReset x.1 s) s
  | 0x0B01 =>
    rfSet (p.base + Reg.HLTH_CMD) 31 31 0
      { s with clusters := s.clusters.map (fun e => (e.1, { e.2 with move := none })) }
  | _ => s

/-- The registers reset at OFF, when a SOFT_RESET is due (R52). -/
def softResetNow (p : Page) (s : State) : State :=
  blockReset true p { s with softDue := s.softDue.filter (· != p.base) }

/-- A SOFT_RESET waits for OFF. -/
def softResetLater (p : Page) (s : State) : State :=
  { s with softDue := if s.softDue.contains p.base then s.softDue else s.softDue ++ [p.base] }

/-- A write of CTRL (R41, R48, R52). ENABLE written 1 again sets PSTATE_REQ to FULL (DEDUCED, log entry 88). -/
def ctrlWrite (p : Page) (v : Nat) (s : State) : State :=
  let blocked := retired s p || (locked s p && pstateWanted s p == 2)
  let en := nbit v 0 && !blocked
  let soft := nbit v 1
  let st := pageState s p
  if nbit v 0 && blocked && !soft then s
  else
    let s := if p.type = 0x0701 then portMod p.inst (fun x => { x with locked := false }) s else s
    let s := if en && !locked s p then rfSet (p.base + Hdr.POWER) 1 0 0 s else s
    let s := enableSet p en s
    match soft, en with
    | false, true =>
      if st = 0 then beginStart p s else if st = 3 then pendingSet p true s else s
    | false, false =>
      if st = 1 ∨ st = 2 then stateSet p 3 s else if st = 3 then pendingSet p false s else s
    | true, false =>
      if st = 0 then softResetNow p s
      else if st = 3 then pendingSet p false (softResetLater p s)
      else stateSet p 3 (softResetLater p s)
    | true, true =>
      if st = 0 then beginStart p (softResetNow p s)
      else pendingSet p true (stateSet p 3 (softResetLater p s))

/-- In-flight work that holds a stop (R52, R299): waves and readers of the array, _M commands of a cluster, and a Mover's issued
chunks (log entry 86). -/
def stopWaits (s : State) (p : Page) : Bool :=
  match p.type with
  | 0x0201 => !s.array.jobs.isEmpty
  | 0x0301 | 0x0308 => !(clu s p.inst).gath.isEmpty
  | 0x0601 => decide (0 < moverChunks s p.inst)
  | _ => false

/-- STOP_COMPLETE (R52, R53): the commands that a CSEQ has issued end with its stop (log entry 31). -/
def stopCompleteState (p : Page) (s : State) : State :=
  if pageState s p ≠ 3 || stopWaits s p then s
  else
    let s := if p.type = 0x0301 then eclkTo (enginesDone s p.inst) s else s
    let s := workReset p s
    let s := if s.softDue.contains p.base then softResetNow p s else s
    if restartPending s p then beginStart p (pendingSet p false s)
    else
      reachOff p s

/-- START_COMPLETE (R52). A port begins to train once its page is ON (R306, R361). -/
def startCompleteState (p : Page) (s : State) : State :=
  if pageState s p ≠ 1 then s
  else
    let s := stateReached p 2 s
    if p.type = 0x0701 then trainingRetryState p.inst s
    else if p.type = 0x0801 ∧ ethLink s p.inst = 0 then ethLinkSet p.inst 1 s
    else s

/-! ### Header writes (R49 to R51, R482) -/

/-- A write of IRQ_STATUS: a cleared bit may raise a message again once it is set again (R50). -/
def irqStatusWrite (m : Sys2Proof.Master) (p : Page) (v : Nat) (s : State) : State :=
  let s := wordStore m p Hdr.IRQ_STATUS v s
  match tget? s.irqSent p.base with
  | none => s
  | some x => { s with irqSent := tput s.irqSent p.base (x &&& rf s (p.base + Hdr.IRQ_STATUS) 31 0) }

/-- A write of IRQ_ENABLE: a bit that is set and becomes enabled requests its interrupt, once (R50). -/
def irqEnableWrite (m : Sys2Proof.Master) (p : Page) (v : Nat) (s : State) : State :=
  let s := wordStore m p Hdr.IRQ_ENABLE (v &&& (irqBlockMask p.type + 3)) s
  let now := rf s (p.base + Hdr.IRQ_STATUS) 31 0 &&& rf s (p.base + Hdr.IRQ_ENABLE) 31 0
  deliverIrq p (now - (now &&& tget s.irqSent 0 p.base)) s

/-- ERR_CODE.CLEAR. -/
def errClear (p : Page) (s : State) : State :=
  regSet (p.base + Hdr.ERR_INFO1) 0 (regSet (p.base + Hdr.ERR_INFO0) 0 (regSet (p.base + Hdr.ERR_CODE) 0 s))

/-- CNT_CTRL.CLEAR (R482). -/
def counterClear (p : Page) (s : State) : State :=
  rfSet (p.base + Hdr.CNT_CTRL) 23 16 0 ((List.range 8).foldl (fun s i => reg64Set (p.base + Hdr.CNT + 8 * i) 0 s) s)

/-- A header word is written. -/
def headerWrite (m : Sys2Proof.Master) (p : Page) (off v : Nat) (s : State) : State :=
  if off = Hdr.CTRL then ctrlWrite p v s
  else if off = Hdr.IRQ_STATUS then irqStatusWrite m p v s
  else if off = Hdr.IRQ_ENABLE then irqEnableWrite m p v s
  else if off = Hdr.ERR_CODE then (if nbit v 31 then errClear p s else s)
  else if off = Hdr.POWER then powerWrite p v s
  else if off = Hdr.CNT_CTRL + 4 then
    let s := wordStore m p off v s
    if nbit v 1 then counterClear p s else s
  else wordStore m p off v s

/-! ### Block-specific writes -/

/-- A write of ACON_CTXc_REPLAY (R154). -/
def replayWrite (c v : Nat) (s : State) : State :=
  let busy := acState s c != stIdle
  let big := decide (0x3EB < nfld v 21 12)
  if busy && big then recordErrors2 pgAcon 0x27 0x28 s
  else if big then recordError pgAcon 0x27 0 0 s
  else if busy then aconIgnored s
  else rfSet (acReg c Reg.ACON_CTX_REPLAY) 21 12 (nfld v 21 12) s

/-- A write of ACON_CTXc_CTRL: in RETURN no secure context can be created (R424). -/
def ctxCtrlWrite (m : Sys2Proof.Master) (c v : Nat) (s : State) : State :=
  let v := if s.fuses.lifecycle = 3 ∧ ctxSecure s c = false then nset v 8 8 0 else v
  wordStore m pgAcon (Reg.ACON_CTX_CTRL + c * 0x100) v s

/-- A write of CLK_REF_SEL: a value that names no port of the device is discarded (R457). -/
def refSelWrite (m : Sys2Proof.Master) (v : Nat) (s : State) : State :=
  let x := v % 256
  if !Master.secure m then s
  else if x = 0xFF ∨ x < atwinPorts s.fuses.grade ∨ x = 0x10 ∨ x = 0x11 then wordStore m (pgClk 0) Reg.CLK_REF_SEL v s
  else recordError (pgClk 0) 0x20 0 0 s

/-- A write of ATP_CONFIG: DIM values 8 to 15 are ignored (R332). -/
def atpConfigWrite (m : Sys2Proof.Master) (p : Page) (v : Nat) (s : State) : State :=
  wordStore m p Reg.ATP_CONFIG (if 8 ≤ v % 16 then nset v 3 0 (rf s (p.base + Reg.ATP_CONFIG) 3 0) else v) s

/-- A write of PST_BUDGET: BUDGET_W is held within its range (R443). -/
def budgetWrite (m : Sys2Proof.Master) (v : Nat) (s : State) : State :=
  let old := budgetW s
  let s := wordStore m (pgPst 0) Reg.PST_BUDGET (nset v 11 0 old) s
  if Master.secure m && nfld v 11 0 != old then budgetStore (nfld v 11 0) s else s

/-- A block-specific word with an action of its own, or a plain one. -/
def blockWrite (m : Sys2Proof.Master) (p : Page) (off v : Nat) (s : State) : State :=
  let sec := Master.secure m
  let plain := wordStore m p off v
  match p.type with
  | 0x0201 =>
    if 0x400 ≤ off ∧ off < 0xC00 then
      let c := ctxNo 0x100 off
      let o := ctxOff 0x100 off
      if o = 0 then ctxCtrlWrite m c v s
      else if o = 0x08 then aconCmd c (v % 256) s
      else if o = 0x20 then replayWrite c v s
      else plain s
    else plain s
  | 0x0101 =>
    if off = Reg.CORE_MISMATCH then plain (cluMod p.inst (fun c => { c with coreWindow := coreWindowNow s }) s)
    else if regGet (plain s) (p.base + off) = regGet s (p.base + off) then plain s
    else refreshCore p.inst 0x0B02 (plain s)
  | 0x0302 => if off = Reg.CMEM_BANK_WORLD then (if sec then bankWorldWrite p.inst v s else s) else plain s
  | 0x0309 =>
    if off = Reg.SKEEP_CMD then skCmdWrite p.inst v s
    else if off = Reg.SKEEP_SEL then skSelWrite p.inst (plain s)
    else plain s
  | 0x0401 => if off = Reg.MEMC_EVAC then (if sec then evacWrite m v s else s) else plain s
  | 0x0402 =>
    if off = Reg.CGM_FAIL then (if sec && decide (nfld v 3 0 ≤ 8) then memberFail p.inst (nfld v 3 0) 3 s else s) else plain s
  | 0x0501 => if off = Reg.XLAT_INVAL_CMD then invalWrite v s else plain s
  | 0x0601 => if off = Reg.MOV_SCMD then movScmd p.inst v s else plain s
  | 0x0701 =>
    if off = Reg.ATP_CONFIG then atpConfigWrite m p v s
    else if off = Reg.ATP_KEY_CTRL then (if sec && nbit v 31 then keySwitchWrite p.inst s else s)
    else if off = Reg.ATP_SALT_STANDBY then (if sec then saltWrite p.inst v s else s)
    else if Reg.ATP_KEY_STANDBY ≤ off ∧ off < Reg.ATP_KEY_STANDBY + 32 then
      (if sec then keyWordWrite p.inst ((off - Reg.ATP_KEY_STANDBY) / 4) v s else s)
    else plain s
  | 0x0702 =>
    if off = Reg.FRT_DEVID then devidWrite p.inst (v % 4096) s
    else if off = Reg.FRT_ROUTE then routeWrite p.inst v s
    else if Reg.FRT_FENCE ≤ off ∧ off < Reg.FRT_FENCE + 512 then fenceWrite p.inst ((off - Reg.FRT_FENCE) / 4) v s
    else plain s
  | 0x0703 =>
    if 0x400 ≤ off ∧ off < 0x800 then
      let c := ctxNo 0x80 off
      let o := ctxOff 0x80 off
      if o = 0x04 then xseqCmd c (v % 256) s
      else if o = 0x24 then (if sec then setEpochWrite c v s else s)
      else plain s
    else plain s
  | 0x0802 => if off = Reg.RDMA_QP_CMD then qpCmdWrite p.inst v s else plain s
  | 0x0B01 => if off = Reg.HLTH_CMD then hlthCmdWrite v s else plain s
  | 0x0901 => if p.base + off = mgcWdogReg then wdogWrite s else plain s
  | 0x0902 => if off = Reg.SEC_LC_CMD then lcCmdWrite v s else plain s
  | 0x0A01 => if off = Reg.PST_BUDGET then budgetWrite m v s else plain s
  | 0x0A02 => if off = Reg.CLK_REF_SEL then refSelWrite m v s else plain s
  | 0x0C01 => if off = Reg.EVR_CLEAR then evrClearWrite m (v % 65536) s else plain s
  | 0x0C02 =>
    if off = Reg.CDE_CMD then cdeCmdWrite v s
    else if off = Reg.CDE_SSEL then viewMod m (fun x => { x with ssel := BitVec.ofNat 32 (v &&& 0x83FF00FF) }) s
    else plain s
  | _ => plain s

/-- A 64-bit register whose write has an action: `w` is the register's value with the written bytes in place. `none` for every
other register. -/
def wideWrite (m : Sys2Proof.Master) (p : Page) (base off size v w : Nat) (s : State) : Option State :=
  match p.type with
  | 0x0201 =>
    let c := ctxNo 0x100 base
    let o := ctxOff 0x100 base
    if 0x400 ≤ base ∧ (o = 0x10 ∨ o = 0x18) then
      some (if acState s c = stIdle then reg64Set (p.base + base) (w % 2 ^ 48) s else aconIgnored s)
    else none
  | 0x0301 =>
    if 0x400 ≤ base ∧ ctxOff 0x100 base = 0x08 then
      some (if csState s p.inst (ctxNo 0x100 base) = 0 then reg64Set (p.base + base) (w % 2 ^ 48) s else s)
    else none
  | 0x0302 =>
    if base = Reg.CMEM_BANK_PWR_REQ then
      some ((List.range' (4 * (off - base)) (4 * size)).foldl (fun s b => bankRequest p.inst b (nfld w (2 * b + 1) (2 * b)) s) s)
    else none
  | 0x0309 =>
    if 0x180 ≤ base ∧ base < 0x1C0 then some (skEntryWrite p.inst ((base - 0x180) / 8) w s) else none
  | 0x0501 =>
    if 0x110 ≤ base ∧ base < 0x150 then
      let c := (base - 0x110) / 8
      let x := nset (nset (nset w 63 48 0) 20 1 0) 0 0 (w % 2)
      let s' := reg64Set (p.base + base) x s
      some (if ctxSecure s c && !Master.secure m then (if x = reg64 s (p.base + base) then s else refuseAccess p m (p.base + off) true s)
        else s')
    else none
  | 0x0502 => if 0x800 ≤ base then some (regionWrite ((base - 0x800) / 8) w s) else none
  | 0x0601 => if 0x140 ≤ base ∧ base < 0x180 then some (streamWrite p.inst (off - 0x140) size v s) else none
  | 0x0703 =>
    let c := ctxNo 0x80 base
    if 0x400 ≤ base ∧ base < 0x800 ∧ ctxOff 0x80 base = 0x10 then
      some (if xState s c = xIdle ∨ xState s c = xRolledBack then reg64Set ((pgXseq 0).base + base) (w % 2 ^ 48) s else xIgnored s)
    else none
  | 0x0C01 =>
    if base = Reg.EVR_RSEL then
      some (viewMod m (fun x => { x with rsel := BitVec.ofNat 64 (nset w 62 40 0) }) s)
    else none
  | _ => none

/-- The 32-bit words of a write, low address first. -/
def writeWords (off size v : Nat) : List (Nat × Nat) :=
  if size = 8 then [(off, v % 2 ^ 32), (off + 4, v / 2 ^ 32 % 2 ^ 32)] else [(off, v % 2 ^ 32)]

/-- A write that reaches its page (R9 to R13, R44). -/
def pageWrite (m : Sys2Proof.Master) (p : Page) (off size v : Nat) (s : State) : State :=
  let words := writeWords off size v
  let s := if wordsDenied m s p words then refuseAccess p m (p.base + off) true s else s
  let one (s : State) : State :=
    words.foldl (fun s (o, x) =>
      if discards p o then s else if o < 0x100 then headerWrite m p o x s else blockWrite m p o x s) s
  match wide64 p.type off with
  | none => one s
  | some b =>
    if b < 0x100 then one s
    else if discards p off then s
    else
      let w := nset (live64 m s p b) (8 * (off - b) + 8 * size - 1) (8 * (off - b)) v
      (wideWrite m p b off size v w s).getD (one s)

/-- A register write of a master (R43 to R46). `false` is a decode error. A non-secure write to the discovery words of a secure
page is refused like any other (R46). -/
def writeReg (m : Sys2Proof.Master) (pa size v : Nat) (s : State) : Bool × State :=
  match entry m pa size s with
  | .bus e => (!e, s)
  | .off => (true, if m = .mgc then output (.poweredOff m pa) s else s)
  | .denied p => (true, refuseAccess p m pa true s)
  | .go p =>
    if Master.secure m || !pageWorld s p then (true, pageWrite m p (pa - p.base) size v s)
    else (true, refuseAccess p m pa true s)

/-- A write command of a register master: a decode error is answered on its bus. -/
def writeCmd (m : Sys2Proof.Master) (pa size v : Nat) (s : State) : State :=
  let (ok, s) := writeReg m pa size v s
  if ok then s else output (.decodeError m pa) s

/-- A read command of a register master. -/
def readCmd (m : Sys2Proof.Master) (pa size : Nat) (s : State) : State :=
  match readReg m pa size s with
  | (some v, s) => output (.regValue m pa size v) s
  | (none, s) => output (.decodeError m pa) s

end Sys2Proof.Machine
end

