-- ==== Sys2Proof/Machine/HostPort.lean ====
section
/-! DEFINITION. The Filgal Host Protocol (R369 to R376, R380): the checks of a request, each request's effect, its RESP, and the
same requests inside a secured session (R416, R434). -/

namespace Sys2Proof.Machine

open Sys2Proof (MsgHdr)

/-- Who carries a request: its register master, its class and world for memory, and its context (R373, R374, R416). -/
structure Carrier where
  master : Sys2Proof.Master
  cls    : AccClass
  secure : Bool
  ctx    : Nat
deriving DecidableEq, Repr

/-- The answer to a request: STATUS, the body of the RESP, and the state. -/
abbrev Answer := Nat × List Byte × State

/-- MSG_INVALID (R382). -/
def msgInvalid : Nat := 0x20

/-! ### Checks (R370, R371) -/

/-- Body lengths that fit a type. -/
def lengthFits (type n : Nat) : Bool :=
  match type with
  | 1 => n == 64
  | 2 => n == 8
  | 3 => n == 0
  | 4 => n % 16 == 0 && decide (16 ≤ n) && decide (n ≤ 512)
  | 5 => decide (264 ≤ n) && decide (n ≤ 4104) && (n - 8) % 256 == 0
  | 6 => n == 8
  | 7 => n == 0
  | _ => false

/-- The 16-byte operations of a REG_ACCESS, as numbers. -/
def regOps (body : List Byte) : List Nat := (List.range (body.length / 16)).map (fun i => leNat ((body.drop (16 * i)).take 16))

/-- Reserved and range checks of a body by type (R370, R373, R375). -/
def bodyFits (type : Nat) (body : List Byte) : Bool :=
  let v := leNat body
  match type with
  | 1 =>
    [63, 127, 191, 255, 319].all (fun hi => nfld v hi (hi - 15) == 0) && decide (nfld v 335 320 ≤ 16384) &&
    nfld v 351 346 == 0 && nfld v 359 357 == 0 && nfld v 367 362 == 0 && nfld v 511 368 == 0
  | 2 => nfld v 63 8 == 0
  | 4 => (regOps body).all (fun o => nfld o 60 48 == 0 && !nbit o 63)
  | 5 => nfld v 63 48 == 0 && nfld v 7 0 == 0
  | 6 => nfld v 63 52 == 0 && nfld v 7 0 == 0
  | _ => true

/-- A request that may run: the type its command carries, VERSION 1, a fitting length and no nonzero reserved field (R371). -/
def requestFits (type : Nat) (h : Sys2Proof.MsgHdr) (body : List Byte) : Bool :=
  h.type.toNat == type && h.version.toNat == 1 && lengthFits type body.length && h.bodyLen.toNat == body.length &&
  fld h.ctx 7 3 == 0 && h.status.toNat == 0 && h.seq.toNat == 0 && bodyFits type body

/-! ### Register writes of a request (R375) -/

/-- The reason that a write's target records for it, 0 for none: what ERR_CODE.REASON would be after the write, had it been
clear (R375). -/
def writeReason (m : Sys2Proof.Master) (pa size v : Nat) (s : State) : Nat :=
  match pageAt pa with
  | none => 0
  | some p =>
    let (_, t) := writeReg m pa size v (rfSet (p.base + Hdr.ERR_CODE) 15 0 0 s)
    rf t (p.base + Hdr.ERR_CODE) 7 0

/-- A register write of a job: the reason recorded for it and the state. -/
def jobWrite (m : Sys2Proof.Master) (pa size v : Nat) (s : State) : Nat × State :=
  (writeReason m pa size v s, (writeReg m pa size v s).2)

/-- Writes in order, up to the first that records a reason. -/
def jobWrites (m : Sys2Proof.Master) : List (Nat × Nat × Nat) → State → Nat × State
  | [], s => (0, s)
  | (pa, size, v) :: r, s =>
    let (e, s) := jobWrite m pa size v s
    if e = 0 then jobWrites m r s else (e, s)

/-- Access of a carrier to the entry of a stream without its Mover's window (R283, R375, R376): `f` runs, or the page refuses. -/
def onStream (k : Carrier) (i off : Nat) (f : State → State) (s : State) : State :=
  let p := pgMov (moverOf i)
  if !pageLive s p then s
  else if !k.secure && (pageWorld s p || ctxSecure s (strm s i).ctx) then refuseAccess p k.master (p.base + off) true s
  else f s

/-- A write of a stream entry, with the reason recorded for it. -/
def streamJobWrite (k : Carrier) (i off size v : Nat) (s : State) : Nat × State :=
  let go (s : State) : State := onStream k i (0x140 + off) (streamWriteAt i off size v) s
  let a := (pgMov (moverOf i)).base + Hdr.ERR_CODE
  (rf (go (rfSet a 15 0 0 s)) a 7 0, go s)

/-- CTX, CHAIN_VA and VTAB of one stream, up to the first write that records a reason (R375). -/
def streamJob (k : Carrier) (i chain vtab : Nat) (s : State) : Nat × State :=
  let w0 := nset (nfld (streamEntry (strm s i)) 31 0) 18 16 k.ctx
  match streamJobWrite k i 0 4 w0 s with
  | (0, s) =>
    match streamJobWrite k i 8 8 (chain % 2 ^ 48) s with
    | (0, s) => streamJobWrite k i 0x20 8 (vtab % 2 ^ 57) s
    | r => r
  | r => r

/-- The entries of a Mover table, 32 bytes each: the first eight bytes (the stream and six reserved ones), CHAIN_VA, VTAB and the
reserved last eight. -/
def moverTable (n : Nat) (d : List Byte) : List (Nat × Nat × Nat × Nat) :=
  (List.range n).map (fun i =>
    let v := leNat ((d.drop (32 * i)).take 32)
    (nfld v 63 0, nfld v 127 64, nfld v 191 128, nfld v 255 192))

/-- The streams of a job in table order. An entry whose stream number is above 16,383, or whose reserved bytes are not 0, is
MSG_INVALID (log entry 68). -/
def streamJobs (k : Carrier) : List (Nat × Nat × Nat × Nat) → State → Nat × State
  | [], s => (0, s)
  | (i, chain, vtab, rest) :: r, s =>
    if 16384 ≤ i ∨ rest ≠ 0 then (msgInvalid, s)
    else
      match streamJob k i chain vtab s with
      | (0, s) => streamJobs k r s
      | e => e

/-- Stream addresses of the clusters: pairs of cluster and VA, those that are 0 left out. -/
def streamTable (d : List Byte) : List (Nat × Nat) :=
  ((List.range 1024).map (fun n => (n, leNat ((d.drop (8 * n)).take 8) % 2 ^ 48))).filter (fun e => e.2 != 0)

/-- Reads of a job's tables go through the context's translation (R375; log entry 68). -/
def viaJob (s : State) (k : Carrier) : Via := ⟨k.ctx, k.cls, ctxSecure s k.ctx, false⟩

/-- The table at STREAMS_VA; a STREAMS_VA of 0 names none (R375; log entry 68). -/
def streamVas (k : Carrier) (va : Nat) (s : State) : Except Fail (List Byte) × State :=
  if va = 0 then (.ok [], s) else virtRead (viaJob s k) va 8192 s

/-- JOB_LOAD's writes, in the order of the descriptor's rows (R375). -/
def jobLoadRun (k : Carrier) (v : Nat) (s : State) : Nat × State :=
  let c := k.ctx
  let m := k.master
  let ac (o : Nat) : Nat := acReg c o
  match jobWrites m [(ac Reg.ACON_CTX_PROG_VA, 8, nfld v 47 0), (ac Reg.ACON_CTX_SAVE_VA, 8, nfld v 111 64)] s with
  | (0, s) =>
    match streamVas k (nfld v 175 128) s with
    | (.error e, s) => (causeReason e.cause, s)
    | (.ok d, s) =>
      match jobWrites m ((streamTable d).map (fun e => (csReg e.1 c Reg.CSEQ_CTX_STREAM_VA, 8, e.2))) s with
      | (0, s) =>
        let n := nfld v 335 320
        match virtRead (viaJob s k) (nfld v 239 192) (32 * n) s with
        | (.error e, s) => (causeReason e.cause, s)
        | (.ok d, s) =>
          match streamJobs k (moverTable n d) s with
          | (0, s) =>
            let s := { s with jobMovers := tput s.jobMovers c ((moverTable n d).map (·.1)) }
            let ctl := nset (nset (regGet s (ac Reg.ACON_CTX_CTRL)).toNat 6 4 (nfld v 354 352)) 2 1 (nfld v 356 355)
            jobWrites m
              [(xsReg c Reg.XSEQ_CTX_SCHED_VA, 8, nfld v 303 256), (ac Reg.ACON_CTX_REPLAY, 4, nfld v 345 336 <<< 12),
               (ac Reg.ACON_CTX_CTRL, 4, ctl), (xsReg c Reg.XSEQ_CTX_CTRL, 4, nfld v 361 360)] s
          | r => r
      | r => r
  | r => r

/-- JOB_LOAD (R375): CTX_BUSY unless ACON's context is IDLE and XSEQ's IDLE or ROLLED_BACK. -/
def runJobLoad (k : Carrier) (body : List Byte) (s : State) : Answer :=
  let x := xState s k.ctx
  if acState s k.ctx ≠ stIdle ∨ (x ≠ xIdle ∧ x ≠ xRolledBack) then (0x21, [], s)
  else
    let (e, s) := jobLoadRun k (leNat body) s
    (e, [], s)

/-- DOORBELL (R376): for START the Mover streams of the job and XSEQ start first. -/
def runDoorbell (k : Carrier) (body : List Byte) (s : State) : Answer :=
  let c := k.ctx
  let cmd := nfld (leNat body) 7 0
  let s :=
    if cmd = 1 then
      let s := (tget s.jobMovers [] c).foldl (fun s i => onStream k i Reg.MOV_SCMD (streamStartAt i) s) s
      if reg64 s (xsReg c Reg.XSEQ_CTX_SCHED_VA) = 0 then s else (writeReg k.master (xsReg c Reg.XSEQ_CTX_CMD) 4 1 s).2
    else s
  (0, [], (writeReg k.master (acReg c Reg.ACON_CTX_CMD) 4 cmd s).2)

/-- REG_ACCESS operations in order (R373): a decode error ends them, with the executed ones filled in. -/
def runRegOps (m : Sys2Proof.Master) : List Nat → List Nat → State → Nat × List Nat × State
  | [], acc, s => (0, acc, s)
  | o :: r, acc, s =>
    let pa := nfld o 47 0
    let size := if nbit o 61 then 8 else 4
    if nbit o 62 then
      match writeReg m pa size (nfld o 127 64) s with
      | (true, s) => runRegOps m r (acc ++ [o]) s
      | (false, s) => (0x08, acc ++ o :: r, s)
    else
      match readReg m pa size s with
      | (some v, s) => runRegOps m r (acc ++ [nset o 127 64 v]) s
      | (none, s) => (0x08, acc ++ o :: r, s)

/-- REG_ACCESS (R373). -/
def runRegAccess (k : Carrier) (body : List Byte) (s : State) : Answer :=
  let (e, ops, s) := runRegOps k.master (regOps body) [] s
  (e, ops.flatMap (leBytes 16), s)

/-- Whether MEM_WRITE and MEM_READ reach an address: main memory and CMEM only (R374). -/
def memReach (s : State) (pa : Nat) : Bool :=
  match decodePa s pa with
  | .main => true
  | .cmem _ _ => true
  | _ => false

/-- MEM_WRITE lines in order (R374). -/
def runMemLines (k : Carrier) : List (Nat × List Byte) → State → Nat × State
  | [], s => (0, s)
  | (pa, d) :: r, s =>
    if !memReach s pa then (0x08, s)
    else
      match physWrite k.cls k.secure pa d s with
      | (.ok _, s) => runMemLines k r s
      | (.error e, s) => (causeReason e.cause, s)

/-- MEM_WRITE (R374). -/
def runMemWrite (k : Carrier) (body : List Byte) (s : State) : Answer :=
  let pa := leNat (body.take 6)
  let d := body.drop 8
  let (e, s) := runMemLines k ((List.range (d.length / 256)).map (fun i => (pa + 256 * i, (d.drop (256 * i)).take 256))) s
  (e, [], s)

/-- MEM_READ lines in order (R374). -/
def readMemLines (k : Carrier) : List Nat → List Byte → State → Answer
  | [], acc, s => (0, acc, s)
  | pa :: r, acc, s =>
    if !memReach s pa then (0x08, acc, s)
    else
      match physRead k.cls k.secure pa 256 s with
      | (.ok d, s) => readMemLines k r (acc ++ d) s
      | (.error e, s) => (causeReason e.cause, acc, s)

/-- MEM_READ (R374). -/
def runMemRead (k : Carrier) (body : List Byte) (s : State) : Answer :=
  let v := leNat body
  readMemLines k ((List.range (nfld v 51 48 + 1)).map (fun i => nfld v 47 0 + 256 * i)) [] s

/-! ### Requests on a queue pair (R370 to R372) -/

/-- RESP on the QP that carried a request, for the context that the request names (R369, R370). -/
def sendResp (q : Nat) (h : Sys2Proof.MsgHdr) (status : Nat) (body : List Byte) (s : State) : State :=
  let x := qp s q
  sendOn q (16 + body.length) (hostMessage q 0x80 (fld h.ctx 2 0) status h.reqId.toNat 0 body)
    (tallyPort x.port 0x0101 (16 + body.length) q s)

/-- A host that carries a request on a QP. -/
def hostCarrier (q : Fin 1024) (x : Qp) : Carrier := ⟨.host q, .host, false, x.ctx⟩

/-- A BIND takes effect (R380): the queue is sent again from its oldest unacknowledged entry, on the new control QP. -/
def bindQp (q c : Nat) (s : State) : State :=
  let s := regSet (bindReg c) (BitVec.ofNat 32 (2 ^ 31 + q)) s
  let hq := tget s.queues HostQueue.empty c
  flushQueue c { s with queues := tput s.queues c { hq with msgs := hq.msgs.map (fun m => { m with sentOn := none }) } }

/-- What a request of a type does. A BIND takes effect after its RESP (R380). -/
def runType (type : Nat) (x : Qp) (k : Carrier) (body : List Byte) (s : State) : Answer :=
  match type with
  | 1 => runJobLoad k body s
  | 2 => runDoorbell k body s
  | 3 => (if x.control then 0 else msgInvalid, [], s)
  | 4 => runRegAccess k body s
  | 5 => runMemWrite k body s
  | 6 => runMemRead k body s
  | _ => (0, [], s)

/-- A message is executed: checked (R371), run, and answered (R370). -/
def requestNow (type : Nat) (q : Fin 1024) (h : Sys2Proof.MsgHdr) (body : List Byte) (s : State) : State :=
  let x := qp s q
  if !requestFits type h body then sendResp q.val h msgInvalid [] s
  else if fld h.ctx 2 0 ≠ x.ctx then sendResp q.val h 0x07 [] s
  else
    let (e, d, s) := runType type x (hostCarrier q x) body s
    let s := sendResp q.val h e d s
    if type = 3 ∧ e = 0 then bindQp q.val x.ctx s else s

/-- A JOB_LOAD that is to read a table through translation (R375). -/
def jobReads (s : State) (c : Nat) (h : Sys2Proof.MsgHdr) (body : List Byte) : Bool :=
  requestFits 1 h body && fld h.ctx 2 0 == c && acState s c == stIdle && (xState s c == xIdle || xState s c == xRolledBack) &&
    (nfld (leNat body) 175 128 != 0 || nfld (leNat body) 335 320 != 0)

/-- Messages of a QP that hold its receive buffers (R372). -/
def buffersHeld (s : State) (q : Nat) : Nat :=
  (s.hostWait.filter (fun x => x.1 == q && (match x.2 with
    | .message _ _ _ => true
    | _ => false))).length

/-- A message arrives on a QP (R368, R370 to R372). It waits behind what waits there already, and a JOB_LOAD that needs translation
waits while XLAT is not ON (R274). The 64 receive buffers hold what waits: a SEND that finds none free receives an RNR NAK. -/
def request (type : Nat) (q : Fin 1024) (h : Sys2Proof.MsgHdr) (body : List Byte) (s : State) : State :=
  onQpOpen q h.ecn (fun x s =>
    if 64 ≤ buffersHeld s q then
      portSend x.port (.rnrNak q) (rfAdd ((pgRdma x.port).base + Reg.RDMA_NAK_SENT) 31 0 1 s)
    else
      let s := tallyPort x.port 0x0100 (16 + body.length) q s
      if qpWaits s q || (type == 1 && !xlatOn s && jobReads s x.ctx h body) then waitHost q (.message type h body) s
      else requestNow type q h body s) s

def jobLoadState (q : Fin 1024) (h : Sys2Proof.MsgHdr) (body : List Byte) (s : State) : State := request 1 q h body s

def doorbellState (q : Fin 1024) (h : Sys2Proof.MsgHdr) (body : List Byte) (s : State) : State := request 2 q h body s

def bindState (q : Fin 1024) (h : Sys2Proof.MsgHdr) (body : List Byte) (s : State) : State := request 3 q h body s

def regAccessState (q : Fin 1024) (h : Sys2Proof.MsgHdr) (body : List Byte) (s : State) : State := request 4 q h body s

def memWriteState (q : Fin 1024) (h : Sys2Proof.MsgHdr) (body : List Byte) (s : State) : State := request 5 q h body s

def memReadState (q : Fin 1024) (h : Sys2Proof.MsgHdr) (body : List Byte) (s : State) : State := request 6 q h body s

def nopState (q : Fin 1024) (h : Sys2Proof.MsgHdr) (body : List Byte) (s : State) : State := request 7 q h body s

/-- What waited on the queue pairs goes on, in arrival order (R274, R372). A QP in ERROR answers NAK (R368). -/
def hostDue (s : State) : State :=
  s.hostWait.foldl (fun s x =>
    let q := Fin.ofNat 1024 x.1
    match x.2 with
    | .write psn va rkey _ lost data => onQp x.1 psn false (fun _ s => rdmaWriteNow x.1 psn va rkey lost data s) s
    | .read psn va rkey len _ => onQp x.1 psn false (fun _ s => rdmaReadNow x.1 psn va rkey len s) s
    | .message type h body => onQpOpen x.1 false (fun _ s => requestNow type q h body s) s) { s with hostWait := [] }

/-! ### Requests in a secured session (R416, R434) -/

/-- What a SECURE_JOB's request answers: executed by the Management Controller with world S. BIND and NOP are none of the types that
R416 lists. -/
def secureAnswer (h : Sys2Proof.MsgHdr) (body : List Byte) (s : State) : Answer :=
  let t := h.type.toNat
  let k : Carrier := ⟨.mgc, .mgmt, true, fld h.ctx 2 0⟩
  if !requestFits t h body then (msgInvalid, [], s)
  else
    match t with
    | 1 => runJobLoad k body s
    | 2 => runDoorbell k body s
    | 4 => runRegAccess k body s
    | 5 => runMemWrite k body s
    | 6 => runMemRead k body s
    | _ => (msgInvalid, [], s)

/-- SECURE_JOB: inside a secured session over MCTP; its RESP returns in the session. -/
def secureJobState (h : Sys2Proof.MsgHdr) (body : List Byte) (s : State) : State :=
  if !mgcUp s then s
  else if !s.sec.mctp.session then spdmError .mctp 0x04 s
  else
    let (e, d, s) := secureAnswer h body s
    spdmAnswer .mctp [0xFE, 3] 0x7E ([3, fld h.ctx 2 0, e, h.reqId.toNat] ++ d.map (·.toNat)) s

end Sys2Proof.Machine
end

