-- ==== Sys2Proof/Machine/CmdAcon.lean ====
section
/-! DEFINITION. The commands of the Array Conductor (R124 to R154) and of the Great Array (R97 to R123). One definition per command;
each answers a next state. -/

namespace Sys2Proof.Machine

/-- START (R124): START written to ACON_CTXc_CMD reads and checks the program header and makes the context READY, or HALTED.
-/
def execStart (m : Sys2Proof.Master) (c : Sys2Proof.Ctx) (s : State) : Host.Outcome State Fault Refusal :=
  .next (writeCmd m (acReg c Reg.ACON_CTX_CMD) 4 (1) s)

/-- RESUME (R124): RESUME replays a halted window, retries a switch or resume copy, or makes a PREEMPTED context READY. -/
def execResume (m : Sys2Proof.Master) (c : Sys2Proof.Ctx) (s : State) : Host.Outcome State Fault Refusal :=
  .next (writeCmd m (acReg c Reg.ACON_CTX_CMD) 4 (2) s)

/-- ABORT (R153): ABORT stops issue for the context at once and waits for its waves and drain readers to go idle. -/
def execAbort (m : Sys2Proof.Master) (c : Sys2Proof.Ctx) (s : State) : Host.Outcome State Fault Refusal :=
  .next (writeCmd m (acReg c Reg.ACON_CTX_CMD) 4 (3) s)

/-- ABORT_DONE (R153): The aborted context's array activity is idle; banks, held signals and saved state are discarded and
the context returns to IDLE. -/
def execAbortDone (c : Sys2Proof.Ctx) (s : State) : Host.Outcome State Fault Refusal :=
  .next (abortDoneState c s)

/-- PREEMPT (R124): PREEMPT moves a READY context to PREEMPTED, or a RUNNING one at its next window boundary. -/
def execPreempt (m : Sys2Proof.Master) (c : Sys2Proof.Ctx) (s : State) : Host.Outcome State Fault Refusal :=
  .next (writeCmd m (acReg c Reg.ACON_CTX_CMD) 4 (4) s)

/-- ARRAY_GRANT (R125): The free array goes to the READY context of highest priority, lowest number on a tie. -/
def execArrayGrant (s : State) : Host.Outcome State Fault Refusal :=
  .next (arrayGrantState s)

/-- WINDOW_LOAD (R128): ACON fetches a window into its buffer and checks and resolves every instruction and handle. -/
def execWindowLoad (s : State) : Host.Outcome State Fault Refusal :=
  .next (windowLoadState s)

/-- CARRY_SLOT (R133): A carry-prologue slot issues an implicit SAVE or RESTORE of one carried bank once the spacing rules
allow. -/
def execCarrySlot (s : State) : Host.Outcome State Fault Refusal :=
  .next (carrySlotState s)

/-- WINDOW_START (R129): A loaded window whose gate counters hold enough starts at cycle 0 and subtracts GATE_COUNT from
each gated counter. -/
def execWindowStart (s : State) : Host.Outcome State Fault Refusal :=
  .next (windowStartState s)

/-- TOKEN_TIMEOUT (R30): An ACON gate or VSEL wait passes GATE_TIMEOUT and the context halts with TOKEN_TIMEOUT. -/
def execTokenTimeout (s : State) : Host.Outcome State Fault Refusal :=
  .next (tokenTimeoutState s)

/-- WIN (R129): The WIN control instruction ends the previous window and opens a new one with its length, gates, carry and
power class. -/
def execWin (s : State) : Host.Outcome State Fault Refusal :=
  .next (winState s)

/-- FRAME (R111): FRAME sets or unsets the frame and formats of a bank, taking effect for later instructions. -/
def execFrame (s : State) : Host.Outcome State Fault Refusal :=
  .next (frameState s)

/-- MMA (R111): MMA injects A and B panels into the array for K_STEPS steps and adds the products into a bank. -/
def execMma (underrun : Option (Sys2Proof.Cluster × Nat)) (s : State) : Host.Outcome State Fault Refusal :=
  .next (mmaState (underrun.map (fun x => (x.1.val, x.2))) s)

/-- DRAIN (R113): DRAIN sends a drain wave that reads a bank's accumulators and converts them to the output format. -/
def execDrain (s : State) : Host.Outcome State Fault Refusal :=
  .next (drainState s)

/-- DRAIN_COMPLETE (R115): CONV in a cluster writes the last converted output and the tile status record of a drain. -/
def execDrainComplete (n : Sys2Proof.Cluster) (faults : List Sys2Proof.AccFault)
    (s : State) : Host.Outcome State Fault Refusal :=
  .next (drainCompleteState n faults s)

/-- SWAP (R112): SWAP inverts SWAP_STATE, changing which physical bank logical banks name. -/
def execSwap (s : State) : Host.Outcome State Fault Refusal :=
  .next (swapState s)

/-- SIG (R31): SIG queues a signal that ACON holds until the window ends. -/
def execSig (s : State) : Host.Outcome State Fault Refusal :=
  .next (sigState s)

/-- QUIET (R135): QUIET declares a gap in which no array instruction may issue and offers it to patrol. -/
def execQuiet (s : State) : Host.Outcome State Fault Refusal :=
  .next (quietState s)

/-- SAVE (R143): SAVE writes a bank's RAW256 elements and bank record to CMEM in every cluster. -/
def execSave (s : State) : Host.Outcome State Fault Refusal :=
  .next (saveState s)

/-- RESTORE (R144): RESTORE checks the bank record and loads the image back into the bank. -/
def execRestore (underrun : Option (Sys2Proof.Cluster × Nat)) (s : State) : Host.Outcome State Fault Refusal :=
  .next (restoreState (underrun.map (fun x => (x.1.val, x.2))) s)

/-- AUDIT (R136): AUDIT BEGIN or END opens or closes the audited region of the program. -/
def execAudit (s : State) : Host.Outcome State Fault Refusal :=
  .next (auditState s)

/-- VSEL (R140): VSEL reads the micro-batch length, selects a variant, sends VARIANT_ID to the context's agents and jumps.
-/
def execVsel (s : State) : Host.Outcome State Fault Refusal :=
  .next (vselState s)

/-- LOOP (R142): The ACON LOOP instruction counts a loop counter down and branches. -/
def execLoop (s : State) : Host.Outcome State Fault Refusal :=
  .next (loopState s)

/-- JMP (R142): The ACON JMP instruction moves the program counter by TARGET. -/
def execJmp (s : State) : Host.Outcome State Fault Refusal :=
  .next (jmpState s)

/-- END (R124): The ACON END instruction ends the program after its last window's signals are delivered. -/
def execEndProg (s : State) : Host.Outcome State Fault Refusal :=
  .next (endState s)

/-- CONTEXT_DONE (R124): Every signal of the last window is delivered; the context returns to IDLE, sets CTX_DONE and posts
a completion. -/
def execContextDone (c : Sys2Proof.Ctx) (s : State) : Host.Outcome State Fault Refusal :=
  .next (contextDoneState c s)

/-- WINDOW_END (R131): A window reaches cycle LEN − 1, or 2×LEN − 1 if audited, and ends. -/
def execWindowEnd (s : State) : Host.Outcome State Fault Refusal :=
  .next (windowEndState s)

/-- SIGNAL_DELIVERY (R131): The window has ended and all its drains have written; ACON delivers its held signals. -/
def execSignalDelivery (s : State) : Host.Outcome State Fault Refusal :=
  .next (signalDeliveryState s)

/-- REPLAY (R151): ACON restores gate tokens and window-start state, reruns the prologue as restores and reissues the
window. -/
def execReplay (s : State) : Host.Outcome State Fault Refusal :=
  .next (replayState s)

/-- CONTEXT_SWITCH (R146): At a window boundary ACON saves the outgoing context's carried banks and state to SAVE_VA and
makes it READY or PREEMPTED. -/
def execContextSwitch (s : State) : Host.Outcome State Fault Refusal :=
  .next (contextSwitchState s)

end Sys2Proof.Machine
end

