-- ==== Sys2Proof/Machine/CmdAtwin.lean ====
section
/-! DEFINITION. The commands of the Atwin fabric (R303 to R333). One definition per command; each answers a next state. -/

namespace Sys2Proof.Machine

/-- LANE_FAILED (R305): A lane reaches its error threshold or loses CDR lock and the receiver starts a spare swap or narrows
to 3 wide. -/
def execLaneFailed (p : Sys2Proof.PortNo) (f : Sys2Proof.LaneFail) (s : State) : Host.Outcome State Fault Refusal :=
  .next (laneFailedState p f.lane f.codewords f.cdrLost s)

/-- LANE_SWAP (R305): The transmitter receives LANE_SWAP and sends the training pattern on the spare. -/
def execLaneSwap (p : Sys2Proof.PortNo) (u : Sys2Proof.Carried (Fin 5)) (s : State) : Host.Outcome State Fault Refusal :=
  .next (ctrlUnit p u.unit (laneSwapState p u.value) s)

/-- SWAP_AT (R305): The transmitter receives SWAP_AT(n) and switches to the new map at codeword n. -/
def execSwapAt (p : Sys2Proof.PortNo) (u : Sys2Proof.Carried Nat) (s : State) : Host.Outcome State Fault Refusal :=
  .next (ctrlUnit p u.unit (swapAtState p u.value) s)

/-- LANE_SWITCH (R305): At codeword n both ends switch to the new lane map and the swap completes. -/
def execLaneSwitch (p : Sys2Proof.PortNo) (s : State) : Host.Outcome State Fault Refusal :=
  .next (laneSwitchState p s)

/-- ACK (R308): An ACK control unit releases acknowledged packets from the retry buffer. -/
def execAck (p : Sys2Proof.PortNo) (u : Sys2Proof.Carried (BitVec 16)) (s : State) : Host.Outcome State Fault Refusal :=
  .next (ctrlUnit p u.unit (ackState p u.value) s)

/-- NAK (R308): A NAK control unit makes the transmitter resend from the expected SEQ. -/
def execNak (p : Sys2Proof.PortNo) (u : Sys2Proof.Carried (BitVec 16)) (s : State) : Host.Outcome State Fault Refusal :=
  .next (ctrlUnit p u.unit (nakState p u.value) s)

/-- CREDIT (R320): A CREDIT control unit returns buffer credits to the sender. -/
def execCredit (p : Sys2Proof.PortNo) (b : Sys2Proof.Buf) (u : Sys2Proof.Carried (BitVec 16))
    (s : State) : Host.Outcome State Fault Refusal :=
  .next (ctrlUnit p u.unit (creditState p b u.value) s)

/-- KEY_SWITCH (R311): A KEY_SWITCH control unit tells the receiver that packets from SEQ s use the new key. -/
def execKeySwitch (p : Sys2Proof.PortNo) (u : Sys2Proof.Carried (BitVec 16)) (s : State) : Host.Outcome State Fault Refusal :=
  .next (ctrlUnit p u.unit (keySwitchState p u.value) s)

/-- CONTROL_RESEND (R307): ACK and CREDIT units are resent at least once per µs. -/
def execControlResend (p : Sys2Proof.PortNo) (s : State) : Host.Outcome State Fault Refusal :=
  .next (controlResendState p s)

/-- PACKET_RECEIVE (R308): A packet arrives on a link, is checked and then delivered locally, forwarded or dropped. -/
def execPacketReceive (p : Sys2Proof.PortNo) (u : Sys2Proof.LinkUnit) (pkt : Sys2Proof.Packet)
    (s : State) : Host.Outcome State Fault Refusal :=
  .next (packetReceiveState p u pkt s)

/-- PACKET_TRANSMIT (R322): An output port grants a packet it holds credit for and transmits it. -/
def execPacketTransmit (p : Sys2Proof.PortNo) (s : State) : Host.Outcome State Fault Refusal :=
  .next (packetTransmitState p s)

/-- RETRY_TIMEOUT (R308): No ACK arrives for 10 µs and the transmitter resends. -/
def execRetryTimeout (p : Sys2Proof.PortNo) (s : State) : Host.Outcome State Fault Refusal :=
  .next (retryTimeoutState p s)

/-- RETRAIN_END (R308): A retrain ends, resuming from the oldest unacknowledged SEQ or taking the link DOWN after two
failures. -/
def execRetrainEnd (p : Sys2Proof.PortNo) (good : Bool) (s : State) : Host.Outcome State Fault Refusal :=
  .next (retrainEndState p good s)

/-- LOSS_OF_SIGNAL (R306): A link loses signal and goes DOWN with cause 0. -/
def execLossOfSignal (p : Sys2Proof.PortNo) (s : State) : Host.Outcome State Fault Refusal :=
  .next (lossOfSignalState p s)

/-- TRAINING_RETRY (R306): A DOWN port with ENABLE = 1 retries training every 100 ms. -/
def execTrainingRetry (p : Sys2Proof.PortNo) (s : State) : Host.Outcome State Fault Refusal :=
  .next (trainingRetryState p s)

/-- PORT_UP (R330): Training completes and the link is UP with the peer's ID and port recorded. -/
def execPortUp (p : Sys2Proof.PortNo) (peer : BitVec 12) (peerPort : BitVec 4) (peerEncrypt : Bool)
    (s : State) : Host.Outcome State Fault Refusal :=
  .next (portUpState p peer peerPort peerEncrypt s)

/-- THROTTLE_UPDATE (R324): At the end of each 1 µs period a port halves or raises its injection RATE. -/
def execThrottleUpdate (p : Sys2Proof.PortNo) (s : State) : Host.Outcome State Fault Refusal :=
  .next (throttleUpdateState p s)

/-- RESIDENCE_EXPIRY (R327): A packet held longer than RESIDENCE_US at a device is discarded. -/
def execResidenceExpiry (p : Sys2Proof.PortNo) (at_ : Sys2Proof.Place) (s : State) : Host.Outcome State Fault Refusal :=
  .next (residenceExpiryState p at_ s)

/-- TAG_TIMEOUT (R328): An outstanding tag times out; the requester completes with FAB_TIMEOUT and the tag enters
QUARANTINE. -/
def execTagTimeout (t : Fin 16384) (s : State) : Host.Outcome State Fault Refusal :=
  .next (tagTimeoutState t s)

/-- QUARANTINE_EXPIRY (R328): A quarantined tag becomes FREE after 4 ms. -/
def execQuarantineExpiry (t : Fin 16384) (s : State) : Host.Outcome State Fault Refusal :=
  .next (quarantineExpiryState t s)

/-- ROUTE_WRITE (R318): A write of FRT_ROUTE is checked and applied to both FRT instances, or discarded as ROUTE_INVALID. -/
def execRouteWrite (m : Sys2Proof.Master) (inst : Fin 2) (value : BitVec 32)
    (s : State) : Host.Outcome State Fault Refusal :=
  .next (writeCmd m ((pgFrt inst).base + Reg.FRT_ROUTE) 4 (value.toNat) s)

/-- FENCE_WRITE (R326): A write of FRT_FENCE changes the fence bits at the end of its NCLK. -/
def execFenceWrite (m : Sys2Proof.Master) (inst : Fin 2) (j : Fin 128) (value : BitVec 32)
    (s : State) : Host.Outcome State Fault Refusal :=
  .next (writeCmd m ((pgFrt inst).base + Reg.FRT_FENCE + 4 * j.val) 4 (value.toNat) s)

/-- SWITCH (R311): A write of ATP_KEY_CTRL.SWITCH starts a key switch by sending KEY_SWITCH. -/
def execSwitch (m : Sys2Proof.Master) (p : Sys2Proof.PortNo) (s : State) : Host.Outcome State Fault Refusal :=
  .next (writeCmd m ((pgAtp p).base + Reg.ATP_KEY_CTRL) 4 (2 ^ 31) s)

/-- KEY_STANDBY_WRITE (R332): The last write of ATP_KEY_STANDBY installs the standby key and sets STANDBY_VALID. -/
def execKeyStandbyWrite (m : Sys2Proof.Master) (p : Sys2Proof.PortNo) (last : BitVec 64)
    (s : State) : Host.Outcome State Fault Refusal :=
  .next (writeCmd m ((pgAtp p).base + Reg.ATP_KEY_STANDBY + 24) 8 (last.toNat) s)

/-- RD (R315): A REQ RD is served through its portal and answered with RD_DATA or NACK. -/
def execRd (p : Sys2Proof.PortNo) (s : State) : Host.Outcome State Fault Refusal :=
  .next (rdState p s)

/-- WR (R315): A REQ WR is served through its portal and answered with WR_ACK or NACK. -/
def execWr (p : Sys2Proof.PortNo) (s : State) : Host.Outcome State Fault Refusal :=
  .next (wrState p s)

/-- PING (R313): A REQ PING is answered with PONG. -/
def execPing (p : Sys2Proof.PortNo) (s : State) : Host.Outcome State Fault Refusal :=
  .next (pingState p s)

/-- RD_DATA (R328): An RD_DATA response completes its outstanding tag, or is discarded as stale. -/
def execRdData (p : Sys2Proof.PortNo) (s : State) : Host.Outcome State Fault Refusal :=
  .next (rdDataState p s)

/-- WR_ACK (R328): A WR_ACK response completes its outstanding tag. -/
def execWrAck (p : Sys2Proof.PortNo) (s : State) : Host.Outcome State Fault Refusal :=
  .next (wrAckState p s)

/-- PONG (R328): A PONG response completes its outstanding tag. -/
def execPong (p : Sys2Proof.PortNo) (s : State) : Host.Outcome State Fault Refusal :=
  .next (pongState p s)

/-- NACK (R328): A NACK response completes its tag with the reason it carries. -/
def execNack (p : Sys2Proof.PortNo) (s : State) : Host.Outcome State Fault Refusal :=
  .next (nackState p s)

/-- REQ_SEND (R328): A local requester allocates a tag, which goes from FREE to OUTSTANDING with GEN advanced, and sends a
REQ RD, WR or PING, or has it refused with NOT_NEIGHBOUR or NO_ROUTE. -/
def execReqSend (inst : Fin 2) (dst : BitVec 12) (world : Bool) (portal : BitVec 3) (epoch : BitVec 32)
    (k : Sys2Proof.ReqKind) (s : State) : Host.Outcome State Fault Refusal :=
  .next (reqSendState inst dst world portal epoch k s)

end Sys2Proof.Machine
end

