-- ==== Sys2Proof/Machine/CmdCseq.lean ====
section
/-! DEFINITION. The commands of the cluster sequencer (R167 to R178). One definition per command; each answers a next state. -/

namespace Sys2Proof.Machine

/-- STREAM_START (R168): On ACON's start notice each CSEQ reads and checks its stream header. -/
def execStreamStart (n : Sys2Proof.Cluster) (c : Sys2Proof.Ctx) (s : State) : Host.Outcome State Fault Refusal :=
  .next (streamStartState n c s)

/-- STREAM_FETCH (R172): A CSEQ fetch of stream slots completes and fills the queues. -/
def execStreamFetch (n : Sys2Proof.Cluster) (s : State) : Host.Outcome State Fault Refusal :=
  .next (streamFetchState n s)

/-- WAIT (R171): WAIT begins testing its token counter at its ISSUE_AT cycle. -/
def execWait (n : Sys2Proof.Cluster) (s : State) : Host.Outcome State Fault Refusal :=
  .next (waitState n s)

/-- PHASE_START (R171): The counter holds COUNT and the phase is fetched; the CSEQ subtracts COUNT and starts phase cycle 0.
-/
def execPhaseStart (n : Sys2Proof.Cluster) (s : State) : Host.Outcome State Fault Refusal :=
  .next (phaseStartState n s)

/-- CSEQ_WAIT_TIMEOUT (R30): A CSEQ WAIT or VARJ passes WAIT_TIMEOUT and the CSEQ halts with TOKEN_TIMEOUT. -/
def execCseqWaitTimeout (n : Sys2Proof.Cluster) (s : State) : Host.Outcome State Fault Refusal :=
  .next (cseqTimeoutState n s)

/-- SIGNAL (R174): SIGNAL sends a token once every earlier engine write of the context has taken effect. -/
def execSignal (n : Sys2Proof.Cluster) (s : State) : Host.Outcome State Fault Refusal :=
  .next (signalState n s)

/-- VARJ (R175): VARJ waits for the variant mailbox, clears it and jumps to the matching variant entry. -/
def execVarj (n : Sys2Proof.Cluster) (s : State) : Host.Outcome State Fault Refusal :=
  .next (varjState n s)

/-- CSEQ_LOOP (R170): The CSEQ LOOP command counts a loop counter down and branches by slots. -/
def execCseqLoop (n : Sys2Proof.Cluster) (s : State) : Host.Outcome State Fault Refusal :=
  .next (cseqLoopState n s)

/-- CSEQ_JMP (R170): The CSEQ JMP command moves to another slot. -/
def execCseqJmp (n : Sys2Proof.Cluster) (s : State) : Host.Outcome State Fault Refusal :=
  .next (cseqJmpState n s)

/-- CSEQ_END (R177): At END, once commands complete and signals are sent, the stream returns to IDLE and sets CTX_DONE. -/
def execCseqEnd (n : Sys2Proof.Cluster) (s : State) : Host.Outcome State Fault Refusal :=
  .next (cseqEndState n s)

/-- CSEQ_REPLAY (R177): A halted phase with REPLAY_OK restarts at cycle 0 after its issued commands complete. -/
def execCseqReplay (n : Sys2Proof.Cluster) (s : State) : Host.Outcome State Fault Refusal :=
  .next (cseqReplayState n s)

/-- CSEQ_SWITCH (R176): The CSEQ stops at its next WAIT or VARJ, keeps its place and resumes the stream of the context that
now holds the array. -/
def execCseqSwitch (n : Sys2Proof.Cluster) (s : State) : Host.Outcome State Fault Refusal :=
  .next (cseqSwitchState n s)

end Sys2Proof.Machine
end

