-- ==== Sys2Proof/Machine/Ieee.lean ====
section
/-! DEFINITION. IEEE 754-2019 operations of the vector engine in FP32 and FP64 (R59, R193), on codes, with the five
exception flags. Every operation forms the exact value, or a value with a sticky last bit, and rounds it once. -/

namespace Sys2Proof.Machine

/-- The value of an exact result that is a zero: sums of opposite signs give +0, or −0 under RDN. -/
def zeroSum (mode : Nat) (s t : Bool) : Bool := if s = t then s else mode == 2

/-- Round a value once into `f` with IEEE overflow and tininess after rounding. -/
def ieeeRound (f : FloatFmt) (mode : Nat) (v : Val) : Nat × IFlags :=
  match v with
  | .nan _ => (f.nanCode, {})
  | .inf s => (f.signed s f.infCode, {})
  | .fin s 0 _ => (f.signed s 0, {})
  | .fin s m e =>
    let (code, fl) := roundFloat f ⟨mode, true, 0⟩ (.fin s m e)
    let q := ilog2 m e - (f.mbits : Int)
    let (t0, f24, st) := gridSplit m e q
    let t := t0 + b2n (roundUp mode s t0 f24 st 0)
    let tiny := decide (ilog2 t q < f.emin)
    (code, { of := fl.ovf, uf := tiny && fl.inexact, nx := fl.inexact })

/-- The canonical NaN, with invalid operation when `nv`. -/
def ieeeNan (f : FloatFmt) (nv : Bool) : Nat × IFlags := (f.nanCode, { nv := nv })

/-- A value is a signaling NaN. -/
def Val.isSignaling : Val → Bool
  | .nan s => s
  | _ => false

/-- Exact sum of two finite values. -/
def finAdd (mode : Nat) (s : Bool) (m : Nat) (e : Int) (t : Bool) (n : Nat) (g : Int) : Val :=
  let x := min e g
  let a : Int := (if s then -1 else 1) * ((m <<< (e - x).toNat : Nat) : Int)
  let b : Int := (if t then -1 else 1) * ((n <<< (g - x).toNat : Nat) : Int)
  let v := a + b
  if v = 0 then .fin (if m = 0 ∧ n = 0 then zeroSum mode s t else mode == 2) 0 x
  else .fin (decide (v < 0)) v.natAbs x

/-- Sum. -/
def ieeeAdd (f : FloatFmt) (mode : Nat) (x y : Val) : Nat × IFlags :=
  match x, y with
  | .nan a, y => ieeeNan f (a || y.isSignaling)
  | x, .nan b => ieeeNan f (b || x.isSignaling)
  | .inf s, .inf t => if s = t then (f.signed s f.infCode, {}) else ieeeNan f true
  | .inf s, _ => (f.signed s f.infCode, {})
  | _, .inf t => (f.signed t f.infCode, {})
  | .fin s m e, .fin t n g => ieeeRound f mode (finAdd mode s m e t n g)

/-- The negated value. -/
def Val.neg : Val → Val
  | .nan s => .nan s
  | .inf s => .inf (!s)
  | .fin s m e => .fin (!s) m e

/-- Exact product of two values that are no NaN; `none` is 0 × ∞. -/
def valMul : Val → Val → Option Val
  | .inf s, .inf t => some (.inf (s != t))
  | .inf s, .fin t n _ => if n = 0 then none else some (.inf (s != t))
  | .fin s m _, .inf t => if m = 0 then none else some (.inf (s != t))
  | .fin s m e, .fin t n g => some (.fin (s != t) (m * n) (e + g))
  | x, _ => some x

/-- Product. -/
def ieeeMul (f : FloatFmt) (mode : Nat) (x y : Val) : Nat × IFlags :=
  if x.isNan || y.isNan then ieeeNan f (x.isSignaling || y.isSignaling)
  else
    match valMul x y with
    | none => ieeeNan f true
    | some v => ieeeRound f mode v

/-- x × y + z, rounded once; 0 × ∞ is invalid for every z (R59). -/
def ieeeFma (f : FloatFmt) (mode : Nat) (x y z : Val) : Nat × IFlags :=
  if x.isNan || y.isNan then ieeeNan f (x.isSignaling || y.isSignaling || z.isSignaling)
  else
    match valMul x y with
    | none => ieeeNan f true
    | some p => if z.isNan then ieeeNan f z.isSignaling else ieeeAdd f mode p z

/-- A quotient of nonzero magnitudes to 128 bits, with a sticky last bit. -/
def quotient (m n : Nat) : Nat × Int :=
  let k := 128 + Nat.log2 n
  let d := (m <<< k) / n
  (2 * d + b2n ((m <<< k) % n != 0), -(k : Int) - 1)

/-- Quotient. -/
def ieeeDiv (f : FloatFmt) (mode : Nat) (x y : Val) : Nat × IFlags :=
  match x, y with
  | .nan a, y => ieeeNan f (a || y.isSignaling)
  | x, .nan b => ieeeNan f (b || x.isSignaling)
  | .inf _, .inf _ => ieeeNan f true
  | .inf s, .fin t _ _ => (f.signed (s != t) f.infCode, {})
  | .fin s _ _, .inf t => (f.signed (s != t) 0, {})
  | .fin s m e, .fin t n g =>
    if n = 0 then (if m = 0 then ieeeNan f true else (f.signed (s != t) f.infCode, { dz := true }))
    else if m = 0 then (f.signed (s != t) 0, {})
    else
      let (q, x) := quotient m n
      ieeeRound f mode (.fin (s != t) q (e - g + x))

/-- A square root of m × 2^e to 128 bits and more, with a sticky last bit. -/
def rootOf (m : Nat) (e : Int) : Nat × Int :=
  let (m, e) := if e % 2 = 0 then (m, e) else (2 * m, e - 1)
  let v := m <<< 256
  let r := Nat.sqrt v
  (2 * r + b2n (r * r != v), e / 2 - 128 - 1)

/-- Square root. -/
def ieeeSqrt (f : FloatFmt) (mode : Nat) (x : Val) : Nat × IFlags :=
  match x with
  | .nan a => ieeeNan f a
  | .inf s => if s then ieeeNan f true else (f.infCode, {})
  | .fin s 0 _ => (f.signed s 0, {})
  | .fin s m e =>
    if s then ieeeNan f true
    else
      let (r, g) := rootOf m e
      ieeeRound f mode (.fin false r g)

/-- Order of two values that are no NaN: x < y; −0 equals +0 unless `zeros` orders it below. -/
def valLt (zeros : Bool) (x y : Val) : Bool :=
  match x, y with
  | .inf s, .inf t => s && !t
  | .inf s, _ => s
  | _, .inf t => !t
  | .fin s m e, .fin t n g =>
    let k := min e g
    let a : Int := (if s then -1 else 1) * ((m <<< (e - k).toNat : Nat) : Int)
    let b : Int := (if t then -1 else 1) * ((n <<< (g - k).toNat : Nat) : Int)
    decide (a < b) || (zeros && m == 0 && n == 0 && s && !t)
  | _, _ => false

/-- Copy a code; a NaN is written canonical and nothing is raised (R193). -/
def ieeeCopy (f : FloatFmt) (c : Nat) : Nat × IFlags := (if (f.decode c).isNan then f.nanCode else c, {})

/-- Operation `op` of R193 on codes. -/
def ewOp (f : FloatFmt) (op mode : Nat) (a b c : Nat) : Nat × IFlags :=
  let x := f.decode a
  let y := f.decode b
  let z := f.decode c
  let sel (lt : Bool) : Nat × IFlags :=
    if x.isNan || y.isNan then ieeeNan f (x.isSignaling || y.isSignaling) else (if lt then a else b, {})
  match op with
  | 0x00 => ieeeAdd f mode x y
  | 0x01 => ieeeAdd f mode x (y.neg)
  | 0x02 => ieeeMul f mode x y
  | 0x03 => ieeeDiv f mode x y
  | 0x04 => ieeeFma f mode x y z
  | 0x05 => ieeeSqrt f mode x
  | 0x06 => sel (valLt true x y)
  | 0x07 => sel (valLt true y x)
  | 0x08 => ieeeCopy f (a % f.signBit)
  | 0x09 => ieeeCopy f (if a < f.signBit then a + f.signBit else a - f.signBit)
  | 0x0A =>
    if x.isNan || y.isNan then (0, { nv := x.isSignaling || y.isSignaling })
    else (if valLt false x y then f.bias * 2 ^ f.mbits else 0, {})
  | 0x0B => match x with
    | .fin _ 0 _ => ieeeCopy f c
    | _ => ieeeCopy f b
  | _ => ieeeCopy f a

end Sys2Proof.Machine
end

