-- ==== Sys2Proof/Machine/Vec.lean ====
section
/-! DEFINITION. The VEC engine: PARAM (R189), EW (R193), CVT (R194, shared with CONV), WIDE_ADD (R195), DOT_EXACT (R196,
R197), ACC_DRAIN and ACC_LOAD (R198) and KLOAD (R199). -/

namespace Sys2Proof.Machine

/-- Occupancy of a VEC command: doubled in an audited context (R393). -/
def vecOcc (s : State) (c occ : Nat) : Nat := if auditMode s c = 0 then occ else 2 * occ

/-- A command in an audited context is run twice; the second run may differ at element `d` (R393). -/
def audited (d : Option Nat) (plan : EngArg → State → EngPlan) (a : EngArg) (s : State) : EngPlan :=
  plan { a with differ := if auditMode s a.c = 0 then none else d } s

/-- The element of a group of source elements at which the two runs of an audited command differ, for a command whose results are
no elements of CMEM (R393; log entry 112). -/
def groupDiffers (a : EngArg) (o : Opnd) (g : List (Nat × Nat × Nat)) : Option EErr :=
  match a.differ with
  | none => none
  | some d => (g.find? (fun e => e.2.2 == d)).map (fun (r, c, i) => ⟨0x09, o.at_ r c / 8, i⟩)

/-- A plan that only changes hidden state in one ECLK. -/
def quickPlan (f : State → State) : EngPlan :=
  { issue := none, ranges := [], occ := 1, lat := 0, elems := 0, hold := false, run := fun s => (none, f s) }

/-- The latch that a PARAM body holds (R189). -/
def paramLatch (w : Slot) : Latch := ⟨fld w 101 70, fld w 69 30, fld w 29 5, fld w 4 2⟩

/-- PARAM of VEC. -/
def vecParamPlan (a : EngArg) (_ : State) : EngPlan :=
  quickPlan (cluMod a.n (fun k => { k with vecLatch := tput k.vecLatch a.c (paramLatch a.w) }))

/-- Pepper of an element under SR (R71, R189); other modes use none. -/
def srPepper (mode seed step : Nat) (l : Latch) (index : Nat) : Nat :=
  if mode = 5 then pepper seed l.tensorId ((l.ibase + index) % 2 ^ 40) step else 0

/-- ACON_CTXc_SEED[i]. -/
def seedOf (s : State) (c i : Nat) : Nat := reg64 s (acReg c Reg.ACON_CTX_SEED + 8 * i)

/-- OR exception flags into VEC_CTXc_FLAGS. -/
def vecFlags (n c : Nat) (f : IFlags) (s : State) : State :=
  let a := (pgVec n).base + Reg.VEC_CTX_FLAGS + c * 0x40
  let old := rf s a 4 0
  if f.word ||| old = old then s else rfSet a 4 0 (old ||| f.word) s

/-! ### EW -/

/-- One group of EW: read the sources, compute, write, raise the flags. -/
def ewGroup (a : EngArg) (f : FloatFmt) (op mode : Nat) (uses1 uses2 : Bool) (o0 o1 o2 od : Opnd) (len : Nat)
    (g : List (Nat × Nat × Nat)) (_ : Unit) (s : State) : Except EErr Unit × State :=
  let zeros := g.map (fun _ => 0)
  match rdCodes a o0 g s with
  | (.error e, s) => (.error e, s)
  | (.ok v0, s) =>
    match (if uses1 then rdCodes a o1 g s else (.ok zeros, s)) with
    | (.error e, s) => (.error e, s)
    | (.ok v1, s) =>
      match (if uses2 then rdCodes a o2 g s else (.ok zeros, s)) with
      | (.error e, s) => (.error e, s)
      | (.ok v2, s) =>
        let res := (v0.zip (v1.zip v2)).map (fun (x, y, z) => ewOp f op mode x y z)
        match wrStores a ((g.zip res).map (fun ((r, c, i), (code, _)) => od.store len r c i code)) s with
        | (some e, s) => (.error e, s)
        | (none, s) => (.ok (), vecFlags a.n a.c (res.foldl (fun x y => x.or y.2) {}) s)

/-- EW (R193). -/
def ewPlan (a : EngArg) (s : State) : EngPlan :=
  let w := a.w
  let op := fld w 19 15
  let fmt := fld w 14 10
  let f := (floatOf fmt).getD fFp32
  let mode := fld w 9 7
  let rows := a.rows
  let cols := a.cols
  let uses1 := !(op == 5 || op == 8 || op == 9 || op == 0x0C)
  let uses2 := op == 4 || op == 0x0B
  let o0 := a.src0 f.width (bit w 6)
  let o1 := a.src1 f.width (bit w 5)
  let o2 := a.src2 f.width (bit w 4)
  let od := a.dst f.width (bit w 3)
  let srcs := [o0] ++ (if uses1 then [o1] else []) ++ (if uses2 then [o2] else [])
  let rate := if fmt = 0x0B then 32 else 64
  { issue := operandsBad (([od] ++ srcs).map (fun o => (o, rows, cols)))
    ranges := od.range true rows cols :: srcs.map (fun o => o.range false rows cols)
    occ := vecOcc s a.c (occupancy (rows * cols) rate
      ((srcs.map (fun o => o.bytes rows cols)).foldl (· + ·) 0) (od.bytes rows cols))
    lat := 12
    elems := rows * cols
    hold := false
    run := fun s => haltOf (runGroups (ewGroup a f op mode uses1 uses2 o0 o1 o2 od (od.rowLen rows cols)) (groupsOf rate rows cols) () s) }

/-! ### CVT -/

/-- What a conversion fixes for its elements. -/
structure CvtCfg where
  src   : Nat
  dst   : Nat
  mode  : Nat
  inf   : Bool
  shift : Int
  conv  : Bool
  aux1  : Nat
  cols  : Nat
  seed  : Nat
  step  : Nat
  latch : Latch
deriving DecidableEq, Repr

/-- The rounding of element (r, c). -/
def CvtCfg.round (k : CvtCfg) (r c : Nat) : RoundCfg :=
  ⟨k.mode, k.inf, srPepper k.mode k.seed k.step k.latch (r * k.latch.irow + c)⟩

/-- CMEM offset of the block scale of element (r, c) (R194). -/
def CvtCfg.scaleOff (k : CvtCfg) (r c : Nat) : Nat := k.aux1 + r * ceilDiv k.cols 32 + c / 32

/-- The source value of a code that is no RAW256, times 2^SHIFT. -/
def CvtCfg.value (k : CvtCfg) (scale code : Nat) : Val :=
  (if isBlockFmt k.src then decodeBlock ((floatOf k.src).getD fMace) scale code else decodeFmt k.src 0 code).scale k.shift

/-- Convert one element into a format that is no block format: code, flags and the value measured for AMAX_EXP (R194,
R210). -/
def CvtCfg.elem (k : CvtCfg) (r c scale code : Nat) : Nat × RFlags × Val :=
  if k.src = 0x0F then
    let acc := rawAcc code
    let d := drainElem k.dst 0 k.shift (k.round r c) acc
    (d.code, d.flags, if drainRule acc = 5 then accVal k.shift acc else .nan false)
  else
    let v := k.value scale code
    if k.dst = 0x0F then
      let i := sext 64 code
      let acc := accFinite 0 c (decide (i < 0)) i.natAbs k.shift accEmpty
      (rawOf acc, (drainElem 0x0F 0 0 (k.round r c) acc).flags, v)
    else
      let (x, fl) := roundFmt k.dst 0 (k.round r c) v
      (x, fl, v)

/-- A source element: its position, its block scale and its code. -/
structure CvtSrc where
  r : Nat
  c : Nat
  i : Nat
  scale : Nat
  code : Nat
deriving DecidableEq, Repr

/-- Read the sources of a group. -/
def cvtRead (a : EngArg) (k : CvtCfg) (o : Opnd) : List (Nat × Nat × Nat) → State → Except EErr (List CvtSrc) × State
  | [], s => (.ok [], s)
  | (r, c, i) :: t, s =>
    match rdCode a o r c i s with
    | (.error e, s) => (.error e, s)
    | (.ok code, s) =>
      if k.conv && k.src == 0x0F && rawReserved code then (.error ⟨0x02, o.at_ r c / 8 + 39, i⟩, s)
      else
        match (if isBlockFmt k.src then rdNum a (k.scaleOff r c) 1 i s else (.ok 0, s)) with
        | (.error e, s) => (.error e, s)
        | (.ok sc, s) =>
          match cvtRead a k o t s with
          | (.ok l, s) => (.ok (⟨r, c, i, sc, code⟩ :: l), s)
          | (.error e, s) => (.error e, s)

/-- Cut pending elements of a block destination into complete blocks and the rest (R187). -/
def cutBlocks (cols : Nat) : List CvtSrc → List CvtSrc → List (List CvtSrc) × List CvtSrc
  | [], cur => ([], cur)
  | x :: t, cur =>
    let cur := cur ++ [x]
    if x.c % 32 = 31 ∨ x.c + 1 = cols then
      let (bs, rest) := cutBlocks cols t []
      (cur :: bs, rest)
    else cutBlocks cols t cur

/-- The stores of one block and its scale (R69), and its elements' statistics. -/
def blockStores (k : CvtCfg) (od : Opnd) (len : Nat) (b : List CvtSrc) (t : Stats) : List Store × Stats :=
  match b with
  | [] => ([], t)
  | x :: _ =>
    let vs := b.map (fun e => k.value e.scale e.code)
    let (sc, res) := blockConvert ((floatOf k.dst).getD fMace) (k.round x.r x.c)
      (b.map (fun e => (k.round e.r e.c).pepper)) vs
    let row := k.scaleOff x.r 0
    ((b.zip res).map (fun (e, code, _) => od.store len e.r e.c e.i code) ++
      [⟨k.scaleOff x.r x.c * 8, 8, sc, x.i, row, row + ceilDiv k.cols 32⟩],
     (vs.zip res).foldl (fun t (v, _, fl) => t.add fl v) t)

/-- The stores of complete blocks in order. -/
def blocksStores (k : CvtCfg) (od : Opnd) (len : Nat) : List (List CvtSrc) → Stats → List Store × Stats
  | [], t => ([], t)
  | b :: bs, t =>
    let (l, t) := blockStores k od len b t
    let (m, t) := blocksStores k od len bs t
    (l ++ m, t)

/-- One group of CVT: the statistics so far and the elements of an unfinished block. The blocks that a group completes are
written together, or none of them (R187). No IEEE flag is raised (R59; log entry 89). -/
def cvtGroup (a : EngArg) (k : CvtCfg) (os od : Opnd) (len : Nat) (g : List (Nat × Nat × Nat)) (acc : Stats × List CvtSrc)
    (s : State) : Except EErr (Stats × List CvtSrc) × State :=
  match cvtRead a k os g s with
  | (.error e, s) => (.error e, s)
  | (.ok l, s) =>
    if isBlockFmt k.dst then
      let (blocks, rest) := cutBlocks k.cols (acc.2 ++ l) []
      let (stores, t) := blocksStores k od len blocks acc.1
      match wrStores a stores s with
      | (some e, s) => (.error e, s)
      | (none, s) => (.ok (t, rest), s)
    else
      let res := l.map (fun e => k.elem e.r e.c e.scale e.code)
      match wrStores a ((l.zip res).map (fun (e, code, _) => od.store len e.r e.c e.i code)) s with
      | (some e, s) => (.error e, s)
      | (none, s) => (.ok (res.foldl (fun t (_, fl, v) => t.add fl v) acc.1, []), s)

/-- CVT of VEC or CONV (R194). -/
def cvtPlan (conv : Bool) (a : EngArg) (s : State) : EngPlan :=
  let w := a.w
  let l := latchOf (if conv then (clu s a.n).convLatch else (clu s a.n).vecLatch) a.c
  let rows := a.rows
  let cols := a.cols
  let step := ctxEpoch s a.c
  let k : CvtCfg :=
    { src := fld w 19 15, dst := fld w 14 10, mode := fld w 9 7, inf := bit w 6, shift := sext 12 (fld w 57 46)
      conv := conv, aux1 := a.aux1, cols := cols, seed := seedOf s a.c l.seedSel, step := step, latch := l }
  let os := a.src0 (fmtBits k.src) (bit w 5)
  let od := a.dst (fmtBits k.dst) (bit w 4)
  let stats := bit w 3
  let block := isBlockFmt k.src || isBlockFmt k.dst
  let scales : GRange := ⟨isBlockFmt k.dst, k.aux1, k.aux1 + rows * ceilDiv cols 32⟩
  let rate := if conv then 16 else if k.src = 0x0B ∨ k.dst = 0x0B then 32 else 64
  let scaleBytes := spanBytes k.aux1 (rows * ceilDiv cols 32)
  let occ := occupancy (rows * cols) rate
    (os.bytes rows cols + (if isBlockFmt k.src then scaleBytes else 0) + statsRead stats (bit w 2) a.aux0)
    (od.bytes rows cols + (if isBlockFmt k.dst then scaleBytes else 0) + statsWritten stats a.aux0)
  { issue := firstErr (operandsBad [(od, rows, cols), (os, rows, cols)])
      (firstErr (if block && decide (cmemTop < scales.last) then some (EErr.cmd 0x23) else none)
        (if stats then recordBad a.aux0 else none))
    ranges := [od.range true rows cols, os.range false rows cols] ++ (if block then [scales] else []) ++
      (if stats then [⟨true, a.aux0, a.aux0 + 64⟩] else [])
    occ := if conv then occ else vecOcc s a.c occ
    lat := if conv then 16 else 12
    elems := rows * cols
    hold := false
    run := fun s => withStats a stats (bit w 2) a.aux0 l.tensorId step (fun s =>
      match runGroups (cvtGroup a k os od (od.rowLen rows cols)) (groupsOf rate rows cols) (Stats.zero, []) s with
      | (.ok (t, _), s) => (.ok t, s)
      | (.error e, s) => (.error e, s)) s }

/-! ### WIDE_ADD -/

/-- One result of WIDE_ADD from its source codes: code, flags and measured value (R195). -/
def wideElem (raw narrow : Bool) (sframe : Int) (x y : Nat) : Nat × RFlags × Val :=
  if raw then
    let acc := accCombine (rawAcc x) (rawAcc y)
    (rawOf acc, (drainElem 0x0F 0 0 ⟨0, false, 0⟩ acc).flags,
      if drainRule acc = 5 then accVal sframe acc else .nan false)
  else
    let v : Int := if narrow then sext 128 x else sext 64 x + sext 64 y
    let out := decide (v < -(2 ^ 63 : Int)) || decide ((2 ^ 63 : Int) ≤ v)
    let code := if out then intExtreme 64 (decide (v < 0)) else wrapInt 64 v
    (code, { ovf := out, sat := out, inexact := out, zero := code == 0 },
      .fin (decide (v < 0)) v.natAbs sframe)

/-- One group of WIDE_ADD. -/
def wideGroup (a : EngArg) (raw narrow : Bool) (sframe : Int) (o0 o1 od : Opnd) (len : Nat)
    (g : List (Nat × Nat × Nat)) (t : Stats)
    (s : State) : Except EErr Stats × State :=
  match rdCodes a o0 g s with
  | (.error e, s) => (.error e, s)
  | (.ok v0, s) =>
    match (if narrow then (.ok (g.map (fun _ => 0)), s) else rdCodes a o1 g s) with
    | (.error e, s) => (.error e, s)
    | (.ok v1, s) =>
      let res := (v0.zip v1).map (fun (x, y) => wideElem raw narrow sframe x y)
      match wrStores a ((g.zip res).map (fun ((r, c, i), (code, _)) => od.store len r c i code)) s with
      | (some e, s) => (.error e, s)
      | (none, s) => (.ok (res.foldl (fun t (_, fl, v) => t.add fl v) t), s)

/-- WIDE_ADD (R195). -/
def wideAddPlan (a : EngArg) (s : State) : EngPlan :=
  let w := a.w
  let raw := fld w 19 15 == 0x0F
  let narrow := fld w 14 13 == 1
  let stats := bit w 12
  let rows := a.rows
  let cols := a.cols
  let z := if raw then 320 else 64
  let o0 := a.src0 (if narrow then 128 else z) false
  let o1 := a.src1 z false
  let od := a.dst z false
  let srcs := if narrow then [o0] else [o0, o1]
  let l := latchOf (clu s a.n).vecLatch a.c
  let step := ctxEpoch s a.c
  { issue := firstErr (operandsBad (([od] ++ srcs).map (fun o => (o, rows, cols)))) (if stats then recordBad a.aux0 else none)
    ranges := (od.range true rows cols :: srcs.map (fun o => o.range false rows cols)) ++
      (if stats then [⟨true, a.aux0, a.aux0 + 64⟩] else [])
    occ := vecOcc s a.c (occupancy (rows * cols) 64
      ((srcs.map (fun o => o.bytes rows cols)).foldl (· + ·) 0 + statsRead stats (bit w 11) a.aux0)
      (od.bytes rows cols + statsWritten stats a.aux0))
    lat := 12
    elems := rows * cols
    hold := false
    run := fun s => withStats a stats (bit w 11) a.aux0 l.tensorId step (fun s =>
      runGroups (wideGroup a raw narrow (sext 12 (fld a.x 13 2)) o0 o1 od cols) (groupsOf 64 rows cols) Stats.zero s) s }

/-! ### The accumulator set -/

/-- A set as device reset and ABORT leave it: every accumulator empty, no frame. -/
def AccSet.empty : AccSet := ⟨[], 0, false, 0, 0, 0⟩

/-- A context's accumulator set. -/
def accSet (s : State) (n c : Nat) : AccSet := tget (clu s n).accSets AccSet.empty c

/-- Store a set and show it in VEC_CTXc_ACC (R204). -/
def accSetPut (n c : Nat) (x : AccSet) (s : State) : State :=
  let s := cluMod n (fun k => { k with accSets := tput k.accSets c x }) s
  reg64Set ((pgVec n).base + Reg.VEC_CTX_ACC + c * 0x40)
    (x.fmtA % 32 + (x.fmtB % 32) <<< 5 + b2n x.frameSet <<< 15 + wrapInt 12 x.f <<< 16 + (x.pcount % 2 ^ 25) <<< 32) s

/-- Draw `k` free values. -/
def drawList : Nat → State → List Nat × State
  | 0, s => ([], s)
  | k + 1, s =>
    let (v, s) := draw s
    let (vs, s) := drawList k s
    (v :: vs, s)

/-- A set whose contents, product count, frame and formats are undefined (R198): free values, log entry 5. -/
def accSetUndefined (n c : Nat) (s : State) : State :=
  let (vs, s) := drawList 64 s
  let (p, s) := draw s
  let (q, s) := draw s
  accSetPut n c { accs := vs.zipIdx.map (fun (v, i) => (i, rawAcc v)), pcount := p % 2 ^ 25, frameSet := nbit q 0
                  f := sext 12 (nfld q 12 1), fmtA := nfld q 17 13, fmtB := nfld q 22 18 } s

/-- The run of DOT_EXACT: every output element in turn takes its K pairs (R196, R197). -/
def dotPairs (a : EngArg) (oa ob : Opnd) (fmtA fmtB : Nat) (f : Int) (k0 n : Nat) (kN : Nat) :
    List Nat → Table Acc → State → Except EErr (Table Acc) × State
  | [], t, s => (.ok t, s)
  | i :: is, t, s =>
    let idx := (List.range kN).map (fun k => (k, k, i * kN + k))
    let ra := idx.map (fun (k, _, j) => (i / n, k, j))
    let rb := idx.map (fun (k, _, j) => (i % n, k, j))
    match rdCodes a oa ra s with
    | (.error e, s) => (.error e, s)
    | (.ok va, s) =>
      match rdCodes a ob rb s with
      | (.error e, s) => (.error e, s)
      | (.ok vb, s) =>
        match groupDiffers a oa [(i / n, 0, i)] with
        | some e => (.error e, s)
        | none =>
        let acc := accPairs (limbsOf fmtA) f k0 ((va.map (decodeFmt fmtA 0)).zip (vb.map (decodeFmt fmtB 0)))
          (tget t accEmpty i)
        dotPairs a oa ob fmtA fmtB f k0 n kN is (tput t i acc) s

/-- DOT_EXACT (R196). -/
def dotExactPlan (a : EngArg) (s : State) : EngPlan :=
  let w := a.w
  let kN := fld w 57 42 + 1
  let m := fld w 41 36 + 1
  let n := fld w 35 30 + 1
  let fa := fld w 29 25
  let fb := fld w 24 20
  let zero := bit w 19
  let oa : Opnd := ⟨fld w 101 80, fld a.x 127 106, fmtBits fa, bit w 17⟩
  let ob : Opnd := ⟨fld w 79 58, fld a.x 105 84, fmtBits fb, bit w 16⟩
  let k0 := fld a.x 71 48
  let frame : Option Int := if bit w 18 then defaultFrame fa fb else some (sext 12 (fld a.x 83 72))
  let f := frame.getD 0
  let set := accSet s a.n a.c
  let old := if zero then 0 else set.pcount
  let count := kN * passesOf fa
  let bad := !pairingOk fa fb || isBlockFmt fa || isBlockFmt fb || frame.isNone ||
    (!zero && !(set.frameSet && set.f == f && set.fmtA == fa && set.fmtB == fb))
  let long := decide (2 ^ 24 < old + count) || decide (2 ^ 24 < k0 + kN)
  { issue := firstErr (if long then some (EErr.cmd 0x0D) else if bad then some (EErr.cmd 0x12) else none)
      (operandsBad [(oa, m, kN), (ob, n, kN)])
    ranges := [oa.range false m kN, ob.range false n kN]
    occ := vecOcc s a.c (occupancy (m * n * count) (if fa = 0x0B then 32 else 64) (oa.bytes m kN + ob.bytes n kN) 0)
    lat := 12
    elems := m * n * kN
    hold := false
    run := fun s =>
      let t0 := if zero then [] else set.accs
      match dotPairs a oa ob fa fb f k0 n kN (List.range (m * n)) t0 s with
      | (.ok t, s) =>
        (none, accSetPut a.n a.c { accs := t, pcount := old + count, frameSet := true, f := f, fmtA := fa, fmtB := fb } s)
      | (.error e, s) => (some e, accSetUndefined a.n a.c s) }

/-- A value that does not fit in 280 bits is written as R195 defines. -/
def accFit (x : Acc) : Acc := accCombine x accEmpty

/-- One group of ACC_DRAIN. -/
def accDrainGroup (a : EngArg) (set : AccSet) (od : Opnd) (count fmt : Nat) (x : Int) (cfg : Nat → RoundCfg)
    (g : List (Nat × Nat × Nat)) (tl : DrainTally) (s : State) : Except EErr DrainTally × State :=
  let res := g.map (fun (_, _, i) =>
    let acc := tget set.accs accEmpty i
    (i, acc, drainElem fmt x set.f (cfg i) (if fmt = 0x0F then accFit acc else acc)))
  match wrStores a (res.map (fun (i, _, e) => od.store count 0 i i e.code)) s with
  | (some e, s) => (.error e, s)
  | (none, s) =>
    (.ok (res.foldl (fun tl (i, acc, e) =>
      { tl with
        counts := addCounts tl.counts e.flags.counts
        causes := tl.causes ||| e.causes
        elems := tl.elems + 1
        first := match tl.first with
          | some f => some f
          | none => if e.first then some (i, e.cause, firstKField acc) else none }) tl), s)

/-- ACC_DRAIN (R198). -/
def accDrainPlan (a : EngArg) (s : State) : EngPlan :=
  let w := a.w
  let count := fld w 57 52 + 1
  let fmt := fld w 51 47
  let mode := fld w 46 44
  let nn := fld w 42 37 + 1
  let x := sext 12 (fld w 36 25)
  let set := accSet s a.n a.c
  let l := latchOf (clu s a.n).vecLatch a.c
  let seed := seedOf s a.c l.seedSel
  let step := ctxEpoch s a.c
  let od : Opnd := ⟨fld w 101 80, 0, fmtBits fmt, false⟩
  let st := fld w 79 58
  let cfg (i : Nat) : RoundCfg := ⟨mode, bit w 43, srPepper mode seed step l ((i / nn) * l.irow + i % nn)⟩
  { issue := firstErr (operandsBad [(od, 1, count)]) (recordBad st)
    ranges := [od.range true 1 count, ⟨true, st, st + 64⟩]
    occ := vecOcc s a.c (occupancy count 8 0 (od.bytes 1 count + spanBytes st 64))
    lat := 16
    elems := count
    hold := false
    run := fun s =>
      match runGroups (accDrainGroup a set od count fmt x cfg) (groupsOf 8 1 count)
          (⟨zeroCounts, 0, none, -32768, 0⟩ : DrainTally) s with
      | (.error e, s) => (some e, s)
      | (.ok tl, s) =>
        let (pos, cause, fk) := match tl.first with
          | some (p, q, f) => (2 ^ 15 + p, q, f)
          | none => (0, 0, 0)
        let rec64 := leBytes 64
          ((List.range 8).foldl (fun v i => v + lget tl.counts i 0 <<< (16 * i)) 0 + pos <<< 128 + cause <<< 144 +
           tl.causes <<< 152 + fk <<< 160 + fmt <<< 200 + wrapInt 16 set.f <<< 208 + a.n <<< 224 + step <<< 320)
        wrBytes a st rec64 0 s }

/-- One group of ACC_LOAD. -/
def accLoadGroup (a : EngArg) (o : Opnd) (g : List (Nat × Nat × Nat)) (t : Table Acc) (s : State) :
    Except EErr (Table Acc) × State :=
  match rdCodes a o g s with
  | (.error e, s) => (.error e, s)
  | (.ok l, s) =>
    match (((g.zip l).find? (fun e => rawReserved e.2)).map (fun ((_, c, i), _) => ⟨0x02, o.at_ 0 c / 8 + 39, i⟩)).or
        (groupDiffers a o g) with
    | some e => (.error e, s)
    | none => (.ok ((g.zip l).foldl (fun t ((_, _, i), code) => tput t i (rawAcc code)) t), s)

/-- ACC_LOAD (R198). -/
def accLoadPlan (a : EngArg) (s : State) : EngPlan :=
  let w := a.w
  let count := fld w 79 74 + 1
  let o : Opnd := ⟨fld w 101 80, 0, 320, false⟩
  { issue := operandsBad [(o, 1, count)]
    ranges := [o.range false 1 count]
    occ := vecOcc s a.c (occupancy count 8 (o.bytes 1 count) 0)
    lat := 16
    elems := count
    hold := false
    run := fun s =>
      match runGroups (accLoadGroup a o) (groupsOf 8 1 count) [] s with
      | (.error e, s) => (some e, accSetUndefined a.n a.c s)
      | (.ok t, s) =>
        (none, accSetPut a.n a.c { accs := t, pcount := 0, frameSet := true, f := sext 12 (fld w 63 52)
                                   fmtA := fld w 73 69, fmtB := fld w 68 64 } s) }

/-! ### KLOAD -/

/-- One group of KLOAD. -/
def kloadGroup (a : EngArg) (o : Opnd) (start : Nat) (g : List (Nat × Nat × Nat)) (_ : Unit) (s : State) :
    Except EErr Unit × State :=
  match rdCodes a o g s with
  | (.error e, s) => (.error e, s)
  | (.ok l, s) =>
    let put (t : Table Word64) : Table Word64 :=
      (g.zip l).foldl (fun t e => tput t (a.c * 256 + start + e.1.2.2) (BitVec.ofNat 64 e.2)) t
    match groupDiffers a o g with
    | some e => (.error e, s)
    | none => (.ok (), cluMod a.n (fun k => { k with kstore := put k.kstore }) s)

/-- KLOAD (R199). -/
def kloadPlan (a : EngArg) (s : State) : EngPlan :=
  let count := fld a.w 71 64 + 1
  let o : Opnd := ⟨fld a.w 101 80, 0, 64, false⟩
  { issue := operandsBad [(o, 1, count)]
    ranges := [o.range false 1 count]
    occ := vecOcc s a.c (occupancy count 16 (o.bytes 1 count) 0)
    lat := 4
    elems := count
    hold := false
    run := fun s => haltOf (runGroups (kloadGroup a o (fld a.w 79 72)) (groupsOf 16 1 count) () s) }

/-! ### The commands -/

/-- VEC PARAM. -/
def vecParamState (n : Nat) (o : Sys2Proof.VecObs) (s : State) : State := engineCmd n 1 0x0 o.stall (audited o.differ vecParamPlan) s
/-- VEC EW. -/
def ewState (n : Nat) (o : Sys2Proof.VecObs) (s : State) : State := engineCmd n 1 0x1 o.stall (audited o.differ ewPlan) s
/-- VEC CVT. -/
def vecCvtState (n : Nat) (o : Sys2Proof.VecObs) (s : State) : State := engineCmd n 1 0x2 o.stall (audited o.differ (cvtPlan false)) s
/-- WIDE_ADD. -/
def wideAddState (n : Nat) (o : Sys2Proof.VecObs) (s : State) : State := engineCmd n 1 0x3 o.stall (audited o.differ wideAddPlan) s
/-- DOT_EXACT. -/
def dotExactState (n : Nat) (o : Sys2Proof.VecObs) (s : State) : State := engineCmd n 1 0x4 o.stall (audited o.differ dotExactPlan) s
/-- ACC_DRAIN. -/
def accDrainState (n : Nat) (o : Sys2Proof.VecObs) (s : State) : State := engineCmd n 1 0x5 o.stall (audited o.differ accDrainPlan) s
/-- ACC_LOAD. -/
def accLoadState (n : Nat) (o : Sys2Proof.VecObs) (s : State) : State := engineCmd n 1 0x6 o.stall (audited o.differ accLoadPlan) s
/-- KLOAD. -/
def kloadState (n : Nat) (o : Sys2Proof.VecObs) (s : State) : State := engineCmd n 1 0x7 o.stall (audited o.differ kloadPlan) s

end Sys2Proof.Machine
end

