-- ==== Sys2Proof/Machine/Conv.lean ====
section
/-! DEFINITION. CONV's command pipeline: PARAM (R189), CVT (R194), the Exact Wire WENC and WDEC (R213 to R216) and
STAT_POST (R212). -/

namespace Sys2Proof.Machine

/-- PARAM of CONV. -/
def convParamPlan (a : EngArg) (_ : State) : EngPlan :=
  quickPlan (cluMod a.n (fun k => { k with convLatch := tput k.convLatch a.c (paramLatch a.w) }))

/-! ### Exact Wire -/

/-- Least number of bytes, 1 to 32, in which an integer of at most 256 bits fits; 32 beyond. -/
def wireBytes (q : Int) : Nat :=
  ((List.range 31).find? (fun w => decide (-(2 ^ (8 * w + 7) : Int) ≤ q) && decide (q < (2 ^ (8 * w + 7) : Int)))).map (· + 1)
    |>.getD 32

/-- Trailing zero bits of a nonzero natural number of at most 280 bits. -/
def trailing (m : Nat) : Nat := ((List.range 280).find? (fun i => nbit m i)).getD 0

/-- One element as the wire sees it: its state, the integer being its VALUE. -/
def wireElem (raw : Bool) (code : Nat) : Acc := if raw then rawAcc code else { accEmpty with value := sext 64 code }

/-- The state's marks occupy STATE[31:24]. -/
def marked (x : Acc) : Bool := nfld (rawState x) 31 24 != 0

/-- q_i needs more than 256 bits. -/
def wide (q : Int) : Bool := decide (q < -(2 ^ 255 : Int)) || decide ((2 ^ 255 : Int) ≤ q)

/-- The canonical encoding of a block (R213, R214). -/
def wireBlock (raw : Bool) (f : Int) (xs : List Acc) : List Byte :=
  let vs := xs.map (·.value)
  let nz := vs.filter (· != 0)
  let tz := (nz.map (fun v => trailing v.natAbs)).foldl min 280
  let frame : Int := if nz.isEmpty then 2047 else min 2047 (f + tz)
  let sh := (frame - f).toNat
  let qs := if nz.isEmpty then vs else vs.map (fun v => v / 2 ^ sh)
  let width := if nz.isEmpty then 1 else (qs.map wireBytes).foldl max 1
  let flags := (xs.zip qs).map (fun (x, q) => raw && (marked x || wide q))
  let special := flags.any id
  let head := wrapInt 12 frame + width <<< 12 + b2n special <<< 18 + (xs.length - 1) <<< 19
  let mask := (flags.zipIdx).foldl (fun m (b, i) => m + b2n b <<< i) 0
  leBytes 4 head ++ (if special then leBytes 2 mask else []) ++
    qs.flatMap (fun q => leBytes width (wrapInt 256 q)) ++
    ((xs.zip qs).zip flags).flatMap (fun ((x, q), b) => if b then leBytes 8 (rawState { x with value := q }) else [])

/-- Worst-case bytes of a block (R215). -/
def wireWorst (raw : Bool) : Nat := if raw then 646 else 132

/-- Read the elements of a block; a RAW256 element with a nonzero reserved byte halts (R61). -/
def wireRead (a : EngArg) (raw : Bool) (o : Opnd) (g : List (Nat × Nat × Nat)) (s : State) : Except EErr (List Acc) × State :=
  match rdCodes a o g s with
  | (.error e, s) => (.error e, s)
  | (.ok l, s) =>
    match (g.zip l).find? (fun e => raw && rawReserved e.2) with
    | some ((r, c, i), _) => (.error ⟨0x02, o.at_ r c / 8 + 39, i⟩, s)
    | none => (.ok (l.map (wireElem raw)), s)

/-- One block of WENC; the accumulator is the number of bytes written so far. -/
def wencGroup (a : EngArg) (raw : Bool) (f : Int) (o : Opnd) (dst n : Nat) (g : List (Nat × Nat × Nat)) (pos : Nat)
    (s : State) : Except EErr Nat × State :=
  match wireRead a raw o g s with
  | (.error e, s) => (.error e, s)
  | (.ok xs, s) =>
    let out := wireBlock raw f xs
    let i0 := (g.head?.map (fun e => e.2.2)).getD 0
    let end_ := dst + pos + out.length
    -- the stream goes on after every block but the last, so that its words are written whole (R187)
    match wrRow a dst (if i0 + g.length = n then end_ else ceilDiv end_ 8 * 8) (dst + pos) out i0 s with
    | (some e, s) => (.error e, s)
    | (none, s) => (.ok (pos + out.length), s)

/-- WENC (R214, R215). -/
def wencPlan (a : EngArg) (_ : State) : EngPlan :=
  let w := a.w
  let n := a.cols
  let raw := fld w 19 15 == 0x0F
  let o : Opnd := ⟨fld w 79 58, 0, if raw then 320 else 64, false⟩
  let len : Opnd := ⟨fld w 57 36, 0, 32, false⟩
  let dst := fld w 101 80
  let worst := ceilDiv n 16 * wireWorst raw
  { issue := firstErr (operandsBad [(o, 1, n), (len, 1, 1)]) (if cmemTop < dst + worst then some (EErr.cmd 0x23) else none)
    ranges := [o.range false 1 n, ⟨true, dst, dst + worst⟩, len.range true 1 1]
    occ := ceilDiv n 16 * (if raw then 8 else 2)
    lat := 16
    elems := n
    hold := false
    run := fun s =>
      match runGroups (wencGroup a raw (sext 12 (fld w 14 3)) o dst n) (groupsOf 16 1 n) 0 s with
      | (.error e, s) => (some e, s)
      | (.ok pos, s) => wrBytes a len.base (leBytes 4 pos) (n - 1) s }

/-- Check and decode one block from its bytes (R216). `at_` is its CMEM offset, `i0` its first element, `want` the
elements it must hold, `left` the bytes that the length word leaves, `last` says that it holds element N − 1. The
answer is the elements' states with the frame difference applied, and the bytes consumed. -/
def wireDecode (raw : Bool) (f : Int) (at_ i0 want left : Nat) (last : Bool) (data : List Byte) :
    Except EErr (List Acc × Nat) :=
  let head := leNat (data.take 4)
  let frame := sext 12 (nfld head 11 0)
  let width := nfld head 17 12
  let special := nbit head 18
  let count := nfld head 22 19 + 1
  let bad (r off i : Nat) : Except EErr (List Acc × Nat) := .error ⟨r, at_ + off, i⟩
  let mask := if special then leNat ((data.drop 4).take 2) else 0
  let e0 := if special then 6 else 4
  let flagged := (List.range count).filter (fun i => nbit mask i)
  let total := e0 + count * width + 8 * flagged.length
  if nfld head 31 23 ≠ 0 then bad 0x02 0 i0
  else if special ∧ mask >>> count ≠ 0 then bad 0x02 4 i0
  else if frame < f then bad 0x12 0 i0
  else if width = 0 ∨ 32 < width ∨ (special = true ∧ raw = false) ∨ count ≠ want ∨ left < total ∨ (last = true ∧ left ≠ total) then
    bad 0x23 0 i0
  else
    let words := data.drop (e0 + count * width)
    let elem (i : Nat) : Except EErr Acc :=
      let q0 := leNat ((data.drop (e0 + i * width)).take width)
      let q : Int := sext (8 * width) q0
      let sh := (frame - f).toNat
      match (flagged.zipIdx).find? (fun e => e.1 == i) with
      | none =>
        let v := q * 2 ^ sh
        if raw && (decide (v < -(2 ^ 279 : Int)) || decide ((2 ^ 279 : Int) ≤ v)) then
          .error ⟨0x23, at_ + e0 + i * width, i0 + i⟩
        else .ok { accEmpty with value := v }
      | some (_, j) =>
        let st := leNat ((words.drop (8 * j)).take 8)
        let off := at_ + e0 + count * width + 8 * j
        let hi := nfld st 55 32
        let full : Int := if width = 32 then sext 280 (q0 + hi <<< 256) else q
        let v := full * 2 ^ sh
        if nfld st 63 56 ≠ 0 then .error ⟨0x02, off + 7, i0 + i⟩
        else if width ≠ 32 ∧ hi ≠ wrapInt 280 q >>> 256 then .error ⟨0x23, off + 4, i0 + i⟩
        else if v < -(2 ^ 279 : Int) ∨ (2 ^ 279 : Int) ≤ v then .error ⟨0x23, at_ + e0 + i * width, i0 + i⟩
        else .ok { rawAcc (st <<< 256) with value := v }
    match (List.range count).foldl (fun r i => match r with
        | .error e => .error e
        | .ok l => (elem i).map (fun x => l ++ [x])) (Except.ok []) with
    | .ok l => .ok (l, total)
    | .error e => .error e

/-- The code WDEC stores: a G64 value beyond 64 bits is stored as its extreme (R67, R216). -/
def wireCode (raw : Bool) (x : Acc) : Nat :=
  if raw then rawOf x
  else if x.value < -(2 ^ 63 : Int) ∨ (2 ^ 63 : Int) ≤ x.value then intExtreme 64 (decide (x.value < 0))
  else wrapInt 64 x.value

/-- One block of WDEC; the accumulator is the number of stream bytes consumed. -/
def wdecGroup (a : EngArg) (raw : Bool) (f : Int) (n src len : Nat) (od : Opnd) (g : List (Nat × Nat × Nat)) (pos : Nat)
    (s : State) : Except EErr Nat × State :=
  let i0 := (g.head?.map (fun e => e.2.2)).getD 0
  let at_ := src + pos
  if len < pos + 4 ∨ cmemTop < at_ + 4 then (.error ⟨0x23, at_, i0⟩, s)
  else
    match rdNum a at_ 4 i0 s with
    | (.error e, s) => (.error e, s)
    | (.ok head, s) =>
      let maskLen := if nbit head 18 then 2 else 0
      let count := nfld head 22 19 + 1
      match (if maskLen = 0 ∨ cmemTop < at_ + 6 then (.ok 0, s) else rdNum a (at_ + 4) 2 i0 s) with
      | (.error e, s) => (.error e, s)
      | (.ok mask, s) =>
        let total := 4 + maskLen + count * nfld head 17 12 + 8 * (bitsOf count mask).length
        let take := min (min total (len - pos)) (cmemTop - at_)
        match rdBytes a at_ take i0 s with
        | (.error e, s) => (.error e, s)
        | (.ok data, s) =>
          match wireDecode raw f at_ i0 g.length (min (len - pos) (cmemTop - at_)) (decide (i0 + g.length = n)) data with
          | .error e => (.error e, s)
          | .ok (xs, used) =>
            match wrStores a ((g.zip xs).map (fun ((r, c, i), x) => od.store n r c i (wireCode raw x))) s with
            | (some e, s) => (.error e, s)
            | (none, s) => (.ok (pos + used), s)

/-- WDEC (R215, R216). The stream's Guard entry covers the worst case, as WENC's does (log entry 35). -/
def wdecPlan (a : EngArg) (_ : State) : EngPlan :=
  let w := a.w
  let n := a.cols
  let raw := fld w 19 15 == 0x0F
  let od : Opnd := ⟨fld w 101 80, 0, if raw then 320 else 64, false⟩
  let len : Opnd := ⟨fld w 57 36, 0, 32, false⟩
  let src := fld w 79 58
  { issue := operandsBad [(od, 1, n), (len, 1, 1)]
    ranges := [od.range true 1 n, ⟨false, src, min cmemTop (src + ceilDiv n 16 * wireWorst raw)⟩, len.range false 1 1]
    occ := ceilDiv n 16 * (if raw then 8 else 2)
    lat := 16
    elems := n
    hold := false
    run := fun s =>
      match rdNum a len.base 4 0 s with
      | (.error e, s) => (some e, s)
      | (.ok total, s) =>
        haltOf (runGroups (wdecGroup a raw (sext 12 (fld w 14 3)) n src total od) (groupsOf 16 1 n) 0 s) }

/-! ### STAT_POST -/

/-- STAT_POST (R212): the record goes to its Scale Keeper entry. -/
def statPostPlan (a : EngArg) (_ : State) : EngPlan :=
  let src := fld a.w 101 80
  { issue := recordBad src
    ranges := [⟨false, src, src + 64⟩]
    occ := 1
    lat := 16
    elems := 1
    hold := false
    run := fun s =>
      match rdNum a src 64 0 s with
      | (.error e, s) => (some e, s)
      | (.ok v, s) =>
        let t := statsOf v
        (none, sendStats ⟨fld a.w 79 66, a.c, false, t.counts, t.elems, t.amax, nfld v 383 352, a.n, 0, false⟩ s) }

/-- CONV PARAM. -/
def convParamState (n stall : Nat) (s : State) : State := engineCmd n 4 0x0 stall convParamPlan s
/-- CONV CVT. -/
def convCvtState (n stall : Nat) (s : State) : State := engineCmd n 4 0x1 stall (cvtPlan true) s
/-- WENC. -/
def wencState (n stall : Nat) (s : State) : State := engineCmd n 4 0x2 stall wencPlan s
/-- WDEC. -/
def wdecState (n stall : Nat) (s : State) : State := engineCmd n 4 0x3 stall wdecPlan s
/-- STAT_POST. -/
def statPostState (n stall : Nat) (s : State) : State := engineCmd n 4 0x4 stall statPostPlan s

end Sys2Proof.Machine
end

