-- ==== Sys2Proof/Machine/Gath.lean ====
section
/-! DEFINITION. The GATH engine (R221 to R225): tables in cluster memory or in main memory, padding and out-of-range
indices, exact scatter-adds and the completion of the _M commands. -/

namespace Sys2Proof.Machine

/-- The fields of a GATH command (R221). -/
structure GathCfg where
  rows    : Nat
  idx     : Nat
  table   : Nat
  n       : Nat
  rb      : Nat
  ctr     : Nat
  tableVa : Nat
  tRows   : Nat
  tStride : Nat
  rStride : Nat
deriving DecidableEq, Repr

/-- Parse them. -/
def gathCfg (a : EngArg) : GathCfg where
  rows := fld a.w 101 80
  idx := fld a.w 79 58
  table := fld a.w 57 36
  n := fld a.w 35 20 + 1
  rb := fld a.w 19 8 + 1
  ctr := fld a.w 7 3
  tableVa := fld a.x 127 80
  tRows := fld a.x 79 48
  tStride := fld a.x 47 26
  rStride := fld a.x 25 4

/-- What an index selects (R222). -/
inductive Pick where
  | row (i : Nat) | padding | beyond
deriving DecidableEq, Repr

/-- Classify an index. -/
def pickOf (k : GathCfg) (v : Nat) : Pick :=
  let i := sext 32 v
  if i < 0 then .padding else if (k.tRows : Int) ≤ i then .beyond else .row i.toNat

/-- Count an out-of-range index (R222, R225). -/
def gathOob (n : Nat) (s : State) : State :=
  setIrq (pgGath n) 0x10000 (rfAdd ((pgGath n).base + Reg.GATH_OOB) 31 0 1 s)

/-- Show the outstanding _M commands (R225). -/
def gathPosted (n : Nat) (s : State) : State :=
  rfSet ((pgGath n).base + Reg.GATH_POSTED) 2 0 (clu s n).gath.length s

/-- Add contributions to 16-byte sums, modulo 2^128 (R223). -/
def addSums (row sums : List Byte) : Nat → List Byte
  | 0 => []
  | j + 1 =>
    let c := sext 64 (leNat (row.take 8))
    let t := leNat (sums.take 16)
    leBytes 16 (wrapInt 128 ((t : Int) + c)) ++ addSums (row.drop 8) (sums.drop 16) j

/-- What a row meets: a halt of the engine, or a failed main-memory access. -/
inductive GRow where
  | ok
  | halt (e : EErr)
  | mem (e : Fail) (row : Nat)
deriving DecidableEq, Repr

/-- Read a table row, or the sums that an atomic add changes, which in main memory needs W alone (R273). -/
def tableRead (a : EngArg) (k : GathCfg) (inMem add : Bool) (i len idx : Nat) (s : State) :
    Except GRow (List Byte) × State :=
  if inMem then
    match vreadPieces add (viaCtx s a.c) (pieces ((k.tableVa + i * k.tStride) % 2 ^ 48) len) [] s with
    | (.ok d, s) => (.ok d, s)
    | (.error e, s) => (.error (.mem e idx), s)
  else
    match rdBytes a (k.table + i * k.tStride) len idx s with
    | (.ok d, s) => (.ok d, s)
    | (.error e, s) => (.error (.halt e), s)

/-- Write a table row. -/
def tableWrite (a : EngArg) (k : GathCfg) (inMem : Bool) (i : Nat) (data : List Byte) (idx : Nat) (s : State) : GRow × State :=
  if inMem then
    match virtWrite (viaCtx s a.c) ((k.tableVa + i * k.tStride) % 2 ^ 48) data s with
    | (.ok _, s) => (.ok, s)
    | (.error e, s) => (.mem e idx, s)
  else
    match wrBytes a (k.table + i * k.tStride) data idx s with
    | (some e, s) => (.halt e, s)
    | (none, s) => (.ok, s)

/-- Write row j of ROWS. -/
def rowsWrite (a : EngArg) (k : GathCfg) (j : Nat) (data : List Byte) (s : State) : GRow × State :=
  match wrBytes a (k.rows + j * k.rStride) data j s with
  | (some e, s) => (.halt e, s)
  | (none, s) => (.ok, s)

/-- One gathered row. -/
def gatherRow (a : EngArg) (k : GathCfg) (inMem : Bool) (j : Nat) (s : State) : GRow × State :=
  match rdNum a (k.idx + 4 * j) 4 j s with
  | (.error e, s) => (.halt e, s)
  | (.ok v, s) =>
    match pickOf k v with
    | .padding => rowsWrite a k j (List.replicate k.rb 0) s
    | .beyond => rowsWrite a k j (List.replicate k.rb 0) (gathOob a.n s)
    | .row i =>
      match tableRead a k inMem false i k.rb j s with
      | (.error e, s) => (e, s)
      | (.ok d, s) => rowsWrite a k j d s

/-- One scattered row: a copy, or an exact add. -/
def scatterRow (a : EngArg) (k : GathCfg) (inMem add : Bool) (j : Nat) (s : State) : GRow × State :=
  match rdNum a (k.idx + 4 * j) 4 j s with
  | (.error e, s) => (.halt e, s)
  | (.ok v, s) =>
    match pickOf k v with
    | .padding => (.ok, s)
    | .beyond => (.ok, gathOob a.n s)
    | .row i =>
      match rdBytes a (k.rows + j * k.rStride) k.rb j s with
      | (.error e, s) => (.halt e, s)
      | (.ok d, s) =>
        if add then
          match tableRead a k inMem true i (2 * k.rb) j s with
          | (.error e, s) => (e, s)
          | (.ok t, s) => tableWrite a k inMem i (addSums d t (k.rb / 8)) j s
        else tableWrite a k inMem i d j s

/-- Rows in order; the first that fails ends the command. -/
def gathRows (f : Nat → State → GRow × State) : List Nat → State → GRow × State
  | [], s => (.ok, s)
  | j :: js, s =>
    match f j s with
    | (.ok, s) => gathRows f js s
    | (r, s) => (r, s)

/-- The operands of a command for R186 and the Guard: ROWS, IDX and, in cluster memory, the table. -/
def gathOpnds (k : GathCfg) (inMem add : Bool) : List (Opnd × Nat × Nat) :=
  let z := if add then 64 else 8
  [(⟨k.rows, k.rStride, z, false⟩, k.n, k.rb * 8 / z), (⟨k.idx, 0, 32, false⟩, 1, k.n)] ++
  (if inMem ∨ k.tRows = 0 then [] else [(⟨k.table, k.tStride, 2 * z, false⟩, k.tRows, k.rb * 8 / z)])

/-- The table operand of a copy has elements of one byte. -/
def gathTable (k : GathCfg) (inMem add : Bool) : List (Opnd × Nat × Nat) :=
  if add then gathOpnds k inMem add
  else (gathOpnds k inMem add).map (fun (o, r, c) => (if o.bits = 16 then { o with bits := 8 } else o, r, c))

/-- A _C command. -/
def gathCPlan (row : EngArg → GathCfg → Nat → State → GRow × State) (gather add : Bool) (a : EngArg) (_ : State) : EngPlan :=
  let k := gathCfg a
  let ops := gathTable k false add
  { issue := operandsBad ops
    ranges := (ops.zipIdx).map (fun ((o, r, c), i) =>
      o.range (if gather then i == 0 else i == 2) r c)
    occ := k.n * max 1 (ceilDiv k.rb 128)
    lat := 16
    elems := k.n
    hold := false
    run := fun s =>
      match gathRows (row a k) (List.range k.n) s with
      | (.halt e, s) => (some e, s)
      | (_, s) => (none, s) }

/-- What a failed main-memory access records (R191, R224): the VA of a translation fault; the row of a poisoned or
denied access, which names no CMEM offset; 0 and 0 otherwise. -/
def memFailInfo (e : Fail) (row : Nat) : Nat × Nat × Nat :=
  let reason := causeReason e.cause
  (reason, if reason = 0x08 then (e.va % 2 ^ 32, e.va % 2 ^ 48 / 2 ^ 32) else if reason = 0x0F then (0, 0) else (0, row))

/-- An _M command is outstanding. -/
def gathPost (n : Nat) (j : GathJob) (s : State) : State :=
  gathPosted n (cluMod n (fun c => { c with gath := c.gath ++ [j] }) s)

/-- An _M command: it is outstanding until its completion event (R224). While XLAT is not ON its rows wait (R274). -/
def gathMPlan (row : EngArg → GathCfg → Nat → State → GRow × State) (gather add : Bool) (a : EngArg) (s : State) : EngPlan :=
  let k := gathCfg a
  let ops := gathTable k true add
  { issue := firstErr (if 4 ≤ (clu s a.n).gath.length then some ⟨0x21, 0, 0⟩ else none) (operandsBad ops)
    ranges := (ops.zipIdx).map (fun ((o, r, c), i) => o.range (gather && i == 0) r c)
    occ := k.n
    lat := 16
    elems := k.n
    hold := true
    run := fun s =>
      let cmd := (clu s a.n).nextCmd - 1
      if !xlatOn s then (none, gathPost a.n ⟨a.c, k.ctr, cmd, none, some (a.w, a.x)⟩ s)
      else
        match gathRows (row a k) (List.range k.n) s with
        | (.halt e, s) => (some e, guardLeave a.n cmd s.clk.eclk s)
        | (.mem e j, s) => (none, gathPost a.n ⟨a.c, k.ctr, cmd, some (memFailInfo e j), none⟩ s)
        | (.ok, s) => (none, gathPost a.n ⟨a.c, k.ctr, cmd, none, none⟩ s) }

/-- GATHER_C. -/
def gatherCState (n stall : Nat) (s : State) : State :=
  engineCmd n 6 0x0 stall (gathCPlan (fun a k => gatherRow a k false) true false) s
/-- GATHER_M. -/
def gatherMState (n stall : Nat) (s : State) : State :=
  engineCmd n 6 0x1 stall (gathMPlan (fun a k => gatherRow a k true) true false) s
/-- SCATTER_C. -/
def scatterCState (n stall : Nat) (s : State) : State :=
  engineCmd n 6 0x2 stall (gathCPlan (fun a k => scatterRow a k false false) false false) s
/-- SCATTER_ADD_C. -/
def scatterAddCState (n stall : Nat) (s : State) : State :=
  engineCmd n 6 0x3 stall (gathCPlan (fun a k => scatterRow a k false true) false true) s
/-- SCATTER_ADD_M. -/
def scatterAddMState (n stall : Nat) (s : State) : State :=
  engineCmd n 6 0x4 stall (gathMPlan (fun a k => scatterRow a k true true) false true) s

/-- The rows of an _M command whose accesses waited for XLAT (R274). -/
def gathWaited (n : Nat) (j : GathJob) (s : State) : Option (Nat × Nat × Nat) × State :=
  match j.later with
  | none => (j.fail, s)
  | some (w, x) =>
    let a : EngArg := ⟨n, j.ctx, w, x, true, ctxSecure s j.ctx, none⟩
    let k := gathCfg a
    let row := if fld w 123 120 = 0x1 then gatherRow a k true else scatterRow a k true true
    match gathRows row (List.range k.n) s with
    | (.halt e, s) => (some (e.reason, e.i0, e.i1), s)
    | (.mem e r, s) => (some (memFailInfo e r), s)
    | (.ok, s) => (none, s)

/-- GATH_M_DONE (R224): every write of an outstanding _M command is visible. A command that failed sends no signal and
halts the CSEQ at its next issue. An access that waits for XLAT is not done while XLAT is not ON (R274). -/
def gathMDoneState (n k : Nat) (s : State) : State :=
  match (clu s n).gath[k]? with
  | none => s
  | some j =>
    if j.later.isSome && !xlatOn s then s
    else
      let (fail, s) := gathWaited n j s
      let s := guardLeave n j.cmd s.clk.eclk s
      let s := gathPosted n (cluMod n (fun c => { c with gath := c.gath.eraseIdx k }) s)
      let s := match fail with
        | none => sendSignal ⟨0, j.ctx, n, j.ctr, 1, masterId 1 n, 0, [], []⟩ s
        | some (reason, i0, i1) =>
          let s := recordError (pgGath n) reason i0 i1 s
          cctxMod n j.ctx (fun c => { c with
            nextError := some (reason, if j.later.isSome || reason = 0x08 then cseqInfo ⟨reason, i0, i1⟩ else (0, 0)) }) s
      abortedNow n j.ctx s

end Sys2Proof.Machine
end

