-- ==== Sys2Proof/Machine/Kernel.lean ====
section
/-! DEFINITION. KRUN: the kernel instructions of VEC, the program's checks at issue, and its groups (R199 to R202). -/

namespace Sys2Proof.Machine

/-- A kernel instruction (R200). -/
structure KInstr where
  kop    : Nat
  d      : Nat
  a      : Nat
  b      : Nat
  c      : Nat
  stream : Nat
  rmode  : Nat
  imm    : Nat
deriving DecidableEq, Repr

/-- Its fields. -/
def parseK (w : Word64) : KInstr :=
  ⟨fld w 63 58, fld w 57 53, fld w 52 48, fld w 47 43, fld w 42 38, fld w 37 35, fld w 34 32, fld w 31 0⟩

/-- The arithmetic KOPs: the EW operation and whether it is in FP64. -/
def kArith (k : KInstr) : Option (Nat × Bool) :=
  if 0x01 ≤ k.kop ∧ k.kop ≤ 0x0C then some (k.kop - 0x01, false)
  else if 0x21 ≤ k.kop ∧ k.kop ≤ 0x2C then some (k.kop - 0x21, true)
  else none

/-- A KOP that exists. -/
def kopOk (k : Nat) : Bool := decide (k ≤ 0x0D) || (decide (0x10 ≤ k) && decide (k ≤ 0x12)) || (decide (0x21 ≤ k) && decide (k ≤ 0x2C))

/-- Element bytes of a stream format. -/
def streamBytes (f : Nat) : Nat := fmtBits f / 8

/-- Cycles of an instruction (R200). -/
def kCycles (fmts : List Nat) (k : KInstr) : Nat :=
  if k.kop = 0x10 ∨ k.kop = 0x11 then max 1 (streamBytes (lget fmts k.stream 0) / 2)
  else if 0x21 ≤ k.kop then 2 else 1

/-- Registers an instruction reads. -/
def kReads (k : KInstr) : List Nat :=
  match kArith k with
  | some (op, _) =>
    if op = 0x05 ∨ op = 0x08 ∨ op = 0x09 then [k.a]
    else if op = 0x04 ∨ op = 0x0B then [k.a, k.b, k.c] else [k.a, k.b]
  | none => if k.kop = 0x11 then [k.a] else []

/-- The register it writes. -/
def kWrites (k : KInstr) : Option Nat := if k.kop = 0x00 ∨ k.kop = 0x11 then none else some k.d

/-- Issue cycles of a program and its length T (R201). -/
def kTimes (fmts : List Nat) : List KInstr → Nat → List (KInstr × Nat)
  | [], _ => []
  | k :: ks, t => (k, t) :: kTimes fmts ks (t + kCycles fmts k)

/-- T: the cycles of one group. -/
def kLength (fmts : List Nat) (l : List KInstr) : Nat := (l.map (kCycles fmts)).foldl (· + ·) 0

/-- A register is read less than 4 ECLK after the issue of an instruction that writes it, also across groups (R201). -/
def kHazard (times : List (KInstr × Nat)) (t groups : Nat) : Bool :=
  times.any (fun (w, tw) =>
    match kWrites w with
    | none => false
    | some d => times.any (fun (r, tr) => (kReads r).contains d &&
        (List.range (min 5 groups)).any (fun g => decide (tw < g * t + tr) && decide (g * t + tr < tw + 4))))

/-- Reasons of one instruction (R190, R200, R202). -/
def kReasons (g : Grade) (fmts : List Nat) (k : KInstr) : List Nat :=
  let usesImm := k.kop == 0x0D || k.kop == 0x10 || k.kop == 0x11 || k.kop == 0x12
  let mem := k.kop == 0x10 || k.kop == 0x11
  reasons [(!kopOk k.kop, 0x01), (6 ≤ k.rmode || (!usesImm && k.imm != 0), 0x02), (0x21 ≤ k.kop && !hasFp64 g, 0x03),
    ((k.rmode == 5 && k.kop != 0x11) || (mem && lget fmts k.stream 0 == 0) ||
      (k.kop == 0x12 && (decide (cmemTop < k.imm % 2 ^ 22 + 4) || k.imm % 4 != 0)), 0x23)]

/-- The halt that the check of a program finds: the lowest reason, and for ENGINE_ABSENT the instruction's index. -/
def kCheck (g : Grade) (fmts : List Nat) (prog : List KInstr) (hazard : Bool) : Option EErr :=
  let all := prog.flatMap (kReasons g fmts) ++ (if hazard then [0x23] else [])
  match lowestReason all with
  | none => none
  | some 0x03 =>
    some ⟨0x03, 0x8 + (((prog.zipIdx).find? (fun e => (kReasons g fmts e.1).contains 0x03)).map (·.2)).getD 0 <<< 8, 0⟩
  | some r => some (if r = 0x01 then ⟨0x01, 0, 0⟩ else EErr.cmd r)

/-- The streams of the command, offset and format each, and its groups. -/
structure KStreams where
  offs   : List Nat
  fmts   : List Nat
  groups : Nat
deriving DecidableEq, Repr

/-- What runs through a group: the lanes' registers, the stores to make and the flags raised. -/
structure KAcc where
  regs   : Table Word64
  stores : List Store
  flags  : IFlags
deriving DecidableEq, Repr

/-- Set a register of lane l. -/
def kSet (l d v : Nat) (t : Table Word64) : Table Word64 := tput t (l * 32 + d) (BitVec.ofNat 64 v)
/-- Read one. -/
def kGet (l r : Nat) (t : Table Word64) : Nat := (tget t 0 (l * 32 + r)).toNat

/-- LD of element `idx` (R200): FP32 and FP64 as they are, the others exact, G64 by RNE on its frame. The policy for a
G64 value beyond FP32 is not given: the result is then free (log entry 5). No IEEE flag is raised (R59; log entry 89). -/
def kLoad (fmt imm code : Nat) (s : State) : Nat × State :=
  if fmt = 0x0A ∨ fmt = 0x0B then (code, s)
  else
    let (v, fl) := roundFmt 0x0A 0 ⟨0, true, 0⟩ (decodeFmt fmt (sext 12 imm) code)
    if fmt = 0x0E && fl.ovf then
      let (x, s) := draw s
      (x % 2 ^ 32, s)
    else (v, s)

/-- LD in every lane. -/
def kLoadLanes (a : EngArg) (off fmt imm d g : Nat) : List Nat → Table Word64 → State → Except EErr (Table Word64) × State
  | [], t, s => (.ok t, s)
  | l :: ls, t, s =>
    let z := streamBytes fmt
    match rdNum a (off + (g * 64 + l) * z) z (g * 64 + l) s with
    | (.error e, s) => (.error e, s)
    | (.ok code, s) =>
      let (v, s) := kLoad fmt imm code s
      kLoadLanes a off fmt imm d g ls (kSet l d v t) s

/-- The code that ST stores for a register (R66, R67). No IEEE flag is raised (R59; log entry 89). -/
def kStoreCode (fmt imm mode p v : Nat) : Nat :=
  let cfg : RoundCfg := ⟨mode, nbit imm 12, p⟩
  let x := if fmt = 0x0B then fFp64.decode v else fFp32.decode (v % 2 ^ 32)
  (roundFmt fmt (if fmt = 0x0E then sext 12 imm else 0) cfg x).1

/-- One instruction in all 64 lanes. -/
def kStep (a : EngArg) (ss : KStreams) (seed step : Nat) (latch : Latch) (g : Nat) (k : KInstr) (x : KAcc) (s : State) :
    Except EErr KAcc × State :=
  let lanes := List.range 64
  match kArith k with
  | some (op, dbl) =>
    let f := if dbl then fFp64 else fFp32
    let m := 2 ^ f.width
    let res := lanes.map (fun l => (l, ewOp f op k.rmode (kGet l k.a x.regs % m) (kGet l k.b x.regs % m) (kGet l k.c x.regs % m)))
    (.ok { x with
      regs := res.foldl (fun t (l, v, _) => kSet l k.d v t) x.regs
      flags := res.foldl (fun fl (_, _, e) => fl.or e) x.flags }, s)
  | none =>
    let fmt := lget ss.fmts k.stream 0
    let off := lget ss.offs k.stream 0
    match k.kop with
    | 0x0D => (.ok { x with regs := lanes.foldl (fun t l => kSet l k.d k.imm t) x.regs }, s)
    | 0x10 =>
      match kLoadLanes a off fmt k.imm k.d g lanes x.regs s with
      | (.ok t, s) => (.ok { x with regs := t }, s)
      | (.error e, s) => (.error e, s)
    | 0x11 =>
      let z := streamBytes fmt
      (.ok { x with stores := x.stores ++ lanes.map (fun l =>
        ⟨(off + (g * 64 + l) * z) * 8, z * 8,
         kStoreCode fmt k.imm k.rmode (srPepper k.rmode seed step latch (g * 64 + l)) (kGet l k.a x.regs),
         g * 64 + l, off, off + ss.groups * 64 * z⟩) }, s)
    | 0x12 =>
      match rdNum a (k.imm % 2 ^ 22) 4 (g * 64) s with
      | (.ok v, s) => (.ok { x with regs := lanes.foldl (fun t l => kSet l k.d v t) x.regs }, s)
      | (.error e, s) => (.error e, s)
    | _ => (.ok x, s)

/-- The instructions of one group in order. -/
def kProgram (a : EngArg) (ss : KStreams) (seed step : Nat) (latch : Latch) (g : Nat) : List KInstr → KAcc → State →
    Except EErr KAcc × State
  | [], x, s => (.ok x, s)
  | k :: ks, x, s =>
    match kStep a ss seed step latch g k x s with
    | (.ok x, s) => kProgram a ss seed step latch g ks x s
    | (.error e, s) => (.error e, s)

/-- One group of KRUN: its stores take effect together once every instruction has run (R187; log entry 32). -/
def kGroup (a : EngArg) (ss : KStreams) (seed step : Nat) (latch : Latch) (prog : List KInstr) (g : Nat) (_ : Unit)
    (s : State) : Except EErr Unit × State :=
  match kProgram a ss seed step latch g prog ⟨(clu s a.n).lanes, [], {}⟩ s with
  | (.error e, s) => (.error e, s)
  | (.ok x, s) =>
    match wrStores a x.stores s with
    | (some e, s) => (.error e, s)
    | (none, s) => (.ok (), vecFlags a.n a.c x.flags (cluMod a.n (fun k => { k with lanes := x.regs }) s))

/-- KRUN (R201, R202). -/
def krunPlan (a : EngArg) (s : State) : EngPlan :=
  let w := a.w
  let start := fld w 101 94
  let len := fld w 93 86 + 1
  let groups := fld w 85 70 + 1
  let ss : KStreams :=
    ⟨(List.range 4).map (fun i => (streamField a.x i).1), (List.range 4).map (fun i => (streamField a.x i).2), groups⟩
  let prog := (List.range len).map (fun i => parseK (tget (clu s a.n).kstore 0 (a.c * 256 + start + i)))
  let t := kLength ss.fmts prog
  let l := latchOf (clu s a.n).vecLatch a.c
  let seed := seedOf s a.c l.seedSel
  let step := ctxEpoch s a.c
  let uses (kop i : Nat) : Bool := prog.any (fun k => k.kop == kop && k.stream == i)
  let opnd (i : Nat) : Opnd := ⟨lget ss.offs i 0, 0, fmtBits (lget ss.fmts i 0), false⟩
  let used := (List.range 4).filter (fun i => uses 0x10 i || uses 0x11 i)
  let ldbs := (prog.filter (fun k => k.kop == 0x12)).map (fun k => k.imm % 2 ^ 22)
  let ldb : List GRange := match ldbs with
    | [] => []
    | x :: xs => [⟨false, xs.foldl min x, xs.foldl max x + 4⟩]
  { issue := firstErr (kCheck s.fuses.grade ss.fmts prog (kHazard (kTimes ss.fmts prog 0) t groups))
      (operandsBad (used.map (fun i => (opnd i, 1, groups * 64))))
    ranges := used.flatMap (fun i =>
      (if uses 0x10 i then [(opnd i).range false 1 (groups * 64)] else []) ++
      (if uses 0x11 i then [(opnd i).range true 1 (groups * 64)] else [])) ++ ldb
    occ := vecOcc s a.c (groups * t + 4)
    lat := 4
    elems := groups * 64
    hold := false
    run := fun s => haltOf (runGroups (kGroup a ss seed step l prog) (List.range groups) () s) }

/-- KRUN. -/
def krunState (n : Nat) (o : Sys2Proof.VecObs) (s : State) : State := engineCmd n 1 0x8 o.stall (audited o.differ krunPlan) s

end Sys2Proof.Machine
end

