-- ==== Sys2Proof/Machine/Sfun.lean ====
section
/-! DEFINITION. The SFUN engine (R217 to R220): X64 arithmetic, the evaluation procedures, the special inputs and the
twelve commands. -/

namespace Sys2Proof.Machine

/-! ### X64 values (R219) -/

/-- A dyadic number m × 2^e. An X64 value has a magnitude of 64 bits or is zero. -/
structure Dy where
  m : Int
  e : Int
deriving DecidableEq, Repr

/-- An integer. -/
def Dy.int (i : Int) : Dy := ⟨i, 0⟩

/-- trunc64: the X64 value nearest in the direction of zero. -/
def t64 (x : Dy) : Dy :=
  let n := x.m.natAbs
  let b := Nat.log2 n
  if n = 0 then ⟨0, 0⟩
  else if b ≤ 63 then
    let v : Int := (n <<< (63 - b) : Nat)
    ⟨if x.m < 0 then -v else v, x.e - ((63 - b : Nat) : Int)⟩
  else
    let v : Int := (n >>> (b - 63) : Nat)
    ⟨if x.m < 0 then -v else v, x.e + ((b - 63 : Nat) : Int)⟩

/-- Exact sum. -/
def Dy.add (x y : Dy) : Dy :=
  let e := min x.e y.e
  ⟨x.m * 2 ^ (x.e - e).toNat + y.m * 2 ^ (y.e - e).toNat, e⟩

/-- Exact difference. -/
def Dy.sub (x y : Dy) : Dy := x.add ⟨-y.m, y.e⟩

/-- Exact product. -/
def Dy.mul (x y : Dy) : Dy := ⟨x.m * y.m, x.e + y.e⟩

/-- x × 2^k. -/
def Dy.shift (x : Dy) (k : Int) : Dy := ⟨x.m, x.e + k⟩

/-- trunc64 of a quotient. -/
def Dy.div64 (x y : Dy) : Dy :=
  let n := x.m.natAbs
  let d := y.m.natAbs
  let k := 66 + Nat.log2 d
  let q : Int := ((n <<< k) / d : Nat)
  t64 ⟨if (x.m < 0) = (y.m < 0) then q else -q, x.e - y.e - (k : Int)⟩

/-- x < y. -/
def Dy.lt (x y : Dy) : Bool := decide ((x.sub y).m < 0)

/-- The integer nearest to x, ties to even. -/
def Dy.nearest (x : Dy) : Int :=
  if 0 ≤ x.e then x.m * 2 ^ x.e.toNat
  else
    let k := (-x.e).toNat
    let n := x.m.natAbs
    let q := n >>> k
    let r := n % 2 ^ k
    let up := decide (2 ^ k < 2 * r) || (decide (2 * r = 2 ^ k) && q % 2 == 1)
    let v : Int := (q + b2n up : Nat)
    if x.m < 0 then -v else v

/-- The X64 value nearest to n / d (R219). -/
def x64Near (n d : Nat) : Dy :=
  if n = 0 then ⟨0, 0⟩
  else
    let k := 130 + Nat.log2 d
    let q := (n <<< k) / d
    let b := Nat.log2 q
    -- q has more than 64 bits; its dropped bits and the remainder decide the rounding
    let low := q % 2 ^ (b - 63)
    let half := 2 ^ (b - 64)
    ⟨((q >>> (b - 63)) + b2n (decide (half ≤ low)) : Nat), ((b - 63 : Nat) : Int) - (k : Int)⟩

/-- Factorial. -/
def fact : Nat → Nat
  | 0 => 1
  | n + 1 => (n + 1) * fact n

/-- The named constants of R219. -/
def LN2 : Dy := ⟨0xb17217f7d1cf79ac, -64⟩
def LOG2E : Dy := ⟨0xb8aa3b295c17f0bc, -63⟩
def SQRT2 : Dy := ⟨0xb504f333f9de6484, -63⟩
def INVSQRT2 : Dy := ⟨0xb504f333f9de6484, -64⟩
def TWO_SQRTPI : Dy := ⟨0x906eba8214db688d, -63⟩
def INVSQRTPI : Dy := ⟨0x906eba8214db688d, -64⟩
def PI_2 : Dy := ⟨0xc90fdaa22168c235, -63⟩

/-- 2/π to 640 bits, for the exact real products of SIN and COS: with FP32 arguments more bits than any result can
need (log entry 34). -/
def TWO_PI : Dy :=
  ⟨0xa2f9836e4e441529fc2757d1f534ddc0db6295993c439041fe5163abdebbc561b7246e3a424dd2e006492eea09d1921cfe1deb1cb129a73ee88235f52ebb4484e99c7026b45f7e413991d639835339f4, -640⟩

/-- S_i and C_i: the X64 values nearest to (−1)^((i−1)/2)/i! and (−1)^(i/2)/i!. -/
def scCoef (i : Nat) : Dy :=
  let v := x64Near 1 (fact i)
  if i / 2 % 2 = 1 then ⟨-v.m, v.e⟩ else v

/-- Q_i: the X64 value nearest to 1/i. -/
def qCoef (i : Nat) : Dy := x64Near 1 i

/-! ### The procedures of R220 -/

/-- The loop of exp2core: i from 15 down to 1. -/
def expLoop (z : Dy) : Nat → Dy → Dy
  | 0, p => p
  | i + 1, p => expLoop z i (t64 ((Dy.int 1).add ((t64 (z.mul p)).div64 (Dy.int ((i + 1 : Nat) : Int)))))

/-- exp2core. -/
def exp2core (t : Dy) : Dy :=
  if (Dy.int 130).lt t then ⟨1, 131⟩
  else if t.lt (Dy.int (-170)) then ⟨1, -171⟩
  else
    let n := t.nearest
    let z := t64 ((t.sub (Dy.int n)).mul LN2)
    (expLoop z 15 (Dy.int 1)).shift n

/-- The loop of logcore: i = 2j − 1 for j from 12 down to 1. -/
def logLoop (s2 : Dy) : Nat → Dy → Dy
  | 0, p => p
  | j + 1, p => logLoop s2 j (t64 ((qCoef (2 * j + 1)).add (t64 (s2.mul p))))

/-- logcore of a positive x: e and w. -/
def logcore (x : Dy) : Int × Dy :=
  let b : Int := (Nat.log2 x.m.natAbs : Nat)
  let m : Dy := ⟨x.m, -b⟩
  let e := x.e + b
  let (m, e) := if SQRT2.lt m then (m.shift (-1), e + 1) else (m, e)
  let s := (m.sub (Dy.int 1)).div64 (m.add (Dy.int 1))
  let s2 := t64 (s.mul s)
  let p := logLoop s2 12 (qCoef 25)
  (e, t64 ((s.mul p).shift 1))

/-- The series of erfccore: n from 1 to 60. -/
def erfLoop (w2 : Dy) : Nat → Nat → Dy → Dy → Dy
  | 0, _, _, acc => acc
  | k + 1, n, t, acc =>
    let t := (t64 (⟨-(t.mul w2).m, (t.mul w2).e⟩)).div64 (Dy.int (n : Int))
    erfLoop w2 k (n + 1) t (t64 (acc.add (t.div64 (Dy.int ((2 * n + 1 : Nat) : Int)))))

/-- The continued fraction of erfccore: j from 60 down to 1. -/
def fracLoop (w : Dy) : Nat → Dy → Dy
  | 0, f => f
  | j + 1, f => fracLoop w j (t64 (w.add ((⟨((j + 1 : Nat) : Int), -1⟩ : Dy).div64 f)))

/-- erfccore of w ≥ 0. -/
def erfccore (w : Dy) : Dy :=
  if w.lt (Dy.int 3) then
    let acc := erfLoop (t64 (w.mul w)) 60 1 w w
    t64 ((Dy.int 1).sub (t64 (TWO_SQRTPI.mul acc)))
  else
    let f := fracLoop w 60 w
    let q := t64 (w.mul w)
    let g := exp2core (t64 ((⟨-q.m, q.e⟩ : Dy).mul LOG2E))
    (t64 (g.mul INVSQRTPI)).div64 f

/-- The loop of the sine and cosine series: the terms i = first, first − 2, … (`k` of them). -/
def trigLoop (s2 : Dy) : Nat → Nat → Dy → Dy
  | 0, _, p => p
  | k + 1, i, p => trigLoop s2 k (i - 2) (t64 ((scCoef i).add (t64 (s2.mul p))))

/-- SIN and COS of a nonzero x: `add` is 0 or 1. -/
def trig (add : Int) (x : Dy) : Dy :=
  let y := x.mul TWO_PI
  let k := y.nearest
  let r := t64 ((t64 (y.sub (Dy.int k))).mul PI_2)
  let s2 := t64 (r.mul r)
  let ps := trigLoop s2 10 19 (scCoef 21)
  let pc := trigLoop s2 10 18 (scCoef 20)
  let sn := t64 (r.mul ps)
  match ((k + add) % 4).toNat with
  | 0 => sn
  | 1 => pc
  | 2 => ⟨-sn.m, sn.e⟩
  | _ => ⟨-pc.m, pc.e⟩

/-! ### Values -/

/-- A dyadic number as a value; an exact zero is +0. -/
def Dy.val (x : Dy) : Val := .fin (decide (x.m < 0)) x.m.natAbs x.e

/-- A quotient as a value with a sticky last bit. -/
def dyDivVal (x y : Dy) : Val :=
  if x.m = 0 then .fin false 0 0
  else
    let (q, e) := quotient x.m.natAbs y.m.natAbs
    .fin (decide ((x.m < 0) ≠ (y.m < 0))) q (x.e - y.e + e)

/-- 1/√x of a positive value, with a sticky last bit. -/
def rsqrtVal (m : Nat) (e : Int) : Val :=
  let (m, e) := if e % 2 = 0 then (m, e) else (2 * m, e - 1)
  let k := 256 + Nat.log2 m
  let v := (1 <<< (2 * k)) / m
  let r := Nat.sqrt v
  .fin false (2 * r + b2n (r * r * m != 1 <<< (2 * k))) (-(e / 2) - (k : Int) - 1)

/-- The value of SFUN function `func` at x (R218 to R220). -/
def sfunVal (func : Nat) (x : Val) : Val :=
  let one : Val := .fin false 1 0
  match x with
  | .nan _ => .nan false
  | .inf s =>
    match func with
    | 0x0 => if s then .fin false 0 0 else .inf false
    | 0x1 => if s then .fin false 0 0 else .inf false
    | 0x2 => if s then .nan false else .inf false
    | 0x3 => if s then .nan false else .inf false
    | 0x4 => .fin s 1 0
    | 0x5 => if s then .fin false 0 0 else one
    | 0x6 => if s then .fin true 0 0 else .inf false
    | 0x7 => .nan false
    | 0x8 => .nan false
    | 0x9 => .fin s 0 0
    | 0xA => if s then .nan false else .inf false
    | _ => if s then .nan false else .fin false 0 0
  | .fin s 0 _ =>
    match func with
    | 0x0 => one
    | 0x1 => one
    | 0x2 => .inf true
    | 0x3 => .inf true
    | 0x4 => .fin s 0 0
    | 0x5 => .fin false 1 (-1)
    | 0x6 => .fin s 0 0
    | 0x7 => .fin s 0 0
    | 0x8 => one
    | 0x9 => .inf s
    | 0xA => .fin s 0 0
    | _ => .inf s
  | .fin s m e =>
    let ax : Dy := ⟨(m : Int), e⟩
    let dx : Dy := ⟨if s then -(m : Int) else m, e⟩
    let expNeg (k : Int) : Dy := exp2core (t64 ((⟨-(m : Int) * k, e⟩ : Dy).mul LOG2E))
    match func with
    | 0x0 => (exp2core (t64 (dx.mul LOG2E))).val
    | 0x1 => (exp2core dx).val
    | 0x2 =>
      if s then .nan false
      else
        let (k, w) := logcore ax
        ((t64 ((Dy.int k).mul LN2)).add w).val
    | 0x3 =>
      if s then .nan false
      else
        let (k, w) := logcore ax
        ((Dy.int k).add (t64 (w.mul LOG2E))).val
    | 0x4 =>
      if ax.lt ⟨1, -13⟩ then x
      else
        let ee := expNeg 2
        match dyDivVal ((Dy.int 1).sub ee) ((Dy.int 1).add ee) with
        | .fin _ q g => .fin s q g
        | v => v
    | 0x5 =>
      let ee := expNeg 1
      if s then dyDivVal ee ((Dy.int 1).add ee) else dyDivVal (Dy.int 1) ((Dy.int 1).add ee)
    | 0x6 =>
      let c := erfccore (t64 (ax.mul INVSQRT2))
      if s then ((dx.shift (-1)).mul c).val else ((dx.shift (-1)).mul ((Dy.int 2).sub c)).val
    | 0x7 => (trig 0 dx).val
    | 0x8 => (trig 1 dx).val
    | 0x9 => dyDivVal (Dy.int 1) dx
    | 0xA =>
      if s then .nan false
      else
        let (r, g) := rootOf m e
        .fin false r g
    | _ => if s then .nan false else rsqrtVal m e

/-! ### The commands -/

/-- Elements per ECLK (R188). -/
def sfunRate (func : Nat) : Nat :=
  if func = 0x9 ∨ func = 0xA ∨ func = 0xB then 16 else if func = 0x7 ∨ func = 0x8 then 4 else if func = 0x6 then 2 else 8

/-- One group of SFUN. -/
def sfunGroup (a : EngArg) (func src dst mode : Nat) (inf : Bool) (os od : Opnd) (len : Nat) (g : List (Nat × Nat × Nat)) (_ : Unit)
    (s : State) : Except EErr Unit × State :=
  match rdCodes a os g s with
  | (.error e, s) => (.error e, s)
  | (.ok l, s) =>
    let out := (g.zip l).map (fun ((r, c, i), v) =>
      od.store len r c i (roundFmt dst 0 ⟨mode, inf, 0⟩ (sfunVal func (decodeFmt src 0 v))).1)
    match wrStores a out s with
    | (some e, s) => (.error e, s)
    | (none, s) => (.ok (), s)

/-- An SFUN command (R217). -/
def sfunPlan (func : Nat) (a : EngArg) (_ : State) : EngPlan :=
  let w := a.w
  let src := fld w 19 15
  let dst := fld w 14 10
  let rows := a.rows
  let cols := a.cols
  let os := a.src0 (fmtBits src) (bit w 5)
  let od := a.dst (fmtBits dst) (bit w 4)
  { issue := operandsBad [(od, rows, cols), (os, rows, cols)]
    ranges := [od.range true rows cols, os.range false rows cols]
    occ := occupancy (rows * cols) (sfunRate func) (os.bytes rows cols) (od.bytes rows cols)
    lat := 96
    elems := rows * cols
    hold := false
    run := fun s => haltOf (runGroups (sfunGroup a func src dst (fld w 9 7) (bit w 6) os od (od.rowLen rows cols))
      (groupsOf (sfunRate func) rows cols) () s) }

/-- EXP. -/
def expState (n stall : Nat) (s : State) : State := engineCmd n 5 0x0 stall (sfunPlan 0x0) s
/-- EXP2. -/
def exp2State (n stall : Nat) (s : State) : State := engineCmd n 5 0x1 stall (sfunPlan 0x1) s
/-- LOG. -/
def logState (n stall : Nat) (s : State) : State := engineCmd n 5 0x2 stall (sfunPlan 0x2) s
/-- LOG2. -/
def log2State (n stall : Nat) (s : State) : State := engineCmd n 5 0x3 stall (sfunPlan 0x3) s
/-- TANH. -/
def tanhState (n stall : Nat) (s : State) : State := engineCmd n 5 0x4 stall (sfunPlan 0x4) s
/-- SIGMOID. -/
def sigmoidState (n stall : Nat) (s : State) : State := engineCmd n 5 0x5 stall (sfunPlan 0x5) s
/-- GELU. -/
def geluState (n stall : Nat) (s : State) : State := engineCmd n 5 0x6 stall (sfunPlan 0x6) s
/-- SIN. -/
def sinState (n stall : Nat) (s : State) : State := engineCmd n 5 0x7 stall (sfunPlan 0x7) s
/-- COS. -/
def cosState (n stall : Nat) (s : State) : State := engineCmd n 5 0x8 stall (sfunPlan 0x8) s
/-- RCP. -/
def rcpState (n stall : Nat) (s : State) : State := engineCmd n 5 0x9 stall (sfunPlan 0x9) s
/-- SQRT. -/
def sqrtState (n stall : Nat) (s : State) : State := engineCmd n 5 0xA stall (sfunPlan 0xA) s
/-- RSQRT. -/
def rsqrtState (n stall : Nat) (s : State) : State := engineCmd n 5 0xB stall (sfunPlan 0xB) s

end Sys2Proof.Machine
end

