-- ==== Sys2Proof/Machine/Redu.lean ====
section
/-! DEFINITION. The REDU engine: SUM (R206), MAX, MIN, ARGMAX and ARGMIN (R207) and SUMEXP (R208). -/

namespace Sys2Proof.Machine

/-- The default frame of a source (R206). -/
def sumDefault (fmt : Nat) : Option Int :=
  match fmt with
  | 0x01 => some (-9)
  | 0x02 => some (-16)
  | 0x08 => some (-24)
  | 0x06 => some 0
  | 0x0C => some 0
  | 0x0D => some 0
  | 0x0E => some 0
  | 0x0F => some 0
  | _ => none

/-- Add one source value to a row's accumulator (R79, R80, R206). -/
def sumOne (f : Int) (c : Nat) (v : Val) (acc : Acc) : Acc :=
  match v with
  | .nan _ => accMark c { acc with nanIn := true }
  | .inf s => accMark c (if s then { acc with negInf := true } else { acc with posInf := true })
  | .fin s m e => accFinite f c s m e acc

/-- What a row has gathered so far: its sum, the best element (index, code, value) and its first NaN. -/
structure RowAcc where
  sum  : Acc
  best : Option (Nat × Nat × Val)
  nan  : Option Nat
deriving DecidableEq, Repr

/-- Nothing gathered. -/
def RowAcc.empty : RowAcc := ⟨accEmpty, none, none⟩

/-- What a REDU command fixes. -/
structure ReduCfg where
  op    : Nat
  src   : Nat
  dst   : Nat
  cfg   : RoundCfg
  frame : Int
  m     : Nat               -- SRC1 of SUMEXP
  cols  : Nat
deriving DecidableEq, Repr

/-- The better of two elements of MAX (`up`) or MIN: equal values keep the earlier (R207). -/
def better (up : Bool) (old : Option (Nat × Nat × Val)) (new : Nat × Nat × Val) : Option (Nat × Nat × Val) :=
  match old with
  | none => some new
  | some o =>
    if (if up then valLt true o.2.2 new.2.2 else valLt true new.2.2 o.2.2) then some new else some o

/-- e := SFUN EXP(x − m) as an FP32 code (R208). The command's OVF is EXP's policy (log entry 33). -/
def sumexpTerm (inf : Bool) (x m : Nat) : Nat :=
  let d := (ieeeAdd fFp32 0 (fFp32.decode x) (fFp32.decode m).neg).1
  (roundFmt 0x0A 0 ⟨0, inf, 0⟩ (sfunVal 0x0 (fFp32.decode d))).1

/-- Take element c with its code into a row. -/
def ReduCfg.take (k : ReduCfg) (c code m : Nat) (x : RowAcc) : RowAcc :=
  if k.op = 0 then
    if k.src = 0x0F then { x with sum := accCombine x.sum (rawAcc code) }
    else { x with sum := sumOne k.frame c (if (floatOf k.src).isSome then decodeFmt k.src 0 code
                                           else decodeFmt k.src k.frame code) x.sum }
  else if k.op = 5 then { x with sum := sumOne (-149) c (fFp32.decode (sumexpTerm k.cfg.polInf code m)) x.sum }
  else
    let v := decodeFmt k.src 0 code
    if v.isNan then { x with nan := match x.nan with
      | some i => some i
      | none => some c }
    else { x with best := better (k.op == 1 || k.op == 3) x.best (c, code, v) }

/-- A row's result: code, flags, and the value its statistics measure (log entry 33). -/
def ReduCfg.result (k : ReduCfg) (x : RowAcc) : Nat × RFlags × Val :=
  if k.op = 0 ∨ k.op = 5 then
    let f := if k.op = 5 then -149 else k.frame
    let d := drainElem k.dst (if k.dst = 0x0E then f else 0) f k.cfg x.sum
    (d.code, d.flags, if drainRule x.sum = 5 then accVal f x.sum else .nan false)
  else
    let (i, code, v) := x.best.getD (0, 0, .fin false 0 0)
    if k.op = 1 ∨ k.op = 2 then
      let v := if x.nan.isSome then .nan false else v
      let (r, fl) := roundFmt k.dst 0 ⟨0, false, 0⟩ v
      (if x.nan.isSome then r else code, fl, v)
    else
      let j := x.nan.getD i
      (j, { zero := j == 0 }, .fin false j 0)

/-- The command's progress: the row under way and the statistics. -/
structure ReduAcc where
  row   : RowAcc
  stats : Stats
deriving DecidableEq, Repr

/-- Take the elements of a group; the results of completed rows come out as stores. -/
def reduTake (a : EngArg) (k : ReduCfg) (os od : Opnd) (rows : Nat) : List (Nat × Nat × Nat) → ReduAcc → List Store → State →
    Except EErr (ReduAcc × List Store) × State
  | [], x, out, s => (.ok (x, out), s)
  | (r, c, i) :: t, x, out, s =>
    match rdCode a os r c i s with
    | (.error e, s) => (.error e, s)
    | (.ok code, s) =>
      match (if k.op = 5 then rdNum a (k.m + 4 * r) 4 i s else (.ok 0, s)) with
      | (.error e, s) => (.error e, s)
      | (.ok m, s) =>
        let row := k.take c code m (if c = 0 then RowAcc.empty else x.row)
        if c + 1 = k.cols then
          let (v, fl, val) := k.result row
          reduTake a k os od rows t ⟨row, x.stats.add fl val⟩ (out ++ [od.store rows 0 r i v]) s
        else reduTake a k os od rows t { x with row := row } out s

/-- One group of REDU. -/
def reduGroup (a : EngArg) (k : ReduCfg) (os od : Opnd) (rows : Nat) (g : List (Nat × Nat × Nat)) (x : ReduAcc) (s : State) :
    Except EErr ReduAcc × State :=
  match reduTake a k os od rows g x [] s with
  | (.error e, s) => (.error e, s)
  | (.ok (x, out), s) =>
    match wrStores a out s with
    | (some e, s) => (.error e, s)
    | (none, s) => (.ok x, s)

/-- A REDU command. -/
def reduPlan (op : Nat) (a : EngArg) (s : State) : EngPlan :=
  let w := a.w
  let src := fld w 16 12
  let dst := fld w 11 7
  let rows := a.rows
  let cols := a.cols
  let frame := if bit w 0 then sumDefault src else some (sext 12 (fld w 57 46))
  let k : ReduCfg := ⟨op, src, dst, ⟨fld w 6 4, bit w 3, 0⟩, frame.getD 0, fld w 57 36, cols⟩
  let os := a.src0 (fmtBits src) (bit w 2)
  let od : Opnd := ⟨fld w 101 80, 0, fmtBits dst, false⟩
  let om : Opnd := ⟨fld w 57 36, 0, 32, false⟩
  let stats := bit w 1
  let written := od.bytes 1 rows + statsWritten stats a.aux0
  let size := if op = 5 then 8 else max 1 (64 / (fmtBits src / 8))
  let step := ctxEpoch s a.c
  { issue := firstErr (if op = 0 ∧ frame = none then some (EErr.cmd 0x12) else none)
      (firstErr (operandsBad ([(od, 1, rows), (os, rows, cols)] ++ (if op = 5 then [(om, 1, rows)] else [])))
        (if stats then recordBad a.aux0 else none))
    ranges := [od.range true 1 rows, os.range false rows cols] ++ (if op = 5 then [om.range false 1 rows] else []) ++
      (if stats then [⟨true, a.aux0, a.aux0 + 64⟩] else [])
    occ := if op = 5 then occupancy (rows * cols) 8 (os.bytes rows cols + om.bytes 1 rows) written
      else max (ceilDiv (rows * cols * (fmtBits src / 8)) 64) (ceilDiv (max (os.bytes rows cols) written) 128)
    lat := if op = 5 then 96 else 24
    elems := rows * cols
    hold := false
    run := fun s =>
      -- REDU has no Pepper latch: the record's TENSOR_ID is not given (log entry 5)
      let (tid, s) := if stats then draw s else (0, s)
      withStats a stats false a.aux0 (tid % 2 ^ 32) step (fun s =>
        match runGroups (reduGroup a k os od rows) (groupsOf size rows cols) ⟨RowAcc.empty, Stats.zero⟩ s with
        | (.ok x, s) => (.ok x.stats, s)
        | (.error e, s) => (.error e, s)) s }

/-- A command that OP selects. -/
def reduCmd (n op stall : Nat) (s : State) : State :=
  engineIssue n 3 stall (fun w => fld w 19 17 == op) (reduPlan op) s

/-- SUM. -/
def sumState (n stall : Nat) (s : State) : State := reduCmd n 0 stall s
/-- MAX. -/
def maxState (n stall : Nat) (s : State) : State := reduCmd n 1 stall s
/-- MIN. -/
def minState (n stall : Nat) (s : State) : State := reduCmd n 2 stall s
/-- ARGMAX. -/
def argmaxState (n stall : Nat) (s : State) : State := reduCmd n 3 stall s
/-- ARGMIN. -/
def argminState (n stall : Nat) (s : State) : State := reduCmd n 4 stall s
/-- SUMEXP. -/
def sumexpState (n stall : Nat) (s : State) : State := reduCmd n 5 stall s

end Sys2Proof.Machine
end

