-- ==== Sys2Proof/Machine/Xpose.lean ====
section
/-! DEFINITION. The XPOSE engine: TRANSPOSE and COPY (R205), groups of R187. -/

namespace Sys2Proof.Machine

/-- Element bytes of ESZ. -/
def xposeSize (w : Slot) : Nat := 2 ^ fld w 19 18

/-- The 32×32 blocks of an R×C source in row-major order, each as its elements (r, c, index). -/
def xposeBlocks (rows cols : Nat) : List (List (Nat × Nat × Nat)) :=
  (List.range (ceilDiv rows 32)).flatMap (fun br => (List.range (ceilDiv cols 32)).map (fun bc =>
    (List.range 1024).filterMap (fun k =>
      let r := 32 * br + k / 32
      let c := 32 * bc + k % 32
      if r < rows ∧ c < cols then some (r, c, r * cols + c) else none)))

/-- One group: read, then write; the words of a transposed destination are written along its rows, whole where the group covers
them (R187). -/
def xposeGroup (a : EngArg) (os od : Opnd) (len : Nat) (g : List (Nat × Nat × Nat)) (_ : Unit) (s : State) :
    Except EErr Unit × State :=
  match rdCodes a os g s with
  | (.error e, s) => (.error e, s)
  | (.ok l, s) =>
    let out := (g.zip l).map (fun ((r, c, i), v) => (c, od.store len r c i v))
    let runs := if od.tr then
        (List.range 32).flatMap (fun d => (out.filter (fun e => e.1 % 32 == d)).map (·.2))
      else out.map (·.2)
    match wrOrdered a (out.map (·.2)) runs s with
    | (some e, s) => (.error e, s)
    | (none, s) => (.ok (), s)

/-- The bounding intervals of source and destination overlap (R205). -/
def xposeOverlap (x y : GRange) : Bool := (overlap x.first x.last y.first y.last).isSome

/-- A plan over a source and a destination. -/
def xposePlanOf (a : EngArg) (os od : Opnd) (groups : List (List (Nat × Nat × Nat))) (occ : Nat) : EngPlan :=
  let rows := a.rows
  let cols := a.cols
  { issue := firstErr (operandsBad [(od, rows, cols), (os, rows, cols)])
      (if xposeOverlap (os.range false rows cols) (od.range true rows cols) then some (EErr.cmd 0x23) else none)
    ranges := [od.range true rows cols, os.range false rows cols]
    occ := occ
    lat := 8
    elems := rows * cols
    hold := false
    run := fun s => haltOf (runGroups (xposeGroup a os od (od.rowLen rows cols)) groups () s) }

/-- TRANSPOSE: destination element (c, r) := source element (r, c). Without an extension the destination's rows of one
element lie at consecutive elements. -/
def transposePlan (a : EngArg) (_ : State) : EngPlan :=
  let z := xposeSize a.w
  let od := a.dst (8 * z) true
  let od := if a.hasX then od else { od with stride := z }
  xposePlanOf a (a.src0 (8 * z) false) od (xposeBlocks a.rows a.cols) (8 * z * ceilDiv a.rows 32 * ceilDiv a.cols 32)

/-- COPY: (r, c) := (r, c), with each side's stride. -/
def xposeCopyPlan (a : EngArg) (_ : State) : EngPlan :=
  let z := xposeSize a.w
  xposePlanOf a (a.src0 (8 * z) false) (a.dst (8 * z) false) (groupsOf (128 / z) a.rows a.cols)
    (ceilDiv (a.rows * a.cols * z) 128)

/-- TRANSPOSE. -/
def transposeState (n stall : Nat) (s : State) : State := engineCmd n 2 0x0 stall transposePlan s
/-- COPY. -/
def xposeCopyState (n stall : Nat) (s : State) : State := engineCmd n 2 0x1 stall xposeCopyPlan s

end Sys2Proof.Machine
end

