-- ==== Sys2Proof/Machine/CmdEngines.lean ====
section
/-! DEFINITION. The engine commands of a cluster (R184 to R225). One definition per command; each answers a next state. -/

namespace Sys2Proof.Machine

/-- VEC_PARAM (R189): VEC PARAM sets the context's Pepper latch. -/
def execVecParam (n : Sys2Proof.Cluster) (o : Sys2Proof.VecObs) (s : State) : Host.Outcome State Fault Refusal :=
  .next (vecParamState n o s)

/-- EW (R193): VEC EW computes one IEEE result per element. -/
def execEw (n : Sys2Proof.Cluster) (o : Sys2Proof.VecObs) (s : State) : Host.Outcome State Fault Refusal :=
  .next (ewState n o s)

/-- VEC_CVT (R194): VEC CVT converts elements between formats. -/
def execVecCvt (n : Sys2Proof.Cluster) (o : Sys2Proof.VecObs) (s : State) : Host.Outcome State Fault Refusal :=
  .next (vecCvtState n o s)

/-- WIDE_ADD (R195): WIDE_ADD adds G64 or RAW256 integers exactly, or narrows 16-byte sums. -/
def execWideAdd (n : Sys2Proof.Cluster) (o : Sys2Proof.VecObs) (s : State) : Host.Outcome State Fault Refusal :=
  .next (wideAddState n o s)

/-- DOT_EXACT (R196): DOT_EXACT accumulates up to 64 exact dot products into the context's accumulator set. -/
def execDotExact (n : Sys2Proof.Cluster) (o : Sys2Proof.VecObs) (s : State) : Host.Outcome State Fault Refusal :=
  .next (dotExactState n o s)

/-- ACC_DRAIN (R198): ACC_DRAIN decides and writes the accumulator set and a status record. -/
def execAccDrain (n : Sys2Proof.Cluster) (o : Sys2Proof.VecObs) (s : State) : Host.Outcome State Fault Refusal :=
  .next (accDrainState n o s)

/-- ACC_LOAD (R198): ACC_LOAD loads RAW256 elements into the accumulator set. -/
def execAccLoad (n : Sys2Proof.Cluster) (o : Sys2Proof.VecObs) (s : State) : Host.Outcome State Fault Refusal :=
  .next (accLoadState n o s)

/-- KLOAD (R199): KLOAD copies instructions into the context's kernel-store segment. -/
def execKload (n : Sys2Proof.Cluster) (o : Sys2Proof.VecObs) (s : State) : Host.Outcome State Fault Refusal :=
  .next (kloadState n o s)

/-- KRUN (R201): KRUN checks and runs a kernel program once for each group of 64 elements. -/
def execKrun (n : Sys2Proof.Cluster) (o : Sys2Proof.VecObs) (s : State) : Host.Outcome State Fault Refusal :=
  .next (krunState n o s)

/-- TRANSPOSE (R205): XPOSE TRANSPOSE writes the transposed source. -/
def execTranspose (n : Sys2Proof.Cluster) (stall : Nat) (s : State) : Host.Outcome State Fault Refusal :=
  .next (transposeState n stall s)

/-- XPOSE_COPY (R205): XPOSE COPY copies elements with each side's stride and orientation. -/
def execXposeCopy (n : Sys2Proof.Cluster) (stall : Nat) (s : State) : Host.Outcome State Fault Refusal :=
  .next (xposeCopyState n stall s)

/-- SUM (R206): REDU SUM reduces each row or column exactly in a long accumulator. -/
def execSum (n : Sys2Proof.Cluster) (stall : Nat) (s : State) : Host.Outcome State Fault Refusal :=
  .next (sumState n stall s)

/-- MAX (R207): REDU MAX finds the largest element of each row or column. -/
def execMax (n : Sys2Proof.Cluster) (stall : Nat) (s : State) : Host.Outcome State Fault Refusal :=
  .next (maxState n stall s)

/-- MIN (R207): REDU MIN finds the smallest element of each row or column. -/
def execMin (n : Sys2Proof.Cluster) (stall : Nat) (s : State) : Host.Outcome State Fault Refusal :=
  .next (minState n stall s)

/-- ARGMAX (R207): REDU ARGMAX writes the index of the largest element. -/
def execArgmax (n : Sys2Proof.Cluster) (stall : Nat) (s : State) : Host.Outcome State Fault Refusal :=
  .next (argmaxState n stall s)

/-- ARGMIN (R207): REDU ARGMIN writes the index of the smallest element. -/
def execArgmin (n : Sys2Proof.Cluster) (stall : Nat) (s : State) : Host.Outcome State Fault Refusal :=
  .next (argminState n stall s)

/-- SUMEXP (R208): REDU SUMEXP sums EXP(x − m) exactly for each row. -/
def execSumexp (n : Sys2Proof.Cluster) (stall : Nat) (s : State) : Host.Outcome State Fault Refusal :=
  .next (sumexpState n stall s)

/-- CONV_PARAM (R189): CONV PARAM sets the context's Pepper latch. -/
def execConvParam (n : Sys2Proof.Cluster) (stall : Nat) (s : State) : Host.Outcome State Fault Refusal :=
  .next (convParamState n stall s)

/-- CONV_CVT (R194): CONV CVT converts elements between formats. -/
def execConvCvt (n : Sys2Proof.Cluster) (stall : Nat) (s : State) : Host.Outcome State Fault Refusal :=
  .next (convCvtState n stall s)

/-- WENC (R214): WENC writes the canonical Exact Wire encoding of G64 or RAW256 elements. -/
def execWenc (n : Sys2Proof.Cluster) (stall : Nat) (s : State) : Host.Outcome State Fault Refusal :=
  .next (wencState n stall s)

/-- WDEC (R216): WDEC decodes an Exact Wire stream onto a target frame. -/
def execWdec (n : Sys2Proof.Cluster) (stall : Nat) (s : State) : Host.Outcome State Fault Refusal :=
  .next (wdecState n stall s)

/-- STAT_POST (R212): STAT_POST sends a statistics record to a Scale Keeper entry. -/
def execStatPost (n : Sys2Proof.Cluster) (stall : Nat) (s : State) : Host.Outcome State Fault Refusal :=
  .next (statPostState n stall s)

/-- EXP (R220): SFUN EXP evaluates e^x. -/
def execExp (n : Sys2Proof.Cluster) (stall : Nat) (s : State) : Host.Outcome State Fault Refusal :=
  .next (expState n stall s)

/-- EXP2 (R220): SFUN EXP2 evaluates 2^x. -/
def execExp2 (n : Sys2Proof.Cluster) (stall : Nat) (s : State) : Host.Outcome State Fault Refusal :=
  .next (exp2State n stall s)

/-- LOG (R220): SFUN LOG evaluates ln x. -/
def execLog (n : Sys2Proof.Cluster) (stall : Nat) (s : State) : Host.Outcome State Fault Refusal :=
  .next (logState n stall s)

/-- LOG2 (R220): SFUN LOG2 evaluates log2 x. -/
def execLog2 (n : Sys2Proof.Cluster) (stall : Nat) (s : State) : Host.Outcome State Fault Refusal :=
  .next (log2State n stall s)

/-- TANH (R220): SFUN TANH evaluates tanh x. -/
def execTanh (n : Sys2Proof.Cluster) (stall : Nat) (s : State) : Host.Outcome State Fault Refusal :=
  .next (tanhState n stall s)

/-- SIGMOID (R220): SFUN SIGMOID evaluates the logistic function. -/
def execSigmoid (n : Sys2Proof.Cluster) (stall : Nat) (s : State) : Host.Outcome State Fault Refusal :=
  .next (sigmoidState n stall s)

/-- GELU (R220): SFUN GELU evaluates GELU in erf form. -/
def execGelu (n : Sys2Proof.Cluster) (stall : Nat) (s : State) : Host.Outcome State Fault Refusal :=
  .next (geluState n stall s)

/-- SIN (R220): SFUN SIN evaluates sin x. -/
def execSin (n : Sys2Proof.Cluster) (stall : Nat) (s : State) : Host.Outcome State Fault Refusal :=
  .next (sinState n stall s)

/-- COS (R220): SFUN COS evaluates cos x. -/
def execCos (n : Sys2Proof.Cluster) (stall : Nat) (s : State) : Host.Outcome State Fault Refusal :=
  .next (cosState n stall s)

/-- RCP (R219): SFUN RCP returns 1/x correctly rounded. -/
def execRcp (n : Sys2Proof.Cluster) (stall : Nat) (s : State) : Host.Outcome State Fault Refusal :=
  .next (rcpState n stall s)

/-- SQRT (R219): SFUN SQRT returns √x correctly rounded. -/
def execSqrt (n : Sys2Proof.Cluster) (stall : Nat) (s : State) : Host.Outcome State Fault Refusal :=
  .next (sqrtState n stall s)

/-- RSQRT (R219): SFUN RSQRT returns 1/√x correctly rounded. -/
def execRsqrt (n : Sys2Proof.Cluster) (stall : Nat) (s : State) : Host.Outcome State Fault Refusal :=
  .next (rsqrtState n stall s)

/-- GATHER_C (R222): GATHER_C copies CMEM table rows selected by indices. -/
def execGatherC (n : Sys2Proof.Cluster) (stall : Nat) (s : State) : Host.Outcome State Fault Refusal :=
  .next (gatherCState n stall s)

/-- GATHER_M (R224): GATHER_M requests table rows from main memory through translation. -/
def execGatherM (n : Sys2Proof.Cluster) (stall : Nat) (s : State) : Host.Outcome State Fault Refusal :=
  .next (gatherMState n stall s)

/-- SCATTER_C (R222): SCATTER_C copies rows into a CMEM table. -/
def execScatterC (n : Sys2Proof.Cluster) (stall : Nat) (s : State) : Host.Outcome State Fault Refusal :=
  .next (scatterCState n stall s)

/-- SCATTER_ADD_C (R223): SCATTER_ADD_C adds G64 contributions into 16-byte sums of a CMEM table. -/
def execScatterAddC (n : Sys2Proof.Cluster) (stall : Nat) (s : State) : Host.Outcome State Fault Refusal :=
  .next (scatterAddCState n stall s)

/-- SCATTER_ADD_M (R223): SCATTER_ADD_M adds G64 contributions atomically into a main-memory table. -/
def execScatterAddM (n : Sys2Proof.Cluster) (stall : Nat) (s : State) : Host.Outcome State Fault Refusal :=
  .next (scatterAddMState n stall s)

/-- GATH_M_DONE (R224): Every write of a _M command is visible and GATH signals DONE_CTR. -/
def execGathMDone (n : Sys2Proof.Cluster) (k : Nat) (s : State) : Host.Outcome State Fault Refusal :=
  .next (gathMDoneState n k s)

end Sys2Proof.Machine
end

