-- ==== Sys2Proof/Machine/CmdHealth.lean ====
section
/-! DEFINITION. The commands of health and spares (R385 to R414). One definition per command; each answers a next state. -/

namespace Sys2Proof.Machine

/-- PATROL_ROUND (R394): PTRL runs a known-answer round on one physical core in a quiet gap. -/
def execPatrolRound (n : Sys2Proof.Cluster) (pass : Bool) (s : State) : Host.Outcome State Fault Refusal :=
  .next (patrolRoundState n pass s)

/-- PATROL_LATE (R396): The oldest patrol pass of a cluster exceeds 600,000 ms. -/
def execPatrolLate (n : Sys2Proof.Cluster) (s : State) : Host.Outcome State Fault Refusal :=
  .next (patrolLateState n s)

/-- LANE_PATROL (R398): Every 10 s HLTH takes a VEC lane out of service and tests it. -/
def execLanePatrol (n : Sys2Proof.Cluster) (lane : Fin 68) (pass : Bool) (s : State) : Host.Outcome State Fault Refusal :=
  .next (lanePatrolState n lane pass s)

/-- BANK_ROTATION (R397): Every 24 h HLTH rotates a logical bank onto a spare and marches the freed bank. -/
def execBankRotation (n : Sys2Proof.Cluster) (s : State) : Host.Outcome State Fault Refusal :=
  .next (bankRotationState n s)

/-- SUSPECT_RERUN (R399): HLTH reruns a SUSPECT unit's patrol test and fails it if every rerun fails. -/
def execSuspectRerun (n : Sys2Proof.Cluster) (u : Sys2Proof.Unit3) (results : List Bool)
    (s : State) : Host.Outcome State Fault Refusal :=
  .next (suspectRerunState n u results s)

/-- LINE_REPAIR (R404): HLTH fails a core line, or retires a band, while the array is idle. -/
def execLineRepair (n : Sys2Proof.Cluster) (pr : Fin 18) (pc : Fin 18) (s : State) : Host.Outcome State Fault Refusal :=
  .next (lineRepairState n pr pc s)

/-- SCAN_CLUSTER (R400): HLTH_CMD SCAN_CLUSTER runs a structural scan of an idle cluster. -/
def execScanCluster (m : Sys2Proof.Master) (target : BitVec 10) (mismatch : Option (Sys2Proof.Unit3 × Nat))
    (s : State) : Host.Outcome State Fault Refusal :=
  .next (onPage m (pgHlth.base + Reg.HLTH_CMD) 4 (fun _ s => hlthScan target.toNat mismatch s) s)

/-- PATROL_CORE (R413): HLTH_CMD PATROL_CORE runs a patrol test on a core. -/
def execPatrolCore (m : Sys2Proof.Master) (target : BitVec 10) (pass : Bool)
    (s : State) : Host.Outcome State Fault Refusal :=
  .next (onPage m (pgHlth.base + Reg.HLTH_CMD) 4 (fun _ s => hlthPatrol target.toNat pass s) s)

/-- RETIRE_ROW_BAND (R118): HLTH_CMD RETIRE_ROW_BAND retires a row band. -/
def execRetireRowBand (m : Sys2Proof.Master) (target : BitVec 10) (s : State) : Host.Outcome State Fault Refusal :=
  .next (writeCmd m (pgHlth.base + Reg.HLTH_CMD) 4 (3 + 65536 * target.toNat) s)

/-- RETIRE_COL_BAND (R118): HLTH_CMD RETIRE_COL_BAND retires a column band. -/
def execRetireColBand (m : Sys2Proof.Master) (target : BitVec 10) (s : State) : Host.Outcome State Fault Refusal :=
  .next (writeCmd m (pgHlth.base + Reg.HLTH_CMD) 4 (4 + 65536 * target.toNat) s)

/-- ROTATE_BANK (R405): HLTH_CMD ROTATE_BANK starts the copy of a CMEM bank onto a spare. -/
def execRotateBank (m : Sys2Proof.Master) (target : BitVec 10) (s : State) : Host.Outcome State Fault Refusal :=
  .next (writeCmd m (pgHlth.base + Reg.HLTH_CMD) 4 (5 + 65536 * target.toNat) s)

/-- BANK_COPY (R405): The bank copy finishes and CMEM_BANK_MAP switches to the spare. -/
def execBankCopy (n : Sys2Proof.Cluster) (marchPass : Bool) (lostWords : Nat)
    (s : State) : Host.Outcome State Fault Refusal :=
  .next (bankCopyState n marchPass lostWords s)

/-- HEALTH_DATAGRAM (R410): A health datagram is sent every PERIOD_MS. -/
def execHealthDatagram (s : State) : Host.Outcome State Fault Refusal :=
  .next (healthDatagramState s)

/-- CMEM_PATROL_READ (R397): PTRL reads the next CMEM word at port-A priority 9 so that every word of every logical bank is
read once per 600,000 ms, and any error is handled by R161. -/
def execCmemPatrolRead (n : Sys2Proof.Cluster) (s : State) : Host.Outcome State Fault Refusal :=
  .next (cmemPatrolReadState n s)

end Sys2Proof.Machine
end

