-- ==== Sys2Proof/Machine/CmdHost.lean ====
section
/-! DEFINITION. The commands of the host attachment (R361 to R384). One definition per command; each answers a next state. -/

namespace Sys2Proof.Machine

/-- ARP_REQUEST (R362): The port answers an ARP request for its address. -/
def execArpRequest (e : Sys2Proof.EthNo) (target : BitVec 32) (sender : BitVec 32)
    (s : State) : Host.Outcome State Fault Refusal :=
  .next (arpState e target sender s)

/-- NEIGHBOUR_SOLICITATION (R362): The port answers IPv6 neighbour discovery. -/
def execNeighbourSolicitation (e : Sys2Proof.EthNo) (target : BitVec 128) (sender : BitVec 128)
    (s : State) : Host.Outcome State Fault Refusal :=
  .next (neighbourState e target sender s)

/-- ECHO_REQUEST (R362): The port answers an ICMP or ICMPv6 echo request. -/
def execEchoRequest (e : Sys2Proof.EthNo) (v6 : Bool) (target : BitVec 128) (sender : BitVec 128) (body : List Byte)
    (s : State) : Host.Outcome State Fault Refusal :=
  .next (echoState e v6 target sender body s)

/-- CM_REQ (R364): A CM REQ allocates a QP for a context and role and is answered with REP or REJ. -/
def execCmReq (e : Sys2Proof.EthNo) (r : Sys2Proof.CmReq) (s : State) : Host.Outcome State Fault Refusal :=
  .next (cmReqState e r s)

/-- CM_RTU (R364): A CM RTU moves the QP to RTS. -/
def execCmRtu (qp : Fin 1024) (s : State) : Host.Outcome State Fault Refusal :=
  .next (cmRtuState qp s)

/-- CM_DREQ (R368): A CM DREQ disconnects a QP and returns it to RESET. -/
def execCmDreq (qp : Fin 1024) (s : State) : Host.Outcome State Fault Refusal :=
  .next (cmDreqState qp s)

/-- RDMA_WRITE (R365): An RDMA WRITE is translated, checked and written line by line, or NAKed with the QP set to ERROR. -/
def execRdmaWrite (qp : Fin 1024) (psn : BitVec 24) (va : BitVec 64) (rkey : BitVec 32) (ecn : Bool)
    (lostWords : List Nat) (data : List Byte) (s : State) : Host.Outcome State Fault Refusal :=
  .next (rdmaWriteState qp psn.toNat va.toNat rkey.toNat ecn lostWords data s)

/-- RDMA_READ (R365): An RDMA READ is translated, checked and answered with data, or NAKed. -/
def execRdmaRead (qp : Fin 1024) (psn : BitVec 24) (va : BitVec 64) (rkey : BitVec 32) (r : Sys2Proof.Marked (BitVec 32))
    (s : State) : Host.Outcome State Fault Refusal :=
  .next (rdmaReadState qp psn.toNat va.toNat rkey.toNat r.value.toNat r.ecn s)

/-- CNP (R367): A received CNP halves the QP's send rate. -/
def execCnp (qp : Fin 1024) (s : State) : Host.Outcome State Fault Refusal :=
  .next (cnpState qp s)

/-- CC_PERIOD (R367): A period of PERIOD_US without a CNP raises the QP's send rate by RSTEP. -/
def execCcPeriod (qp : Fin 1024) (s : State) : Host.Outcome State Fault Refusal :=
  .next (ccPeriodState qp s)

/-- ACK_TIMEOUT (R368): A SEND goes unacknowledged past the local ACK timeout and is retried, or the QP enters ERROR. -/
def execAckTimeout (qp : Fin 1024) (s : State) : Host.Outcome State Fault Refusal :=
  .next (ackTimeoutState qp s)

/-- RNR_NAK (R368): An RNR NAK from the host is retried after the stated delay. -/
def execRnrNak (qp : Fin 1024) (r : Sys2Proof.Marked Nat) (s : State) : Host.Outcome State Fault Refusal :=
  .next (rnrNakState qp r.ecn s)

/-- TRANSPORT_ACK (R377): The transport acknowledges a queue message and the entry is removed. -/
def execTransportAck (a : Sys2Proof.AckPacket) (s : State) : Host.Outcome State Fault Refusal :=
  .next (transportAckState a.qp a.psn.toNat a.ecn s)

/-- JOB_LOAD (R375): JOB_LOAD writes the job descriptor into the context's ACON, CSEQ, Mover and XSEQ registers. -/
def execJobLoad (qp : Fin 1024) (h : Sys2Proof.MsgHdr) (body : List Byte) (s : State) : Host.Outcome State Fault Refusal :=
  .next (jobLoadState qp h body s)

/-- DOORBELL (R376): DOORBELL writes an ACON command, starting the Mover streams and XSEQ first for START. -/
def execDoorbell (qp : Fin 1024) (h : Sys2Proof.MsgHdr) (body : List Byte) (s : State) : Host.Outcome State Fault Refusal :=
  .next (doorbellState qp h body s)

/-- BIND (R380): BIND makes the QP the context's control QP and resends the queue from its oldest unacknowledged entry. -/
def execBind (qp : Fin 1024) (h : Sys2Proof.MsgHdr) (body : List Byte) (s : State) : Host.Outcome State Fault Refusal :=
  .next (bindState qp h body s)

/-- REG_ACCESS (R373): REG_ACCESS runs up to 32 register reads and writes in order. -/
def execRegAccess (qp : Fin 1024) (h : Sys2Proof.MsgHdr) (body : List Byte)
    (s : State) : Host.Outcome State Fault Refusal :=
  .next (regAccessState qp h body s)

/-- MEM_WRITE (R374): MEM_WRITE writes whole lines by physical address. -/
def execMemWrite (qp : Fin 1024) (h : Sys2Proof.MsgHdr) (body : List Byte) (s : State) : Host.Outcome State Fault Refusal :=
  .next (memWriteState qp h body s)

/-- MEM_READ (R374): MEM_READ returns whole lines by physical address. -/
def execMemRead (qp : Fin 1024) (h : Sys2Proof.MsgHdr) (body : List Byte) (s : State) : Host.Outcome State Fault Refusal :=
  .next (memReadState qp h body s)

/-- NOP (R370): NOP is answered with a RESP. -/
def execNop (qp : Fin 1024) (h : Sys2Proof.MsgHdr) (body : List Byte) (s : State) : Host.Outcome State Fault Refusal :=
  .next (nopState qp h body s)

/-- QP_RESET (R384): RDMA_QP_CMD RESET returns the selected QP to RESET. -/
def execQpReset (m : Sys2Proof.Master) (e : Sys2Proof.EthNo) (s : State) : Host.Outcome State Fault Refusal :=
  .next (writeCmd m ((pgRdma e).base + Reg.RDMA_QP_CMD) 4 (1) s)

/-- QP_ERROR (R384): RDMA_QP_CMD ERROR moves the selected QP to ERROR. -/
def execQpError (m : Sys2Proof.Master) (e : Sys2Proof.EthNo) (s : State) : Host.Outcome State Fault Refusal :=
  .next (writeCmd m ((pgRdma e).base + Reg.RDMA_QP_CMD) 4 (2) s)

/-- PORT_HOLD_EXPIRY (R381): An Ethernet link stays DOWN for HOLD_MS and every QP of the port enters ERROR. -/
def execPortHoldExpiry (e : Sys2Proof.EthNo) (s : State) : Host.Outcome State Fault Refusal :=
  .next (portHoldState e s)

/-- LINK_RETURN (R381): An Ethernet link comes back up and new QPs may be connected on it. -/
def execLinkReturn (e : Sys2Proof.EthNo) (mode : Fin 3) (s : State) : Host.Outcome State Fault Refusal :=
  .next (linkReturnState e mode s)

/-- ETHERNET_LINK_DOWN (R381): An Ethernet port's link goes DOWN, HEP_PORT_STATUS.LINK shows DOWN and the HOLD_MS interval
begins. -/
def execEthernetLinkDown (e : Sys2Proof.EthNo) (s : State) : Host.Outcome State Fault Refusal :=
  .next (ethernetDownState e s)

/-- PRIORITY_FLOW_CONTROL (R362): A received IEEE 802.1Qbb PFC frame for PFC_PRIO pauses or resumes the port's transmission
on that priority when PFC_EN = 1. -/
def execPriorityFlowControl (e : Sys2Proof.EthNo) (prio : Fin 8) (pause : Bool)
    (s : State) : Host.Outcome State Fault Refusal :=
  .next (pfcState e prio pause s)

/-- OTHER_FRAME (R362): A received frame that is not RoCEv2, ARP, neighbour discovery or echo is discarded and counted in
HEP_RX_OTHER. -/
def execOtherFrame (e : Sys2Proof.EthNo) (s : State) : Host.Outcome State Fault Refusal :=
  .next (otherFrameState e s)

/-- UNSUPPORTED_PACKET (R363): A RoCEv2 packet of an unsupported kind is answered with a NAK Invalid Request on a connected
QP, or discarded and counted in RDMA_UNSUPPORTED. -/
def execUnsupportedPacket (e : Sys2Proof.EthNo) (qp : Option (Fin 1024)) (r : Sys2Proof.Marked (BitVec 24))
    (s : State) : Host.Outcome State Fault Refusal :=
  .next (unsupportedState e (qp.map (·.val)) r.value.toNat r.ecn s)

end Sys2Proof.Machine
end

