-- ==== Sys2Proof/Machine/CmdMemory.lean ====
section
/-! DEFINITION. The commands of cluster memory (R161 to R165), of the Scale Keeper (R226 to R246), of main memory (R247 to R269), of
translation (R271 to R276) and of the protected regions (R277 to R280). One definition per command; each answers a
next state. -/

namespace Sys2Proof.Machine

/-- BANK_PWR_REQ (R162): A write of CMEM_BANK_PWR_REQ requests ON, RET or OFF, taking effect when in-flight accesses end. -/
def execBankPwrReq (m : Sys2Proof.Master) (n : Sys2Proof.Cluster) (value : BitVec 64)
    (s : State) : Host.Outcome State Fault Refusal :=
  .next (writeCmd m ((pgCmem n).base + Reg.CMEM_BANK_PWR_REQ) 8 (value.toNat) s)

/-- RET_IDLE_EXPIRY (R163): A woken bank whose request is RET sees no access for IDLE × 16 ECLK and returns to RET. -/
def execRetIdleExpiry (n : Sys2Proof.Cluster) (b : Fin 32) (s : State) : Host.Outcome State Fault Refusal :=
  .next (retIdleState n b s)

/-- BANK_ZERO_DONE (R164): Zeroing of a bank leaving OFF, or changing from S to NS, completes and BUSY clears. -/
def execBankZeroDone (n : Sys2Proof.Cluster) (b : Fin 32) (s : State) : Host.Outcome State Fault Refusal :=
  .next (bankZeroDoneState n b s)

/-- BANK_WORLD (R165): A write of CMEM_BANK_WORLD changes bank worlds, zeroing any bank that goes from S to NS. -/
def execBankWorld (m : Sys2Proof.Master) (n : Sys2Proof.Cluster) (value : BitVec 32)
    (s : State) : Host.Outcome State Fault Refusal :=
  .next (writeCmd m ((pgCmem n).base + Reg.CMEM_BANK_WORLD) 4 (value.toNat) s)

/-- ECC_WRITEBACK (R161): A corrected word is written back through port B in the first idle ECLK. -/
def execEccWriteback (n : Sys2Proof.Cluster) (w : Fin 524288) (s : State) : Host.Outcome State Fault Refusal :=
  .next (eccWritebackState n w s)

/-- STATS_ABSORB (R228): A Scale Keeper entry absorbs a posted statistics record, or discards it as stale. -/
def execStatsAbsorb (k : Nat) (s : State) : Host.Outcome State Fault Refusal :=
  .next (statsAbsorbState k s)

/-- SKEEP_ENTRY_WRITE (R246): A write of SKEEP_ENTRY0–7 is checked and applied to the selected entry, or discarded as
ENTRY_INVALID. -/
def execSkeepEntryWrite (m : Sys2Proof.Master) (inst : Fin 2) (i : Fin 8) (value : BitVec 64)
    (s : State) : Host.Outcome State Fault Refusal :=
  .next (writeCmd m ((pgSkeep inst).base + Reg.SKEEP_ENTRY0_7 + 8 * i.val) 8 (value.toNat) s)

/-- SKEEP_SAVE (R246): SKEEP SAVE writes the half's committed parts to the image. -/
def execSkeepSave (m : Sys2Proof.Master) (inst : Fin 2) (s : State) : Host.Outcome State Fault Refusal :=
  .next (writeCmd m (skCmdReg inst) 4 (1) s)

/-- SKEEP_LOAD (R246): SKEEP LOAD reads committed parts back and clears working parts. -/
def execSkeepLoad (m : Sys2Proof.Master) (inst : Fin 2) (s : State) : Host.Outcome State Fault Refusal :=
  .next (writeCmd m (skCmdReg inst) 4 (2) s)

/-- WARM (R238): WARM seeds each COLD entry of the context from its probed AMAX_EXP. -/
def execWarm (m : Sys2Proof.Master) (inst : Fin 2) (c : Sys2Proof.Ctx) (s : State) : Host.Outcome State Fault Refusal :=
  .next (writeCmd m (skCmdReg inst) 4 (3 + 256 * c.val) s)

/-- INVALIDATE (R237): INVALIDATE makes every entry of the half COLD. -/
def execInvalidate (m : Sys2Proof.Master) (inst : Fin 2) (s : State) : Host.Outcome State Fault Refusal :=
  .next (writeCmd m (skCmdReg inst) 4 (4) s)

/-- CLEAR_WORKING (R246): CLEAR_WORKING clears the working parts of the context's entries. -/
def execClearWorking (m : Sys2Proof.Master) (inst : Fin 2) (c : Sys2Proof.Ctx)
    (s : State) : Host.Outcome State Fault Refusal :=
  .next (writeCmd m (skCmdReg inst) 4 (5 + 256 * c.val) s)

/-- SKEEP_CMD_DONE (R246): A Scale Keeper command ends and sets CMD_DONE. -/
def execSkeepCmdDone (inst : Fin 2) (s : State) : Host.Outcome State Fault Refusal :=
  .next (skeepCmdDoneState inst s)

/-- MEMORY_READ (R254): MEMC reads a line, checks its codewords and returns it, corrected or poisoned. -/
def execMemoryRead (k : Sys2Proof.AccClass) (secure : Bool) (pa : BitVec 48) (obs : Sys2Proof.LineObs)
    (s : State) : Host.Outcome State Fault Refusal :=
  .next (memoryReadHeld k secure pa.toNat obs s)

/-- MEMORY_WRITE (R250): MEMC writes a line, merging a partial write by read-modify-write. -/
def execMemoryWrite (k : Sys2Proof.AccClass) (secure : Bool) (pa : BitVec 48) (data : List Byte) (obs : Sys2Proof.LineObs)
    (s : State) : Host.Outcome State Fault Refusal :=
  .next (memoryWriteHeld k secure pa.toNat data obs s)

/-- CHANNEL_TIMEOUT (R256): A channel does not respond within 64 MCLK of a command's expected completion. -/
def execChannelTimeout (g : Fin 32) (member : Fin 9) (s : State) : Host.Outcome State Fault Refusal :=
  .next (memberFail g member 1 s)

/-- CALIBRATION_FAILURE (R256): Training, calibration or ZQ calibration fails on a channel. -/
def execCalibrationFailure (g : Fin 32) (member : Fin 9) (s : State) : Host.Outcome State Fault Refusal :=
  .next (memberFail g member 0 s)

/-- CGM_FAIL (R256): A secure write of CGM_FAIL marks a member FAILED. -/
def execCgmFail (m : Sys2Proof.Master) (g : Fin 32) (member : BitVec 4) (s : State) : Host.Outcome State Fault Refusal :=
  .next (writeCmd m ((pgCgm g).base + Reg.CGM_FAIL) 4 (member.toNat) s)

/-- GO (R260): A write of MEMC_EVAC.GO lowers MEMC_TOP, orphans the group's ways and starts the evacuation copy. -/
def execGo (m : Sys2Proof.Master) (inst : Fin 2) (g : Fin 32) (s : State) : Host.Outcome State Fault Refusal :=
  .next (writeCmd m ((pgMemc inst).base + Reg.MEMC_EVAC) 4 (0x100 + g.val) s)

/-- EVAC_LINE_COPY (R260): One orphan line is copied to its spill place as one atomic transaction. -/
def execEvacLineCopy (obs : Sys2Proof.LineObs) (s : State) : Host.Outcome State Fault Refusal :=
  .next (evacLineState obs s)

/-- SCRUB_READ (R263): MEMC scrubs the next group line, rewriting a corrected line. -/
def execScrubRead (g : Fin 32) (obs : Sys2Proof.LineObs) (s : State) : Host.Outcome State Fault Refusal :=
  .next (scrubState g obs s)

/-- REFRESH (R264): A channel bank is refreshed at the rate MR4 requires. -/
def execRefresh (_g : Fin 32) (_member : Fin 9) (_bank : Fin 16) (s : State) : Host.Outcome State Fault Refusal :=
  .next (refreshState s)

/-- MR4_POLL (R264): Every 16 ms MEMC polls each package's temperature report. -/
def execMr4Poll (package : Fin 36) (rate : BitVec 5) (s : State) : Host.Outcome State Fault Refusal :=
  .next (mr4State package rate.toNat s)

/-- PAGE_WALK (R273): A walker reads the page-table entries of a missed translation and forms the PA or a fault. -/
def execPageWalk (c : Sys2Proof.Ctx) (va : BitVec 48) (_write : Bool) (_rdma : Bool)
    (s : State) : Host.Outcome State Fault Refusal :=
  .next (pageWalkState c va.toNat s)

/-- INVAL_ALL (R275): XLAT_INVAL_CMD with scope ALL invalidates every cached translation. -/
def execInvalAll (m : Sys2Proof.Master) (s : State) : Host.Outcome State Fault Refusal :=
  .next (writeCmd m (invalReg) 4 (1) s)

/-- INVAL_CONTEXT (R275): XLAT_INVAL_CMD with scope CONTEXT invalidates a context's translations. -/
def execInvalContext (m : Sys2Proof.Master) (c : Sys2Proof.Ctx) (s : State) : Host.Outcome State Fault Refusal :=
  .next (writeCmd m (invalReg) 4 (2 + 16 * c.val) s)

/-- INVAL_RANGE (R275): XLAT_INVAL_CMD with scope RANGE invalidates the pages overlapping a VA range. -/
def execInvalRange (m : Sys2Proof.Master) (c : Sys2Proof.Ctx) (s : State) : Host.Outcome State Fault Refusal :=
  .next (writeCmd m (invalReg) 4 (3 + 16 * c.val) s)

/-- INVAL_DONE (R275): An invalidation completes once entries are dropped and dependent accesses and walks have ended. -/
def execInvalDone (s : State) : Host.Outcome State Fault Refusal :=
  .next (invalDoneState s)

/-- RPT_REGION_WRITE (R279): A write of an RPT region completes when both instances hold it. -/
def execRptRegionWrite (m : Sys2Proof.Master) (i : Fin 256) (value : BitVec 64)
    (s : State) : Host.Outcome State Fault Refusal :=
  .next (writeCmd m (pgRpt.base + Reg.RPT_REGION + 8 * i.val) 8 (value.toNat) s)

end Sys2Proof.Machine
end

