-- ==== Sys2Proof/Machine/CmdMovers.lean ====
section
/-! DEFINITION. The commands of the Movers (R282 to R302). One definition per command; each answers a next state. -/

namespace Sys2Proof.Machine

/-- MOVER_START (R284): MOV_SCMD START runs a stream from CHAIN_VA at offset 0. -/
def execMoverStart (m : Sys2Proof.Master) (mv : Sys2Proof.MoverNo) (s : State) : Host.Outcome State Fault Refusal :=
  .next (writeCmd m ((pgMov mv).base + Reg.MOV_SCMD) 4 (1) s)

/-- MOVER_RESUME (R284): MOV_SCMD RESUME restarts a stream from its recorded position. -/
def execMoverResume (m : Sys2Proof.Master) (mv : Sys2Proof.MoverNo) (s : State) : Host.Outcome State Fault Refusal :=
  .next (writeCmd m ((pgMov mv).base + Reg.MOV_SCMD) 4 (2) s)

/-- MOVER_ABORT (R284): MOV_SCMD ABORT stops a stream, which becomes IDLE once its chunks complete. -/
def execMoverAbort (m : Sys2Proof.Master) (mv : Sys2Proof.MoverNo) (s : State) : Host.Outcome State Fault Refusal :=
  .next (writeCmd m ((pgMov mv).base + Reg.MOV_SCMD) 4 (3) s)

/-- COPY (R286): A COPY descriptor is fetched and checked and moves one box between memory and CMEM. -/
def execCopy (s0 : Fin 16384) (s : State) : Host.Outcome State Fault Refusal :=
  .next (copyState s0 s)

/-- DESC_VARJ (R289): A VARJ descriptor waits for the mailbox and continues at the matching variant target. -/
def execDescVarj (s0 : Fin 16384) (s : State) : Host.Outcome State Fault Refusal :=
  .next (descVarjState s0 s)

/-- JUMP (R289): A JUMP descriptor jumps, using the stream's loop counter when COUNT is nonzero. -/
def execJump (s0 : Fin 16384) (s : State) : Host.Outcome State Fault Refusal :=
  .next (jumpState s0 s)

/-- DESC_END (R289): An END descriptor makes the stream DONE once its issued chunks complete. -/
def execDescEnd (s0 : Fin 16384) (s : State) : Host.Outcome State Fault Refusal :=
  .next (descEndState s0 s)

/-- CHUNK_ISSUE (R291): The Mover issues the next 4,096-byte chunk of a RUNNING stream, round-robin. -/
def execChunkIssue (mv : Sys2Proof.MoverNo) (s : State) : Host.Outcome State Fault Refusal :=
  .next (chunkIssueState mv s)

/-- CHUNK_COMPLETE (R291): A chunk's accesses complete; after the last chunk of a COPY its signal is sent. -/
def execChunkComplete (s0 : Fin 16384) (off : Nat) (s : State) : Host.Outcome State Fault Refusal :=
  .next (chunkCompleteState s0 off s)

/-- STREAM_SUSPEND (R293): A stream with a memory-side failure has no chunk in flight; it records its position and becomes
SUSPENDED. -/
def execStreamSuspend (s0 : Fin 16384) (s : State) : Host.Outcome State Fault Refusal :=
  .next (streamSuspendState s0 s)

/-- STREAM_PREEMPTED (R298): A stream of a pre-empted context finishes its issued chunks and records its position as
PREEMPTED. -/
def execStreamPreempted (s0 : Fin 16384) (s : State) : Host.Outcome State Fault Refusal :=
  .next (streamPreemptedState s0 s)

/-- STREAM_IDLE (R299): A stream of an aborted context becomes IDLE once its issued chunks complete. -/
def execStreamIdle (s0 : Fin 16384) (s : State) : Host.Outcome State Fault Refusal :=
  .next (streamIdleState s0 s)

/-- MOVER_WAIT_TIMEOUT (R290): A stream's token or variant wait passes WAIT_TIMEOUT and the stream halts. -/
def execMoverWaitTimeout (s0 : Fin 16384) (s : State) : Host.Outcome State Fault Refusal :=
  .next (moverTimeoutState s0 s)

/-- MOVER_REASSIGN (R282): The Health Manager moves a logical Mover to another physical Mover between chunks. -/
def execMoverReassign (mv : Sys2Proof.MoverNo) (phys : Fin 72) (s : State) : Host.Outcome State Fault Refusal :=
  .next (moverReassignState mv phys s)

end Sys2Proof.Machine
end

