-- ==== Sys2Proof/Machine/Waiting.lean ====
section
/-! DEFINITION. What waits while XLAT is not ON, and goes on when it reaches ON (R274). -/

namespace Sys2Proof.Machine

/-- START_COMPLETE (R52): when the page is XLAT's, the accesses that waited for it go on (R274). -/
def startCompleteAll (p : Page) (s : State) : State :=
  let was := xlatOn s
  let s := startCompleteState p s
  if !was && xlatOn s then hostDue (xseqDue (aconDue s)) else s

end Sys2Proof.Machine
end

