-- ==== Sys2Proof/Machine/CmdPages.lean ====
section
/-! DEFINITION. The commands on register pages (R43 to R54) and the arrival of a signal (R25). One definition per command; each
answers a next state. -/

namespace Sys2Proof.Machine

/-- Base address of the page that an address lies in. -/
def pageBase (page : BitVec 48) : Nat := page.toNat / 4096 * 4096

/-- An event inside the page at an address: nothing happens on an absent or unpowered page. -/
def atPage (page : BitVec 48) (f : Page → State → State) (s : State) : State :=
  match pageAt page.toNat with
  | none => s
  | some p => if pageLive s p then f p s else s

/-- REGISTER_WRITE (R9): A register master writes a register that has no step of its own; the write takes effect under the
field access types. -/
def execRegisterWrite (m : Sys2Proof.Master) (pa : BitVec 48) (size : Nat) (value : BitVec 64)
    (s : State) : Host.Outcome State Fault Refusal :=
  .next (writeCmd m pa.toNat size value.toNat s)

/-- LOW_HALF_READ (R44): A 32-bit read of the low half of a 64-bit register latches the high half into the shadow of that
master. -/
def execLowHalfRead (m : Sys2Proof.Master) (pa : BitVec 48) (s : State) : Host.Outcome State Fault Refusal :=
  .next (readCmd m pa.toNat 4 s)

/-- ENABLE (R52): A write of CTRL.ENABLE moves the block between OFF, STARTING, ON and STOPPING, or sets or clears
RESTART_PENDING. -/
def execEnable (m : Sys2Proof.Master) (page : BitVec 48) (en : Bool) (s : State) : Host.Outcome State Fault Refusal :=
  .next (writeCmd m ((pageBase page) + Hdr.CTRL) 4 (b2n en) s)

/-- SOFT_RESET (R52): A write of CTRL.SOFT_RESET stops the block and returns its block-specific registers to reset at OFF,
with a restart if ENABLE is also written 1. -/
def execSoftReset (m : Sys2Proof.Master) (page : BitVec 48) (en : Bool) (s : State) : Host.Outcome State Fault Refusal :=
  .next (writeCmd m ((pageBase page) + Hdr.CTRL) 4 (2 + b2n en) s)

/-- STOP_COMPLETE (R53): In-flight work of a stopping block ends; working state is reset and the block goes to OFF, or
straight to STARTING if a restart is pending. -/
def execStopComplete (page : BitVec 48) (s : State) : Host.Outcome State Fault Refusal :=
  .next (atPage page stopCompleteState s)

/-- START_COMPLETE (R52): A starting block becomes ready and STATE goes to ON. -/
def execStartComplete (page : BitVec 48) (s : State) : Host.Outcome State Fault Refusal :=
  .next (atPage page startCompleteAll s)

/-- ERR_CODE_CLEAR (R51): A write of 1 to ERR_CODE.CLEAR sets REASON, COUNT, ERR_INFO0 and ERR_INFO1 to 0. -/
def execErrCodeClear (m : Sys2Proof.Master) (page : BitVec 48) (s : State) : Host.Outcome State Fault Refusal :=
  .next (writeCmd m ((pageBase page) + Hdr.ERR_CODE) 4 (2 ^ 31) s)

/-- LOCK (R48): A write of 1 to LOCK freezes the RWL fields of the page until device reset. -/
def execLock (m : Sys2Proof.Master) (page : BitVec 48) (s : State) : Host.Outcome State Fault Refusal :=
  .next (writeCmd m ((pageBase page) + Hdr.LOCK) 4 1 s)

/-- PSTATE_REQ (R49): A write of POWER.PSTATE_REQ requests FULL, RETAIN or GATED; the block enters RETAIN or GATED once it
reaches OFF. -/
def execPstateReq (m : Sys2Proof.Master) (page : BitVec 48) (req : BitVec 2)
    (s : State) : Host.Outcome State Fault Refusal :=
  .next (writeCmd m ((pageBase page) + Hdr.POWER) 4 req.toNat s)

/-- SIGNAL_ARRIVAL (R28): A token signal reaches a counter at its consumer and is counted before any wait tested in the same
cycle. -/
def execSignalArrival (k : Nat) (s : State) : Host.Outcome State Fault Refusal :=
  .next (signalArrivalState k s)

end Sys2Proof.Machine
end

