-- ==== Sys2Proof/Machine/CmdPower.lean ====
section
/-! DEFINITION. The commands of power, clocks and supplies (R441 to R470). One definition per command; each answers a next state. -/

namespace Sys2Proof.Machine

/-- GRANT_PERIOD (R444): At each 1 µs period the arbiter computes the grants and sets ACLK and ECLK. -/
def execGrantPeriod (x : Sys2Proof.PowerSample) (s : State) : Host.Outcome State Fault Refusal :=
  .next (grantPeriodState x s)

/-- BUDGET_SET (R443): The BMC sets a new budget, clamped, applying from the next period. -/
def execBudgetSet (watts : Nat) (s : State) : Host.Outcome State Fault Refusal :=
  .next (budgetSetState watts s)

/-- SLEW_STEP (R448): A domain's active PLL moves one 12.5 MHz step every 64 SCLK. -/
def execSlewStep (s : State) : Host.Outcome State Fault Refusal :=
  .next (slewStepState s)

/-- ROW_UNGATE (R451): The clock units ungate ACLK to the next cluster row every 64 SCLK. -/
def execRowUngate (s : State) : Host.Outcome State Fault Refusal :=
  .next (rowUngateState s)

/-- THROTTLE_N (R452): THROTTLE_N low for 100 ns moves ACLK and ECLK to the standby PLLs and throttles the budget. -/
def execThrottleN (s : State) : Host.Outcome State Fault Refusal :=
  .next (throttleNState s)

/-- THROTTLE_RELEASE (R452): THROTTLE_N high for 10 µs restores the full budget. -/
def execThrottleRelease (s : State) : Host.Outcome State Fault Refusal :=
  .next (throttleReleaseState s)

/-- THERMTRIP (R455): A comparator trips at 115 °C, removing the compute rails and latching THERMTRIP_N low. -/
def execThermtrip (_die : Fin 6) (_sensor : Fin 16) (s : State) : Host.Outcome State Fault Refusal :=
  .next (thermtripState s)

/-- REF_CHECK (R458): At each 1 ms window the reference candidates are judged and the first stable one is selected. -/
def execRefCheck (inst : Fin 2) (x : Sys2Proof.RefSample) (s : State) : Host.Outcome State Fault Refusal :=
  .next (refCheckState inst x s)

/-- REF_LOST (R459): The selected reference leaves range or is absent and PLLs fall back to the trimmed TRIMOSC. -/
def execRefLost (inst : Fin 2) (source : Fin 3) (s : State) : Host.Outcome State Fault Refusal :=
  .next (refLostState inst source s)

/-- PLL_FAILED (R460): A PLL loses lock for 100 ns and its domain switches to the other PLL, or goes Red. -/
def execPllFailed (inst : Fin 2) (d : Sys2Proof.ClkDomain) (pllB : Bool) (s : State) : Host.Outcome State Fault Refusal :=
  .next (pllFailedState inst d pllB s)

/-- VSTBY_ON (R463): VSTBY becomes valid; the standby domain resets, boots and verifies firmware. -/
def execVstbyOn (s : State) : Host.Outcome State Fault Refusal :=
  .next (vstbyOnState s)

/-- VSTBY_LOSS (R464): VSTBY leaves its range; the compute rails go down and the standby domain resets. -/
def execVstbyLoss (s : State) : Host.Outcome State Fault Refusal :=
  .next (vstbyLossState s)

/-- PWR_EN_RISE (R463): VSTBY, VMAIN and PWR_EN are all present and the power-up sequence begins. -/
def execPwrEnRise (s : State) : Host.Outcome State Fault Refusal :=
  .next (pwrEnRiseState s)

/-- POWER_UP_STEP_DONE (R463): A step of the power-up sequence ends and the next begins. -/
def execPowerUpStepDone (r : Sys2Proof.StepResult) (s : State) : Host.Outcome State Fault Refusal :=
  .next (powerUpStepState r s)

/-- PWR_EN_FALL (R464): PWR_EN falls; READY and PWR_GOOD drop and the compute domain is frozen and powered down. -/
def execPwrEnFall (s : State) : Host.Outcome State Fault Refusal :=
  .next (pwrEnFallState s)

/-- VMAIN_FAULT (R464): VMAIN stays outside 44–60 V for 10 µs and the compute domain is powered down. -/
def execVmainFault (s : State) : Host.Outcome State Fault Refusal :=
  .next (vmainFaultState s)

/-- RESET_N (R465): RESET_N low for at least 1 µs resets the device; the sequence restarts at its rising edge. -/
def execResetN (s : State) : Host.Outcome State Fault Refusal :=
  .next (resetNState s)

end Sys2Proof.Machine
end

