-- ==== Sys2Proof/Machine/CmdRecorder.lean ====
section
/-! DEFINITION. The commands of the Event Recorder and the Counter Dump Engine (R471 to R490). One definition per command; each
answers a next state. -/

namespace Sys2Proof.Machine

/-- EVENT_RECORD (R474): An event reaches the EVR and is merged into the open newest record or takes the next SEQ. -/
def execEventRecord (count : Nat) (s : State) : Host.Outcome State Fault Refusal :=
  .next (eventRecordState count s)

/-- MIRROR (R476): A record is mirrored to the flash ring when a newer record exists or 60 s after its last occurrence. -/
def execMirror (sectorFails : Bool) (s : State) : Host.Outcome State Fault Refusal :=
  .next (mirrorState sectorFails s)

/-- OP_MS_PERSIST (R480): Every 60 s the EVR persists OP_MS to an alternating flash slot. -/
def execOpMsPersist (s : State) : Host.Outcome State Fault Refusal :=
  .next (opMsPersistState s)

/-- EVR_CLEAR (R481): A write of EVR_CLEAR with KEY 0xC1EA erases the records and writes a CLEARED record. -/
def execEvrClear (x : Sys2Proof.Clearer) (key : BitVec 16) (s : State) : Host.Outcome State Fault Refusal :=
  match x with
  | .master m => .next (writeCmd m (pgEvr.base + Reg.EVR_CLEAR) 4 (key.toNat) s)
  | .bmc => .next (bmcClearState key.toNat s)

/-- ERASE_DONE (R481): The background erase of the mirror sectors ends and ERASING clears. -/
def execEraseDone (s : State) : Host.Outcome State Fault Refusal :=
  .next (eraseDoneState s)

/-- REC0_READ (R478): A 64-bit read of EVR_REC0 latches the selected record into the master's shadow. -/
def execRec0Read (m : Sys2Proof.Master) (s : State) : Host.Outcome State Fault Refusal :=
  .next (readCmd m (pgEvr.base + Reg.EVR_REC) 8 s)

/-- SAMPLE0_READ (R488): A read of CDE_SAMPLE0 latches the selected sample entry into the master's shadow. -/
def execSample0Read (m : Sys2Proof.Master) (s : State) : Host.Outcome State Fault Refusal :=
  .next (readCmd m (pgCde.base + Reg.CDE_SAMPLE) 8 s)

/-- CNT_CLEAR (R482): A write of 1 to CNT_CTRL.CLEAR sets the page's counters and OVF to 0. -/
def execCntClear (m : Sys2Proof.Master) (page : BitVec 48) (s : State) : Host.Outcome State Fault Refusal :=
  .next (writeCmd m ((pageBase page) + Hdr.CNT_CTRL + 4) 4 (2 + rf s ((pageBase page) + Hdr.CNT_CTRL + 4) 2 2 * 4 + rf s ((pageBase page) + Hdr.CNT_CTRL + 4) 0 0) s)

/-- SNAPSHOT (R486): The CDE period expires and a snapshot pulse latches and dumps the counters of DUMP pages. -/
def execSnapshot (s : State) : Host.Outcome State Fault Refusal :=
  .next (snapshotState s)

/-- SNAP (R486): A write of CDE_CMD.SNAP takes one manual snapshot. -/
def execSnap (m : Sys2Proof.Master) (s : State) : Host.Outcome State Fault Refusal :=
  .next (writeCmd m (pgCde.base + Reg.CDE_CMD) 4 (1) s)

end Sys2Proof.Machine
end

