-- ==== Sys2Proof/Machine/CmdSecurity.lean ====
section
/-! DEFINITION. The commands of worlds, life cycle and attestation (R415 to R440). One definition per command; each answers a next
state. -/

namespace Sys2Proof.Machine

/-- TAMPER (R423): An enabled tamper source aborts secure contexts, wipes secure memory and sets TAMPERED. -/
def execTamper (src : BitVec 4) (s : State) : Host.Outcome State Fault Refusal :=
  .next (tamperState src.toNat s)

/-- WIPE_DONE (R420): A secure-memory wipe completes and held accesses proceed. -/
def execWipeDone (s : State) : Host.Outcome State Fault Refusal :=
  .next (wipeDoneState s)

/-- LC_PROVISIONED (R425): SEC_LC_CMD to PROVISIONED fuses the UDS, wipes, blows the fuse and resets. -/
def execLcProvisioned (m : Sys2Proof.Master) (certsPresent : Bool) (s : State) : Host.Outcome State Fault Refusal :=
  .next (onPage m (pgSec.base + Reg.SEC_LC_CMD) 4 (fun _ s => lcProvision certsPresent s) s)

/-- LC_FIELD (R425): SEC_LC_CMD to FIELD wipes, blows the fuse and resets. -/
def execLcField (m : Sys2Proof.Master) (s : State) : Host.Outcome State Fault Refusal :=
  .next (onPage m (pgSec.base + Reg.SEC_LC_CMD) 4 (fun _ s => lcToField s) s)

/-- LC_RETURN (R425): SEC_LC_CMD to RETURN verifies the return token, then wipes, blows the fuse and resets. -/
def execLcReturn (m : Sys2Proof.Master) (ecdsaOk : Bool) (lmsOk : Bool) (deviceHash : Nat) (nonce : BitVec 32)
    (s : State) : Host.Outcome State Fault Refusal :=
  .next (onPage m (pgSec.base + Reg.SEC_LC_CMD) 4 (fun _ s => lcToReturn ecdsaOk lmsOk deviceHash nonce.toNat s) s)

/-- LC_SCRAPPED (R425): SEC_LC_CMD to SCRAPPED wipes, blows the fuse and resets. -/
def execLcScrapped (m : Sys2Proof.Master) (s : State) : Host.Outcome State Fault Refusal :=
  .next (onPage m (pgSec.base + Reg.SEC_LC_CMD) 4 (fun _ s => lcToScrapped s) s)

/-- MAILBOX_POLL (R432): Every 1 ms SEC polls the host mailbox and answers a new request. -/
def execMailboxPoll (s : State) : Host.Outcome State Fault Refusal :=
  .next (mailboxPollState s)

/-- GET_VERSION (R431): SPDM GET_VERSION is answered. -/
def execGetVersion (t : Sys2Proof.Transport) (msg : List Nat) (s : State) : Host.Outcome State Fault Refusal :=
  .next (getVersionState t msg s)

/-- GET_CAPABILITIES (R431): SPDM GET_CAPABILITIES is answered. -/
def execGetCapabilities (t : Sys2Proof.Transport) (msg : List Nat) (s : State) : Host.Outcome State Fault Refusal :=
  .next (getCapabilitiesState t msg s)

/-- NEGOTIATE_ALGORITHMS (R431): SPDM NEGOTIATE_ALGORITHMS is answered. -/
def execNegotiateAlgorithms (t : Sys2Proof.Transport) (msg : List Nat) (s : State) : Host.Outcome State Fault Refusal :=
  .next (negotiateAlgorithmsState t msg s)

/-- GET_DIGESTS (R431): SPDM GET_DIGESTS is answered. -/
def execGetDigests (t : Sys2Proof.Transport) (msg : List Nat) (s : State) : Host.Outcome State Fault Refusal :=
  .next (getDigestsState t msg s)

/-- GET_CERTIFICATE (R431): SPDM GET_CERTIFICATE returns the slot 0 chain. -/
def execGetCertificate (t : Sys2Proof.Transport) (msg : List Nat) (s : State) : Host.Outcome State Fault Refusal :=
  .next (getCertificateState t msg s)

/-- CHALLENGE (R433): SPDM CHALLENGE is answered with an Alias-key signature. -/
def execChallenge (t : Sys2Proof.Transport) (msg : List Nat) (s : State) : Host.Outcome State Fault Refusal :=
  .next (challengeState t msg s)

/-- GET_MEASUREMENTS (R431): SPDM GET_MEASUREMENTS returns the signed measurement blocks. -/
def execGetMeasurements (t : Sys2Proof.Transport) (msg : List Nat) (s : State) : Host.Outcome State Fault Refusal :=
  .next (getMeasurementsState t msg s)

/-- KEY_EXCHANGE (R431): SPDM KEY_EXCHANGE starts a secured session on MCTP. -/
def execKeyExchange (t : Sys2Proof.Transport) (msg : List Nat) (s : State) : Host.Outcome State Fault Refusal :=
  .next (keyExchangeState t msg s)

/-- FINISH (R431): SPDM FINISH completes the session handshake. -/
def execFinish (t : Sys2Proof.Transport) (msg : List Nat) (s : State) : Host.Outcome State Fault Refusal :=
  .next (finishState t msg s)

/-- END_SESSION (R431): SPDM END_SESSION ends a secured session. -/
def execEndSession (t : Sys2Proof.Transport) (msg : List Nat) (s : State) : Host.Outcome State Fault Refusal :=
  .next (endSessionState t msg s)

/-- LMS_SIGN (R435): LMS_SIGN journals the next leaf in both flashes, then signs H with it. -/
def execLmsSign (t : Sys2Proof.Transport) (s : State) : Host.Outcome State Fault Refusal :=
  .next (lmsSignState t s)

/-- LMS_CERT (R433): LMS_CERT returns the HSS public key and its vendor statement. -/
def execLmsCert (t : Sys2Proof.Transport) (s : State) : Host.Outcome State Fault Refusal :=
  .next (lmsCertState t s)

/-- SECURE_JOB (R434): SECURE_JOB executes a Host Protocol request with world S inside a secured session. -/
def execSecureJob (h : Sys2Proof.MsgHdr) (body : List Byte) (s : State) : Host.Outcome State Fault Refusal :=
  .next (secureJobState h body s)

/-- LINK_KEY (R434): LINK_KEY installs a standby key and salt on an Atwin port. -/
def execLinkKey (p : Sys2Proof.PortNo) (key : BitVec 256) (salt : BitVec 32)
    (s : State) : Host.Outcome State Fault Refusal :=
  .next (linkKeyState p key salt s)

/-- FIRMWARE_UPDATE (R428): In recovery the ROM accepts a firmware image from the BMC, writes it to set A and resets. -/
def execFirmwareUpdate (img : Sys2Proof.ImageCheck) (s : State) : Host.Outcome State Fault Refusal :=
  .next (firmwareUpdateState img s)

/-- MGC_WDOG (R439): A write of MGC_WDOG restarts the watchdog. -/
def execMgcWdog (m : Sys2Proof.Master) (value : BitVec 32) (s : State) : Host.Outcome State Fault Refusal :=
  .next (writeCmd m (mgcWdogReg) 4 (value.toNat) s)

/-- WATCHDOG_RESTART (R437): The watchdog expires and restarts the Management Controller through the ROM. -/
def execWatchdogRestart (img : Sys2Proof.ImageCheck) (s : State) : Host.Outcome State Fault Refusal :=
  .next (watchdogRestartState img s)

end Sys2Proof.Machine
end

