-- ==== Sys2Proof/Machine/CmdXseq.lean ====
section
/-! DEFINITION. The commands of gradient exchange and step commit (R334 to R360). One definition per command; each answers a next
state. -/

namespace Sys2Proof.Machine

/-- XSEQ_START (R350): START written to XSEQ_CTXc_CMD checks the schedule and enters EXCHANGE. -/
def execXseqStart (m : Sys2Proof.Master) (c : Sys2Proof.Ctx) (s : State) : Host.Outcome State Fault Refusal :=
  .next (writeCmd m (xsReg c Reg.XSEQ_CTX_CMD) 4 (1) s)

/-- XSEQ_ROLLBACK (R351): ROLLBACK written by the host rolls back the attempt with HOST_ROLLBACK. -/
def execXseqRollback (m : Sys2Proof.Master) (c : Sys2Proof.Ctx) (s : State) : Host.Outcome State Fault Refusal :=
  .next (writeCmd m (xsReg c Reg.XSEQ_CTX_CMD) 4 (2) s)

/-- XSEQ_COMMIT (R351): COMMIT written by the host flips an in-doubt device. -/
def execXseqCommit (m : Sys2Proof.Master) (c : Sys2Proof.Ctx) (s : State) : Host.Outcome State Fault Refusal :=
  .next (writeCmd m (xsReg c Reg.XSEQ_CTX_CMD) 4 (3) s)

/-- SET_EPOCH (R360): A secure write of SET_EPOCH sets the committed epoch and A := 0. -/
def execSetEpoch (m : Sys2Proof.Master) (c : Sys2Proof.Ctx) (value : BitVec 32)
    (s : State) : Host.Outcome State Fault Refusal :=
  .next (writeCmd m (xsReg c Reg.XSEQ_CTX_SET_EPOCH) 4 (value.toNat) s)

/-- SEND (R339): A SEND op waits, takes its credit, reads the length and sends DATA and END. -/
def execSend (c : Sys2Proof.Ctx) (op : Fin 4096) (s : State) : Host.Outcome State Fault Refusal :=
  .next (sendState c op s)

/-- RECV (R339): A RECV op waits and grants its buffer with a CREDIT. -/
def execRecv (c : Sys2Proof.Ctx) (op : Fin 4096) (s : State) : Host.Outcome State Fault Refusal :=
  .next (recvState c op s)

/-- SEND_CONFIRM (R345): A completed SEND whose gate and dependencies hold sends CONFIRM to its peer. -/
def execSendConfirm (c : Sys2Proof.Ctx) (op : Fin 4096) (s : State) : Host.Outcome State Fault Refusal :=
  .next (sendConfirmState c op s)

/-- LOCALLY_DONE (R348): All ops are done and confirmed and DONE_CTR holds 1; the leader sends STATS. -/
def execLocallyDone (c : Sys2Proof.Ctx) (s : State) : Host.Outcome State Fault Refusal :=
  .next (locallyDoneState c s)

/-- DATA (R341): A DATA packet is checked and its payload landed in the RECV buffer. -/
def execData (p : Sys2Proof.PortNo) (s : State) : Host.Outcome State Fault Refusal :=
  .next (dataState p s)

/-- COL_END (R341): An END packet gives the stream length; a complete RECV writes its length word and signals. -/
def execColEnd (p : Sys2Proof.PortNo) (s : State) : Host.Outcome State Fault Refusal :=
  .next (colEndState p s)

/-- CONFIRM (R344): A CONFIRM packet confirms the data of a RECV. -/
def execConfirm (p : Sys2Proof.PortNo) (s : State) : Host.Outcome State Fault Refusal :=
  .next (confirmState p s)

/-- REVOKE (R346): A REVOKE packet rolls back the named attempt, or is absorbed. -/
def execRevoke (p : Sys2Proof.PortNo) (s : State) : Host.Outcome State Fault Refusal :=
  .next (revokeState p s)

/-- STATS (R350): A STATS lap message adds this device's job-wide parts and passes on, or returns to the leader. -/
def execStats (p : Sys2Proof.PortNo) (s : State) : Host.Outcome State Fault Refusal :=
  .next (statsState p s)

/-- READY (R350): A READY lap message loads the sums, evaluates corrections and is forwarded, or returns to the leader. -/
def execReady (p : Sys2Proof.PortNo) (s : State) : Host.Outcome State Fault Refusal :=
  .next (readyState p s)

/-- COMMIT (R353): A COMMIT packet flips an in-doubt device to the epoch and is forwarded. -/
def execCommit (p : Sys2Proof.PortNo) (s : State) : Host.Outcome State Fault Refusal :=
  .next (commitState p s)

/-- QUERY (R354): A QUERY packet is answered from the responder's own commit state. -/
def execQuery (p : Sys2Proof.PortNo) (s : State) : Host.Outcome State Fault Refusal :=
  .next (queryState p s)

/-- ANSWER (R354): An ANSWER packet flips, rolls back or leaves the querier unchanged. -/
def execAnswer (p : Sys2Proof.PortNo) (s : State) : Host.Outcome State Fault Refusal :=
  .next (answerState p s)

/-- COL_CREDIT (R341): A COL CREDIT is given to the first SEND waiting on that peer and landing buffer. -/
def execColCredit (p : Sys2Proof.PortNo) (s : State) : Host.Outcome State Fault Refusal :=
  .next (colCreditState p s)

/-- RING_TIMEOUT (R350): A commit lap does not progress within the ring timeout and the attempt rolls back. -/
def execRingTimeout (c : Sys2Proof.Ctx) (s : State) : Host.Outcome State Fault Refusal :=
  .next (ringTimeoutState c s)

/-- QUERY_INTERVAL (R354): QUERY_MS passes in READY_SENT and the device queries its next target. -/
def execQueryInterval (c : Sys2Proof.Ctx) (s : State) : Host.Outcome State Fault Refusal :=
  .next (queryIntervalState c s)

/-- QUIET_EXPIRY (R350): QUIET_MS passes in ROLLBACK and the context becomes ROLLED_BACK. -/
def execQuietExpiry (c : Sys2Proof.Ctx) (s : State) : Host.Outcome State Fault Refusal :=
  .next (quietExpiryState c s)

/-- XSEQ_WAIT_TIMEOUT (R340): An op WAIT, GATE or DONE_CTR wait passes its limit and the attempt rolls back. -/
def execXseqWaitTimeout (c : Sys2Proof.Ctx) (op : Option (Fin 4096)) (s : State) : Host.Outcome State Fault Refusal :=
  .next (xseqWaitTimeoutState c (op.map (·.val)) s)

/-- HALT_SHARE_N (R357): HALT_SHARE_N is seen low without this module driving it and sharing contexts roll back. -/
def execHaltShareN (s : State) : Host.Outcome State Fault Refusal :=
  .next (haltShareState s)

/-- HALT_SHARE_N_RELEASE (R357): The 2 µs low pulse that XSEQ drives on HALT_SHARE_N ends and the module releases the line.
-/
def execHaltShareNRelease (s : State) : Host.Outcome State Fault Refusal :=
  .next (haltShareReleaseState s)

end Sys2Proof.Machine
end

