-- ==== Sys2Proof/Machine/Dispatch.lean ====
section
/-! DEFINITION. The meaning of each command: one arm per constructor of Instr, each one direct call. -/

namespace Sys2Proof.Machine

def exec (i : Instr) (s : State) : Host.Outcome State Fault Refusal :=
  match i with
  | .registerWrite m pa size value => Sys2Proof.Machine.execRegisterWrite m pa size value s
  | .lowHalfRead m pa => Sys2Proof.Machine.execLowHalfRead m pa s
  | .enable m page en => Sys2Proof.Machine.execEnable m page en s
  | .softReset m page en => Sys2Proof.Machine.execSoftReset m page en s
  | .stopComplete page => Sys2Proof.Machine.execStopComplete page s
  | .startComplete page => Sys2Proof.Machine.execStartComplete page s
  | .errCodeClear m page => Sys2Proof.Machine.execErrCodeClear m page s
  | .lock m page => Sys2Proof.Machine.execLock m page s
  | .pstateReq m page req => Sys2Proof.Machine.execPstateReq m page req s
  | .signalArrival k => Sys2Proof.Machine.execSignalArrival k s
  | .start m c => Sys2Proof.Machine.execStart m c s
  | .resume m c => Sys2Proof.Machine.execResume m c s
  | .abort m c => Sys2Proof.Machine.execAbort m c s
  | .abortDone c => Sys2Proof.Machine.execAbortDone c s
  | .preempt m c => Sys2Proof.Machine.execPreempt m c s
  | .arrayGrant => Sys2Proof.Machine.execArrayGrant s
  | .windowLoad => Sys2Proof.Machine.execWindowLoad s
  | .carrySlot => Sys2Proof.Machine.execCarrySlot s
  | .windowStart => Sys2Proof.Machine.execWindowStart s
  | .tokenTimeout => Sys2Proof.Machine.execTokenTimeout s
  | .win => Sys2Proof.Machine.execWin s
  | .frame => Sys2Proof.Machine.execFrame s
  | .mma underrun => Sys2Proof.Machine.execMma underrun s
  | .drain => Sys2Proof.Machine.execDrain s
  | .drainComplete n faults => Sys2Proof.Machine.execDrainComplete n faults s
  | .swap => Sys2Proof.Machine.execSwap s
  | .sig => Sys2Proof.Machine.execSig s
  | .quiet => Sys2Proof.Machine.execQuiet s
  | .save => Sys2Proof.Machine.execSave s
  | .restore underrun => Sys2Proof.Machine.execRestore underrun s
  | .audit => Sys2Proof.Machine.execAudit s
  | .vsel => Sys2Proof.Machine.execVsel s
  | .loop => Sys2Proof.Machine.execLoop s
  | .jmp => Sys2Proof.Machine.execJmp s
  | .endProg => Sys2Proof.Machine.execEndProg s
  | .contextDone c => Sys2Proof.Machine.execContextDone c s
  | .windowEnd => Sys2Proof.Machine.execWindowEnd s
  | .signalDelivery => Sys2Proof.Machine.execSignalDelivery s
  | .replay => Sys2Proof.Machine.execReplay s
  | .contextSwitch => Sys2Proof.Machine.execContextSwitch s
  | .streamStart n c => Sys2Proof.Machine.execStreamStart n c s
  | .streamFetch n => Sys2Proof.Machine.execStreamFetch n s
  | .wait n => Sys2Proof.Machine.execWait n s
  | .phaseStart n => Sys2Proof.Machine.execPhaseStart n s
  | .cseqWaitTimeout n => Sys2Proof.Machine.execCseqWaitTimeout n s
  | .signal n => Sys2Proof.Machine.execSignal n s
  | .varj n => Sys2Proof.Machine.execVarj n s
  | .cseqLoop n => Sys2Proof.Machine.execCseqLoop n s
  | .cseqJmp n => Sys2Proof.Machine.execCseqJmp n s
  | .cseqEnd n => Sys2Proof.Machine.execCseqEnd n s
  | .cseqReplay n => Sys2Proof.Machine.execCseqReplay n s
  | .cseqSwitch n => Sys2Proof.Machine.execCseqSwitch n s
  | .vecParam n o => Sys2Proof.Machine.execVecParam n o s
  | .ew n o => Sys2Proof.Machine.execEw n o s
  | .vecCvt n o => Sys2Proof.Machine.execVecCvt n o s
  | .wideAdd n o => Sys2Proof.Machine.execWideAdd n o s
  | .dotExact n o => Sys2Proof.Machine.execDotExact n o s
  | .accDrain n o => Sys2Proof.Machine.execAccDrain n o s
  | .accLoad n o => Sys2Proof.Machine.execAccLoad n o s
  | .kload n o => Sys2Proof.Machine.execKload n o s
  | .krun n o => Sys2Proof.Machine.execKrun n o s
  | .transpose n stall => Sys2Proof.Machine.execTranspose n stall s
  | .xposeCopy n stall => Sys2Proof.Machine.execXposeCopy n stall s
  | .sum n stall => Sys2Proof.Machine.execSum n stall s
  | .max n stall => Sys2Proof.Machine.execMax n stall s
  | .min n stall => Sys2Proof.Machine.execMin n stall s
  | .argmax n stall => Sys2Proof.Machine.execArgmax n stall s
  | .argmin n stall => Sys2Proof.Machine.execArgmin n stall s
  | .sumexp n stall => Sys2Proof.Machine.execSumexp n stall s
  | .convParam n stall => Sys2Proof.Machine.execConvParam n stall s
  | .convCvt n stall => Sys2Proof.Machine.execConvCvt n stall s
  | .wenc n stall => Sys2Proof.Machine.execWenc n stall s
  | .wdec n stall => Sys2Proof.Machine.execWdec n stall s
  | .statPost n stall => Sys2Proof.Machine.execStatPost n stall s
  | .exp n stall => Sys2Proof.Machine.execExp n stall s
  | .exp2 n stall => Sys2Proof.Machine.execExp2 n stall s
  | .log n stall => Sys2Proof.Machine.execLog n stall s
  | .log2 n stall => Sys2Proof.Machine.execLog2 n stall s
  | .tanh n stall => Sys2Proof.Machine.execTanh n stall s
  | .sigmoid n stall => Sys2Proof.Machine.execSigmoid n stall s
  | .gelu n stall => Sys2Proof.Machine.execGelu n stall s
  | .sin n stall => Sys2Proof.Machine.execSin n stall s
  | .cos n stall => Sys2Proof.Machine.execCos n stall s
  | .rcp n stall => Sys2Proof.Machine.execRcp n stall s
  | .sqrt n stall => Sys2Proof.Machine.execSqrt n stall s
  | .rsqrt n stall => Sys2Proof.Machine.execRsqrt n stall s
  | .gatherC n stall => Sys2Proof.Machine.execGatherC n stall s
  | .gatherM n stall => Sys2Proof.Machine.execGatherM n stall s
  | .scatterC n stall => Sys2Proof.Machine.execScatterC n stall s
  | .scatterAddC n stall => Sys2Proof.Machine.execScatterAddC n stall s
  | .scatterAddM n stall => Sys2Proof.Machine.execScatterAddM n stall s
  | .gathMDone n k => Sys2Proof.Machine.execGathMDone n k s
  | .bankPwrReq m n value => Sys2Proof.Machine.execBankPwrReq m n value s
  | .retIdleExpiry n b => Sys2Proof.Machine.execRetIdleExpiry n b s
  | .bankZeroDone n b => Sys2Proof.Machine.execBankZeroDone n b s
  | .bankWorld m n value => Sys2Proof.Machine.execBankWorld m n value s
  | .eccWriteback n w => Sys2Proof.Machine.execEccWriteback n w s
  | .statsAbsorb k => Sys2Proof.Machine.execStatsAbsorb k s
  | .skeepEntryWrite m inst k value => Sys2Proof.Machine.execSkeepEntryWrite m inst k value s
  | .skeepSave m inst => Sys2Proof.Machine.execSkeepSave m inst s
  | .skeepLoad m inst => Sys2Proof.Machine.execSkeepLoad m inst s
  | .warm m inst c => Sys2Proof.Machine.execWarm m inst c s
  | .invalidate m inst => Sys2Proof.Machine.execInvalidate m inst s
  | .clearWorking m inst c => Sys2Proof.Machine.execClearWorking m inst c s
  | .skeepCmdDone inst => Sys2Proof.Machine.execSkeepCmdDone inst s
  | .memoryRead k secure pa obs => Sys2Proof.Machine.execMemoryRead k secure pa obs s
  | .memoryWrite k secure pa data obs => Sys2Proof.Machine.execMemoryWrite k secure pa data obs s
  | .channelTimeout g member => Sys2Proof.Machine.execChannelTimeout g member s
  | .calibrationFailure g member => Sys2Proof.Machine.execCalibrationFailure g member s
  | .cgmFail m g member => Sys2Proof.Machine.execCgmFail m g member s
  | .go m inst g => Sys2Proof.Machine.execGo m inst g s
  | .evacLineCopy obs => Sys2Proof.Machine.execEvacLineCopy obs s
  | .scrubRead g obs => Sys2Proof.Machine.execScrubRead g obs s
  | .refresh g member bank => Sys2Proof.Machine.execRefresh g member bank s
  | .mr4Poll package rate => Sys2Proof.Machine.execMr4Poll package rate s
  | .pageWalk c va write rdma => Sys2Proof.Machine.execPageWalk c va write rdma s
  | .invalAll m => Sys2Proof.Machine.execInvalAll m s
  | .invalContext m c => Sys2Proof.Machine.execInvalContext m c s
  | .invalRange m c => Sys2Proof.Machine.execInvalRange m c s
  | .invalDone => Sys2Proof.Machine.execInvalDone s
  | .rptRegionWrite m k value => Sys2Proof.Machine.execRptRegionWrite m k value s
  | .moverStart m mv => Sys2Proof.Machine.execMoverStart m mv s
  | .moverResume m mv => Sys2Proof.Machine.execMoverResume m mv s
  | .moverAbort m mv => Sys2Proof.Machine.execMoverAbort m mv s
  | .copy s0 => Sys2Proof.Machine.execCopy s0 s
  | .descVarj s0 => Sys2Proof.Machine.execDescVarj s0 s
  | .jump s0 => Sys2Proof.Machine.execJump s0 s
  | .descEnd s0 => Sys2Proof.Machine.execDescEnd s0 s
  | .chunkIssue mv => Sys2Proof.Machine.execChunkIssue mv s
  | .chunkComplete s0 off => Sys2Proof.Machine.execChunkComplete s0 off s
  | .streamSuspend s0 => Sys2Proof.Machine.execStreamSuspend s0 s
  | .streamPreempted s0 => Sys2Proof.Machine.execStreamPreempted s0 s
  | .streamIdle s0 => Sys2Proof.Machine.execStreamIdle s0 s
  | .moverWaitTimeout s0 => Sys2Proof.Machine.execMoverWaitTimeout s0 s
  | .moverReassign mv phys => Sys2Proof.Machine.execMoverReassign mv phys s
  | .laneFailed p f => Sys2Proof.Machine.execLaneFailed p f s
  | .laneSwap p u => Sys2Proof.Machine.execLaneSwap p u s
  | .swapAt p u => Sys2Proof.Machine.execSwapAt p u s
  | .laneSwitch p => Sys2Proof.Machine.execLaneSwitch p s
  | .ack p u => Sys2Proof.Machine.execAck p u s
  | .nak p u => Sys2Proof.Machine.execNak p u s
  | .credit p b u => Sys2Proof.Machine.execCredit p b u s
  | .keySwitch p u => Sys2Proof.Machine.execKeySwitch p u s
  | .controlResend p => Sys2Proof.Machine.execControlResend p s
  | .packetReceive p u pkt => Sys2Proof.Machine.execPacketReceive p u pkt s
  | .packetTransmit p => Sys2Proof.Machine.execPacketTransmit p s
  | .retryTimeout p => Sys2Proof.Machine.execRetryTimeout p s
  | .retrainEnd p good => Sys2Proof.Machine.execRetrainEnd p good s
  | .lossOfSignal p => Sys2Proof.Machine.execLossOfSignal p s
  | .trainingRetry p => Sys2Proof.Machine.execTrainingRetry p s
  | .portUp p peer peerPort peerEncrypt => Sys2Proof.Machine.execPortUp p peer peerPort peerEncrypt s
  | .throttleUpdate p => Sys2Proof.Machine.execThrottleUpdate p s
  | .residenceExpiry p at_ => Sys2Proof.Machine.execResidenceExpiry p at_ s
  | .tagTimeout t => Sys2Proof.Machine.execTagTimeout t s
  | .quarantineExpiry t => Sys2Proof.Machine.execQuarantineExpiry t s
  | .routeWrite m inst value => Sys2Proof.Machine.execRouteWrite m inst value s
  | .fenceWrite m inst j value => Sys2Proof.Machine.execFenceWrite m inst j value s
  | .switch m p => Sys2Proof.Machine.execSwitch m p s
  | .keyStandbyWrite m p last => Sys2Proof.Machine.execKeyStandbyWrite m p last s
  | .rd p => Sys2Proof.Machine.execRd p s
  | .wr p => Sys2Proof.Machine.execWr p s
  | .ping p => Sys2Proof.Machine.execPing p s
  | .rdData p => Sys2Proof.Machine.execRdData p s
  | .wrAck p => Sys2Proof.Machine.execWrAck p s
  | .pong p => Sys2Proof.Machine.execPong p s
  | .nack p => Sys2Proof.Machine.execNack p s
  | .xseqStart m c => Sys2Proof.Machine.execXseqStart m c s
  | .xseqRollback m c => Sys2Proof.Machine.execXseqRollback m c s
  | .xseqCommit m c => Sys2Proof.Machine.execXseqCommit m c s
  | .setEpoch m c value => Sys2Proof.Machine.execSetEpoch m c value s
  | .send c op => Sys2Proof.Machine.execSend c op s
  | .recv c op => Sys2Proof.Machine.execRecv c op s
  | .sendConfirm c op => Sys2Proof.Machine.execSendConfirm c op s
  | .locallyDone c => Sys2Proof.Machine.execLocallyDone c s
  | .data p => Sys2Proof.Machine.execData p s
  | .colEnd p => Sys2Proof.Machine.execColEnd p s
  | .confirm p => Sys2Proof.Machine.execConfirm p s
  | .revoke p => Sys2Proof.Machine.execRevoke p s
  | .stats p => Sys2Proof.Machine.execStats p s
  | .ready p => Sys2Proof.Machine.execReady p s
  | .commit p => Sys2Proof.Machine.execCommit p s
  | .query p => Sys2Proof.Machine.execQuery p s
  | .answer p => Sys2Proof.Machine.execAnswer p s
  | .colCredit p => Sys2Proof.Machine.execColCredit p s
  | .ringTimeout c => Sys2Proof.Machine.execRingTimeout c s
  | .queryInterval c => Sys2Proof.Machine.execQueryInterval c s
  | .quietExpiry c => Sys2Proof.Machine.execQuietExpiry c s
  | .xseqWaitTimeout c op => Sys2Proof.Machine.execXseqWaitTimeout c op s
  | .haltShareN => Sys2Proof.Machine.execHaltShareN s
  | .arpRequest e target sender => Sys2Proof.Machine.execArpRequest e target sender s
  | .neighbourSolicitation e target sender => Sys2Proof.Machine.execNeighbourSolicitation e target sender s
  | .echoRequest e v6 target sender body => Sys2Proof.Machine.execEchoRequest e v6 target sender body s
  | .cmReq e r => Sys2Proof.Machine.execCmReq e r s
  | .cmRtu qp => Sys2Proof.Machine.execCmRtu qp s
  | .cmDreq qp => Sys2Proof.Machine.execCmDreq qp s
  | .rdmaWrite qp psn va rkey ecn lostWords data => Sys2Proof.Machine.execRdmaWrite qp psn va rkey ecn lostWords data s
  | .rdmaRead qp psn va rkey r => Sys2Proof.Machine.execRdmaRead qp psn va rkey r s
  | .cnp qp => Sys2Proof.Machine.execCnp qp s
  | .ccPeriod qp => Sys2Proof.Machine.execCcPeriod qp s
  | .ackTimeout qp => Sys2Proof.Machine.execAckTimeout qp s
  | .rnrNak qp r => Sys2Proof.Machine.execRnrNak qp r s
  | .transportAck a => Sys2Proof.Machine.execTransportAck a s
  | .jobLoad qp h body => Sys2Proof.Machine.execJobLoad qp h body s
  | .doorbell qp h body => Sys2Proof.Machine.execDoorbell qp h body s
  | .bind qp h body => Sys2Proof.Machine.execBind qp h body s
  | .regAccess qp h body => Sys2Proof.Machine.execRegAccess qp h body s
  | .memWrite qp h body => Sys2Proof.Machine.execMemWrite qp h body s
  | .memRead qp h body => Sys2Proof.Machine.execMemRead qp h body s
  | .nop qp h body => Sys2Proof.Machine.execNop qp h body s
  | .qpReset m e => Sys2Proof.Machine.execQpReset m e s
  | .qpError m e => Sys2Proof.Machine.execQpError m e s
  | .portHoldExpiry e => Sys2Proof.Machine.execPortHoldExpiry e s
  | .linkReturn e mode => Sys2Proof.Machine.execLinkReturn e mode s
  | .patrolRound n pass => Sys2Proof.Machine.execPatrolRound n pass s
  | .patrolLate n => Sys2Proof.Machine.execPatrolLate n s
  | .lanePatrol n lane pass => Sys2Proof.Machine.execLanePatrol n lane pass s
  | .bankRotation n => Sys2Proof.Machine.execBankRotation n s
  | .suspectRerun n u results => Sys2Proof.Machine.execSuspectRerun n u results s
  | .lineRepair n pr pc => Sys2Proof.Machine.execLineRepair n pr pc s
  | .scanCluster m target mismatch => Sys2Proof.Machine.execScanCluster m target mismatch s
  | .patrolCore m target pass => Sys2Proof.Machine.execPatrolCore m target pass s
  | .retireRowBand m target => Sys2Proof.Machine.execRetireRowBand m target s
  | .retireColBand m target => Sys2Proof.Machine.execRetireColBand m target s
  | .rotateBank m target => Sys2Proof.Machine.execRotateBank m target s
  | .bankCopy n marchPass lostWords => Sys2Proof.Machine.execBankCopy n marchPass lostWords s
  | .healthDatagram => Sys2Proof.Machine.execHealthDatagram s
  | .tamper src => Sys2Proof.Machine.execTamper src s
  | .wipeDone => Sys2Proof.Machine.execWipeDone s
  | .lcProvisioned m certsPresent => Sys2Proof.Machine.execLcProvisioned m certsPresent s
  | .lcField m => Sys2Proof.Machine.execLcField m s
  | .lcReturn m ecdsaOk lmsOk deviceHash nonce => Sys2Proof.Machine.execLcReturn m ecdsaOk lmsOk deviceHash nonce s
  | .lcScrapped m => Sys2Proof.Machine.execLcScrapped m s
  | .mailboxPoll => Sys2Proof.Machine.execMailboxPoll s
  | .getVersion t msg => Sys2Proof.Machine.execGetVersion t msg s
  | .getCapabilities t msg => Sys2Proof.Machine.execGetCapabilities t msg s
  | .negotiateAlgorithms t msg => Sys2Proof.Machine.execNegotiateAlgorithms t msg s
  | .getDigests t msg => Sys2Proof.Machine.execGetDigests t msg s
  | .getCertificate t msg => Sys2Proof.Machine.execGetCertificate t msg s
  | .challenge t msg => Sys2Proof.Machine.execChallenge t msg s
  | .getMeasurements t msg => Sys2Proof.Machine.execGetMeasurements t msg s
  | .keyExchange t msg => Sys2Proof.Machine.execKeyExchange t msg s
  | .finish t msg => Sys2Proof.Machine.execFinish t msg s
  | .endSession t msg => Sys2Proof.Machine.execEndSession t msg s
  | .lmsSign t => Sys2Proof.Machine.execLmsSign t s
  | .lmsCert t => Sys2Proof.Machine.execLmsCert t s
  | .secureJob h body => Sys2Proof.Machine.execSecureJob h body s
  | .linkKey p key salt => Sys2Proof.Machine.execLinkKey p key salt s
  | .firmwareUpdate img => Sys2Proof.Machine.execFirmwareUpdate img s
  | .mgcWdog m value => Sys2Proof.Machine.execMgcWdog m value s
  | .watchdogRestart img => Sys2Proof.Machine.execWatchdogRestart img s
  | .grantPeriod x => Sys2Proof.Machine.execGrantPeriod x s
  | .budgetSet watts => Sys2Proof.Machine.execBudgetSet watts s
  | .slewStep => Sys2Proof.Machine.execSlewStep s
  | .rowUngate => Sys2Proof.Machine.execRowUngate s
  | .throttleN => Sys2Proof.Machine.execThrottleN s
  | .throttleRelease => Sys2Proof.Machine.execThrottleRelease s
  | .thermtrip die sensor => Sys2Proof.Machine.execThermtrip die sensor s
  | .refCheck inst x => Sys2Proof.Machine.execRefCheck inst x s
  | .refLost inst source => Sys2Proof.Machine.execRefLost inst source s
  | .pllFailed inst d pllB => Sys2Proof.Machine.execPllFailed inst d pllB s
  | .vstbyOn => Sys2Proof.Machine.execVstbyOn s
  | .vstbyLoss => Sys2Proof.Machine.execVstbyLoss s
  | .pwrEnRise => Sys2Proof.Machine.execPwrEnRise s
  | .powerUpStepDone r => Sys2Proof.Machine.execPowerUpStepDone r s
  | .pwrEnFall => Sys2Proof.Machine.execPwrEnFall s
  | .vmainFault => Sys2Proof.Machine.execVmainFault s
  | .resetN => Sys2Proof.Machine.execResetN s
  | .eventRecord count => Sys2Proof.Machine.execEventRecord count s
  | .mirror sectorFails => Sys2Proof.Machine.execMirror sectorFails s
  | .opMsPersist => Sys2Proof.Machine.execOpMsPersist s
  | .evrClear x key => Sys2Proof.Machine.execEvrClear x key s
  | .eraseDone => Sys2Proof.Machine.execEraseDone s
  | .rec0Read m => Sys2Proof.Machine.execRec0Read m s
  | .sample0Read m => Sys2Proof.Machine.execSample0Read m s
  | .cntClear m page => Sys2Proof.Machine.execCntClear m page s
  | .snapshot => Sys2Proof.Machine.execSnapshot s
  | .snap m => Sys2Proof.Machine.execSnap m s
  | .reqSend inst dst world portal epoch k => Sys2Proof.Machine.execReqSend inst dst world portal epoch k s
  | .ethernetLinkDown e => Sys2Proof.Machine.execEthernetLinkDown e s
  | .priorityFlowControl e prio pause => Sys2Proof.Machine.execPriorityFlowControl e prio pause s
  | .otherFrame e => Sys2Proof.Machine.execOtherFrame e s
  | .unsupportedPacket e qp r => Sys2Proof.Machine.execUnsupportedPacket e qp r s
  | .cmemPatrolRead n => Sys2Proof.Machine.execCmemPatrolRead n s
  | .haltShareNRelease => Sys2Proof.Machine.execHaltShareNRelease s

end Sys2Proof.Machine
end

