-- ==== Sys2Proof/Machine/Tick.lean ====
section
/-! DEFINITION. What an idle step does: 80 ns of time pass on the block's clocks (R8, R448, R480; log entry 2). Nothing else
happens on an empty queue: every event that a clock could bring about is a command of the table. -/

namespace Sys2Proof.Machine

/-- Idle steps in one millisecond of OP_MS. -/
def ticksPerMs : Nat := 12500

/-- The clocks 80 ns later. ACLK and ECLK run at PST_FREQ steps of 12.5 MHz, one cycle per step; the other domains at their
nominal frequencies (R8, R447), while the compute rails are up; SCLK while the standby domain runs. -/
def laterClocks (s : State) : Clocks :=
  let k := s.clk
  let a := rf s ((pgPst 0).base + Reg.PST_FREQ) 7 0
  let e := rf s ((pgPst 0).base + Reg.PST_FREQ) 15 8
  let on (n : Nat) : Nat := if s.power.rails then n else 0
  { k with
    aclk := k.aclk + on a, eclk := k.eclk + on e, nclk := k.nclk + on 160, hclk := k.hclk + on 100
    mclk3 := k.mclk3 + on 320, sclk := k.sclk + 64, ticks := k.ticks + 1 }

/-- OP_MS counts milliseconds of the standby domain and saturates (R480). -/
def opMsTick (s : State) : State :=
  if s.clk.msTicks + 1 < ticksPerMs then { s with clk := { s.clk with msTicks := s.clk.msTicks + 1 } }
  else { s with clk := { s.clk with msTicks := 0 }, evr := { s.evr with opMs := min (2 ^ 40 - 1) (s.evr.opMs + 1) } }

/-- Live entries of the Guard of cluster n count in every ECLK (R484), each with its owner and its address. -/
def guardLive (n cycles : Nat) (s : State) : State :=
  (liveEntries s.clk.eclk (clu s n).guard).foldl (fun s e =>
    tallyHeld (pgGuard n) 0x0101 cycles { master := some e.who, addr := some (cmemPa n e.first) } s) s

/-- The Guards that count their live entries. -/
def guardsTick (cycles : Nat) (s : State) : State :=
  (countingPages s).foldl (fun s p => if p.type = 0x0202 then guardLive p.inst cycles s else s) s

/-- An idle step: with the standby supply gone no clock runs. -/
def tick (s : State) : State :=
  if !s.pins.vstby then s
  else
    let k := laterClocks s
    opMsTick (guardsTick (k.eclk - s.clk.eclk) (clocksTo k s))

end Sys2Proof.Machine
end

