-- ==== Sys2Proof/Safety.lean ====
section
/-! DEFINITION. What counts as a safe run, in the terms the statements use: the invariants of the state's own data, who is
let in to a register, and what an effect leaves alone. -/

namespace Sys2Proof.Machine

/-- Main memory with the Vault, and cluster memory, keep their canonical form. -/
def State.memoriesWf (s : State) : Prop := Memory.wf s.mem = true ∧ Memory.wf s.cmem = true

/-- The fuses hold a legal life-cycle state (R424), four anti-rollback counters of 64 fuses (R429) and an LMS field of 1,024
fuses (R435). -/
def Fuses.ok (f : Fuses) : Prop :=
  f.lifecycle ≤ 4 ∧ f.svn.length = 4 ∧ (∀ i, lget f.svn i 0 ≤ 64) ∧ f.lmsTree ≤ 1024

/-- Fuses are only ever blown: nothing goes back, and the grade and the IDs never change (R1, R424, R429, R435). -/
def Fuses.onlyBlown (f g : Fuses) : Prop :=
  f.lifecycle ≤ g.lifecycle ∧ (∀ i, lget f.svn i 0 ≤ lget g.svn i 0) ∧ f.lmsTree ≤ g.lmsTree ∧ g.grade = f.grade ∧
  g.standardId = f.standardId ∧ g.vendorId = f.vendorId ∧ (f.udsLocked = true → g.udsLocked = true)

/-- A register master's access to the 32-bit word at an offset of a page is let in: the page is present and powered, the
master's bus reaches it, and it is not a non-secure access to a secure page or to a secure context's set (R36 to R46, R154). -/
def LetIn (m : Sys2Proof.Master) (p : Page) (off : Nat) (s : State) : Prop :=
  entry m (p.base + off) 4 s = .go p ∧ (Master.secure m = true ∨ pageWorld s p = false)

/-- Every byte of main memory, of the Vault and of cluster memory reads as before. -/
def SameMemory (s t : State) : Prop :=
  (∀ a, memGet t.mem a = memGet s.mem a) ∧ (∀ a, memGet t.cmem a = memGet s.cmem a)

/-- No line's next read is about to be rewritten: a read of a line whose chunks arrive with exactly one member in error on the
links corrects it in place (R254, log entry 10). -/
def noLinkErrors (s : State) : Prop := ∀ e ∈ s.memObs, e.2.linkBad = []

/-- The effect of a command that only reads main memory: cluster memory reads as before, and main memory too, but for a line
that its own read corrected in place (R254). -/
def Unwritten (s t : State) : Prop :=
  (noLinkErrors s → ∀ a, memGet t.mem a = memGet s.mem a) ∧ (∀ a, memGet t.cmem a = memGet s.cmem a)

/-- Every byte of cluster memory outside [lo, hi) of `State.cmem` reads as before. -/
def CmemOutside (lo hi : Nat) (s t : State) : Prop := ∀ a, a < lo ∨ hi ≤ a → memGet t.cmem a = memGet s.cmem a

/-- Every byte of main memory and the Vault outside [lo, hi) reads as before. -/
def MemOutside (lo hi : Nat) (s t : State) : Prop := ∀ a, a < lo ∨ hi ≤ a → memGet t.mem a = memGet s.mem a

/-- First and last key of cluster n's bytes in `State.cmem`. -/
def cluFirst (n : Nat) : Nat := cmemKey n 0 0
def cluEnd (n : Nat) : Nat := cmemKey (n + 1) 0 0

/-- Every register word but those at `as` reads as before. -/
def RegsBut (as : List Nat) (s t : State) : Prop := ∀ a, a ∉ as → regGet t a = regGet s a

/-- Every register word outside the pages at `bases` reads as before, but for CNT_CTRL and the counters of R482: any page may
count an occurrence or a cycle. -/
def RegFrame (bases : List Nat) (s t : State) : Prop :=
  ∀ a, (∀ b ∈ bases, a < b ∨ b + 4096 ≤ a) → (a % 4096 < 0x88 ∨ 0xD0 ≤ a % 4096) → regGet t a = regGet s a

/-- Engine `eng` of cluster n issues the command q at the head of its phase p of context c without a halt (R173, R180, R181): the
slot is the command's, nothing waits to halt the stream, and at ECLK s1.clk.eclk, cycle ISSUE_AT of the phase, no array wave
that has arrived by then halts it, the engine is free, finds no fault in the command, and the Guard lets its ranges in. `pl` is
what the engine plans. -/
def EngineIssues (n eng : Nat) (isIt : Slot → Bool) (plan : EngArg → State → EngPlan) (c : Nat) (p : Phase) (q : QSlot)
    (pl : EngPlan) (s s1 : State) : Prop :=
  ∃ k, phaseHead s n = some (c, k, p, q) ∧ q.eng = eng ∧ isIt q.word = true ∧ k.nextError = none ∧
    s1 = wavesAt n (eclkTo (p.cycle0 + fld q.word 119 104) s) ∧ csState s1 n c = 1 ∧
    pl = plan ⟨n, c, q.word, q.ext.getD 0, q.ext.isSome, ctxSecure s1 c, none⟩ s1 ∧
    pl.issue = none ∧ guardJudge s1 n eng pl.ranges = .enter ∧ tget (clu s1 n).engFree 0 eng ≤ s1.clk.eclk

/-- The command runs: it leaves the phase's list, its engine is taken for its occupancy, the port-A delay and the wake of a bank
in RET, no memory has changed until its own effect, which is the plan's; when that halts nothing, only the samples of R488 follow it. -/
def EngineRuns (n eng stall c : Nat) (p : Phase) (pl : EngPlan) (s s1 : State)
    (o : Host.Outcome State Fault Refusal) : Prop :=
  ∃ u t, o = .next t ∧ SameMemory s u ∧ u.clk.eclk = s1.clk.eclk ∧
    tget (clu u n).engFree 0 eng = s1.clk.eclk + (pl.occ + (if touchesRet s1 n pl.ranges then max 64 stall else stall)) ∧
    (cctx u n c).phase = some { p with todo := p.todo.tail } ∧ t.mem = (pl.run u).2.mem ∧ t.cmem = (pl.run u).2.cmem ∧
    ((pl.run u).1 = none → t.regs = (pl.run u).2.regs ∧ t.clusters = (pl.run u).2.clusters ∧ t.statq = (pl.run u).2.statq)

/-- Context c's exchange has rolled back with a cause, this device its origin (R346, R347). -/
def RolledBack (c cause : Nat) (s t : State) : Prop :=
  xState t c = xRollback ∧ rf t (xsReg c Reg.XSEQ_CTX_ORIGIN) 7 0 = cause % 256 ∧
  rf t (xsReg c Reg.XSEQ_CTX_ORIGIN) 23 12 = devId s ∧ ctxEpoch t c = ctxEpoch s c ∧ xEpoch t c = xEpoch s c

/-- Context c's exchange has flipped to its working epoch (R353). -/
def Flipped (c : Nat) (s t : State) : Prop :=
  ctxEpoch t c = xEpoch s c ∧ xEpoch t c = (xEpoch s c + 1) % 2 ^ 32 ∧
  rf t ((pgXseq 0).base + Hdr.IRQ_STATUS) (24 + c) (24 + c) = 1

/-- Port e sends `os`, or holds them back while it is paused (R362). -/
def SentOrHeld (e : Nat) (os : List Sent) (s t : State) : Prop :=
  (portPaused s e = false → t.sent = s.sent ++ os ∧ t.heldTx = s.heldTx) ∧
  (portPaused s e = true → t.sent = s.sent ∧ t.heldTx = s.heldTx ++ os.map (fun o => (e, o)))

/-- `o` is among what port e has sent, or holds back while it is paused (R362). -/
def AmongSent (e : Nat) (o : Sent) (s t : State) : Prop :=
  (portPaused s e = false → o ∈ t.sent) ∧ (portPaused s e = true → (e, o) ∈ t.heldTx)

/-- The state after the CNP that a packet marked Congestion Experienced is answered with (R367). -/
def afterEcn (q : Nat) (ecn : Bool) (s : State) : State := if ecn then answerEcn q s else s

/-- A slot whose FUNC field is `func` (R169). -/
def funcIs (func : Nat) (w : Slot) : Bool := fld w 123 120 == func

/-- A link control unit passes its checks (R307, R310). -/
def ctrlOk (s : State) (p : Nat) (u : Sys2Proof.CtrlUnit) : Prop := u.crcOk = true ∧ (encrypted s p = true → u.gcmOk = true)

/-- What LANE_FAILED reports makes the lane fail: CDR lock is lost, or the codewords of the window reach COUNT (R305). -/
def laneFailsBy (s : State) (p lane n : Nat) (cdr : Bool) : Bool :=
  let k := healthWindow s (rf s (atpReg p Reg.ATP_LANE_THRESH) 31 16)
  let w := tget (port s p).laneWin (k, 0) lane
  cdr || (n != 0 && decide (rf s (atpReg p Reg.ATP_LANE_THRESH) 15 0 ≤ (if w.1 = k then w.2 else 0) + n))

/-- The failure of a lane, where the receiver's lane register holds w, starts a swap: the lane was in use, and it is not the spare,
and a spare or a fourth lane is left (R305, R306). -/
def swapStarts (w lane : Nat) : Prop :=
  nbit (nfld w 19 15) lane = false ∧ nfld w 14 12 ≠ lane ∧ ¬ (nfld w 14 12 = 7 ∧ laneWidth w < 4)

/-- Every chunk of a line arrived right, with nothing corrected on the way (R254). -/
def cleanObs (o : Sys2Proof.LineObs) : Prop := o.errors = [] ∧ o.linkBad = [] ∧ o.linkCe = []

/-- A channel group that still reads its lines: no member but the erased one has failed (R255). -/
def groupReads (s : State) (g : Nat) : Prop :=
  erased s g = 15 ∨ ∀ m, m < 9 → m ≠ erased s g → memberFailed s g m = false

end Sys2Proof.Machine
end

