-- ==== Sys2Proof/WellFormed.lean ====
section
/-! DEFINITION. Which commands a sender can form: operands that the registers, buses and messages of the spec cannot
carry are ill-formed. The meanings do not rely on it: every command has a next state, well-formed or not. -/

namespace Sys2Proof

/-- A packet that the wire can carry: at most 512 bytes of payload (R312). -/
def Packet.wellFormed (p : Packet) : Bool := decide (p.payload.length ≤ 512)

/-- A request that a local requester can form: 1 to 512 bytes (R313). -/
def ReqKind.wellFormed : ReqKind → Bool
  | .rd _ _ => true
  | .wr _ data => decide (0 < data.length) && decide (data.length ≤ 512)
  | .ping => true

/-- A command that its sender can form: a write's value within its size (R43), page addresses (R38), accesses within one
line of 256 bytes (R250), chunk offsets (R283), message bodies within 8,176 bytes (R369), bytes below 256, and
measurements that a period can show (R442). -/
def Instr.wellFormed : Instr → Bool
  | .registerWrite _ _ size value => decide (value.toNat < 256 ^ size)
  | .enable _ page _ => decide (page.toNat % 4096 = 0)
  | .softReset _ page _ => decide (page.toNat % 4096 = 0)
  | .stopComplete page => decide (page.toNat % 4096 = 0)
  | .startComplete page => decide (page.toNat % 4096 = 0)
  | .errCodeClear _ page => decide (page.toNat % 4096 = 0)
  | .lock _ page => decide (page.toNat % 4096 = 0)
  | .pstateReq _ page _ => decide (page.toNat % 4096 = 0)
  | .drainComplete _ faults => decide (faults.length ≤ 1024)
  | .memoryRead _ _ pa _ => decide (pa.toNat % 256 = 0)
  | .memoryWrite _ _ pa bytes _ => decide (0 < bytes.length) && decide (pa.toNat % 256 + bytes.length ≤ 256)
  | .chunkComplete _ off => decide (off % 4096 = 0)
  | .packetReceive _ _ pkt => pkt.wellFormed
  | .rdmaWrite _ _ _ _ _ _ bytes => decide (bytes.length < 2 ^ 32)
  | .jobLoad _ _ body => decide (body.length ≤ 8176)
  | .doorbell _ _ body => decide (body.length ≤ 8176)
  | .bind _ _ body => decide (body.length ≤ 8176)
  | .regAccess _ _ body => decide (body.length ≤ 8176)
  | .memWrite _ _ body => decide (body.length ≤ 8176)
  | .memRead _ _ body => decide (body.length ≤ 8176)
  | .nop _ _ body => decide (body.length ≤ 8176)
  | .getVersion _ msg => msg.all (fun b => decide (b < 256))
  | .getCapabilities _ msg => msg.all (fun b => decide (b < 256))
  | .negotiateAlgorithms _ msg => msg.all (fun b => decide (b < 256))
  | .getDigests _ msg => msg.all (fun b => decide (b < 256))
  | .getCertificate _ msg => msg.all (fun b => decide (b < 256))
  | .challenge _ msg => msg.all (fun b => decide (b < 256))
  | .getMeasurements _ msg => msg.all (fun b => decide (b < 256))
  | .keyExchange _ msg => msg.all (fun b => decide (b < 256))
  | .finish _ msg => msg.all (fun b => decide (b < 256))
  | .endSession _ msg => msg.all (fun b => decide (b < 256))
  | .secureJob _ body => decide (body.length ≤ 8176)
  | .grantPeriod x => decide (x.engBusy ≤ x.engCycles) && decide (x.fabricMin ≤ x.fabric) && decide (x.hostMin ≤ x.hostReq)
  | .powerUpStepDone r => decide (r.setA.length ≤ 4) && decide (r.setB.length ≤ 4)
  | .cntClear _ page => decide (page.toNat % 4096 = 0)
  | .reqSend _ _ _ _ _ k => k.wellFormed
  | .lowHalfRead _ _ => true
  | .signalArrival _ => true
  | .start _ _ => true
  | .resume _ _ => true
  | .abort _ _ => true
  | .abortDone _ => true
  | .preempt _ _ => true
  | .arrayGrant => true
  | .windowLoad => true
  | .carrySlot => true
  | .windowStart => true
  | .tokenTimeout => true
  | .win => true
  | .frame => true
  | .mma _ => true
  | .drain => true
  | .swap => true
  | .sig => true
  | .quiet => true
  | .save => true
  | .restore _ => true
  | .audit => true
  | .vsel => true
  | .loop => true
  | .jmp => true
  | .endProg => true
  | .contextDone _ => true
  | .windowEnd => true
  | .signalDelivery => true
  | .replay => true
  | .contextSwitch => true
  | .streamStart _ _ => true
  | .streamFetch _ => true
  | .wait _ => true
  | .phaseStart _ => true
  | .cseqWaitTimeout _ => true
  | .signal _ => true
  | .varj _ => true
  | .cseqLoop _ => true
  | .cseqJmp _ => true
  | .cseqEnd _ => true
  | .cseqReplay _ => true
  | .cseqSwitch _ => true
  | .vecParam _ _ => true
  | .ew _ _ => true
  | .vecCvt _ _ => true
  | .wideAdd _ _ => true
  | .dotExact _ _ => true
  | .accDrain _ _ => true
  | .accLoad _ _ => true
  | .kload _ _ => true
  | .krun _ _ => true
  | .transpose _ _ => true
  | .xposeCopy _ _ => true
  | .sum _ _ => true
  | .max _ _ => true
  | .min _ _ => true
  | .argmax _ _ => true
  | .argmin _ _ => true
  | .sumexp _ _ => true
  | .convParam _ _ => true
  | .convCvt _ _ => true
  | .wenc _ _ => true
  | .wdec _ _ => true
  | .statPost _ _ => true
  | .exp _ _ => true
  | .exp2 _ _ => true
  | .log _ _ => true
  | .log2 _ _ => true
  | .tanh _ _ => true
  | .sigmoid _ _ => true
  | .gelu _ _ => true
  | .sin _ _ => true
  | .cos _ _ => true
  | .rcp _ _ => true
  | .sqrt _ _ => true
  | .rsqrt _ _ => true
  | .gatherC _ _ => true
  | .gatherM _ _ => true
  | .scatterC _ _ => true
  | .scatterAddC _ _ => true
  | .scatterAddM _ _ => true
  | .gathMDone _ _ => true
  | .bankPwrReq _ _ _ => true
  | .retIdleExpiry _ _ => true
  | .bankZeroDone _ _ => true
  | .bankWorld _ _ _ => true
  | .eccWriteback _ _ => true
  | .statsAbsorb _ => true
  | .skeepEntryWrite _ _ _ _ => true
  | .skeepSave _ _ => true
  | .skeepLoad _ _ => true
  | .warm _ _ _ => true
  | .invalidate _ _ => true
  | .clearWorking _ _ _ => true
  | .skeepCmdDone _ => true
  | .channelTimeout _ _ => true
  | .calibrationFailure _ _ => true
  | .cgmFail _ _ _ => true
  | .go _ _ _ => true
  | .evacLineCopy _ => true
  | .scrubRead _ _ => true
  | .refresh _ _ _ => true
  | .mr4Poll _ _ => true
  | .pageWalk _ _ _ _ => true
  | .invalAll _ => true
  | .invalContext _ _ => true
  | .invalRange _ _ => true
  | .invalDone => true
  | .rptRegionWrite _ _ _ => true
  | .moverStart _ _ => true
  | .moverResume _ _ => true
  | .moverAbort _ _ => true
  | .copy _ => true
  | .descVarj _ => true
  | .jump _ => true
  | .descEnd _ => true
  | .chunkIssue _ => true
  | .streamSuspend _ => true
  | .streamPreempted _ => true
  | .streamIdle _ => true
  | .moverWaitTimeout _ => true
  | .moverReassign _ _ => true
  | .laneFailed _ _ => true
  | .laneSwap _ _ => true
  | .swapAt _ _ => true
  | .laneSwitch _ => true
  | .ack _ _ => true
  | .nak _ _ => true
  | .credit _ _ _ => true
  | .keySwitch _ _ => true
  | .controlResend _ => true
  | .packetTransmit _ => true
  | .retryTimeout _ => true
  | .retrainEnd _ _ => true
  | .lossOfSignal _ => true
  | .trainingRetry _ => true
  | .portUp _ _ _ _ => true
  | .throttleUpdate _ => true
  | .residenceExpiry _ _ => true
  | .tagTimeout _ => true
  | .quarantineExpiry _ => true
  | .routeWrite _ _ _ => true
  | .fenceWrite _ _ _ _ => true
  | .switch _ _ => true
  | .keyStandbyWrite _ _ _ => true
  | .rd _ => true
  | .wr _ => true
  | .ping _ => true
  | .rdData _ => true
  | .wrAck _ => true
  | .pong _ => true
  | .nack _ => true
  | .xseqStart _ _ => true
  | .xseqRollback _ _ => true
  | .xseqCommit _ _ => true
  | .setEpoch _ _ _ => true
  | .send _ _ => true
  | .recv _ _ => true
  | .sendConfirm _ _ => true
  | .locallyDone _ => true
  | .data _ => true
  | .colEnd _ => true
  | .confirm _ => true
  | .revoke _ => true
  | .stats _ => true
  | .ready _ => true
  | .commit _ => true
  | .query _ => true
  | .answer _ => true
  | .colCredit _ => true
  | .ringTimeout _ => true
  | .queryInterval _ => true
  | .quietExpiry _ => true
  | .xseqWaitTimeout _ _ => true
  | .haltShareN => true
  | .arpRequest _ _ _ => true
  | .neighbourSolicitation _ _ _ => true
  | .echoRequest _ _ _ _ _ => true
  | .cmReq _ _ => true
  | .cmRtu _ => true
  | .cmDreq _ => true
  | .rdmaRead _ _ _ _ _ => true
  | .cnp _ => true
  | .ccPeriod _ => true
  | .ackTimeout _ => true
  | .rnrNak _ _ => true
  | .transportAck _ => true
  | .qpReset _ _ => true
  | .qpError _ _ => true
  | .portHoldExpiry _ => true
  | .linkReturn _ _ => true
  | .patrolRound _ _ => true
  | .patrolLate _ => true
  | .lanePatrol _ _ _ => true
  | .bankRotation _ => true
  | .suspectRerun _ _ _ => true
  | .lineRepair _ _ _ => true
  | .scanCluster _ _ _ => true
  | .patrolCore _ _ _ => true
  | .retireRowBand _ _ => true
  | .retireColBand _ _ => true
  | .rotateBank _ _ => true
  | .bankCopy _ _ _ => true
  | .healthDatagram => true
  | .tamper _ => true
  | .wipeDone => true
  | .lcProvisioned _ _ => true
  | .lcField _ => true
  | .lcReturn _ _ _ _ _ => true
  | .lcScrapped _ => true
  | .mailboxPoll => true
  | .lmsSign _ => true
  | .lmsCert _ => true
  | .linkKey _ _ _ => true
  | .firmwareUpdate _ => true
  | .mgcWdog _ _ => true
  | .watchdogRestart _ => true
  | .budgetSet _ => true
  | .slewStep => true
  | .rowUngate => true
  | .throttleN => true
  | .throttleRelease => true
  | .thermtrip _ _ => true
  | .refCheck _ _ => true
  | .refLost _ _ => true
  | .pllFailed _ _ _ => true
  | .vstbyOn => true
  | .vstbyLoss => true
  | .pwrEnRise => true
  | .pwrEnFall => true
  | .vmainFault => true
  | .resetN => true
  | .eventRecord _ => true
  | .mirror _ => true
  | .opMsPersist => true
  | .evrClear _ _ => true
  | .eraseDone => true
  | .rec0Read _ => true
  | .sample0Read _ => true
  | .snapshot => true
  | .snap _ => true
  | .ethernetLinkDown _ => true
  | .priorityFlowControl _ _ _ => true
  | .otherFrame _ => true
  | .unsupportedPacket _ _ _ => true
  | .cmemPatrolRead _ => true
  | .haltShareNRelease => true

end Sys2Proof
end

