-- ==== Sys2Proof/Certificates/Slice0/Obligations.lean ====
section
/-! DEFINITION. The statements about the model that the provers are asked to prove, one per definition. -/

open Sys2Proof Sys2Proof.Machine

/-! ### The queue and the whole machine -/

/-- A step of a state with a command at the front of its queue is that command's effect with the queue's rest. -/
def Obligations.Step_Executes_Front : Prop :=
  ∀ (c : Instr) (rest : List Instr) (s : State), s.pending = c :: rest → step s = exec c { s with pending := rest }

/-- With nothing waiting, a step is the model's own idle step of 80 ns (DESIGN CHOICE, log entry 2): the standby clock
advances by 64 SCLK while VSTBY is present, and no memory, queue, context, cluster or fuse changes. -/
def Obligations.Idle_Step : Prop :=
  ∀ s : State, s.pending = [] →
    ∃ t, step s = .next t ∧ SameMemory s t ∧ t.pending = [] ∧ t.acon = s.acon ∧ t.clusters = s.clusters ∧
      t.array = s.array ∧ t.fuses = s.fuses ∧ t.sent = s.sent ∧
      t.clk.sclk = s.clk.sclk + (if s.pins.vstby then 64 else 0)

/-- Reset meets the invariants: its memories are canonical, its fuses legal and its queue empty. It rests on the model's
choices in log entries 8 and 9. -/
def Obligations.Reset_Meets_Invariants : Prop :=
  State.reset.memoriesWf ∧ State.reset.fuses.ok ∧ State.reset.pending = []

/-- Every step, from any state, keeps the memories' canonical form. -/
def Obligations.Memories_Stay_Canonical : Prop :=
  ∀ s t : State, s.memoriesWf → step s = .next t → t.memoriesWf

/-- Every step, from any state with legal fuses, leaves legal fuses and only ever blows them: the life cycle, the
anti-rollback counters and the LMS tree never go back, and the grade never changes (R1, R424, R429, R435). -/
def Obligations.Fuses_Only_Blow : Prop :=
  ∀ s t : State, s.fuses.ok → step s = .next t → t.fuses.ok ∧ s.fuses.onlyBlown t.fuses

/-! ### Register pages -/

/-- ERR_CODE_CLEAR sets REASON, COUNT, ERR_INFO0 and ERR_INFO1 to 0 and changes nothing else; LOCK sets the LOCK bit and
changes nothing else (R48, R49, R51). A write of a plain RW word stores it and changes nothing else (R9): the word of a
token counter pair of ACON (R154), by each register master that is let in. A 32-bit read of the low half of a 64-bit
register answers it and latches the high half for that master: the program address of an ACON context (R44, R154). Nothing
else changes. It rests on the model's choices in log entry 80. -/
def Obligations.Registers_Write_Read_And_Clear : Prop :=
  (∀ (m : Master) (page : BitVec 48) (p : Page) (s : State), pageBase page = p.base →
    (LetIn m p Hdr.ERR_CODE s → exec (.errCodeClear m page) s =
      .next (regSet (p.base + Hdr.ERR_INFO1) 0 (regSet (p.base + Hdr.ERR_INFO0) 0 (regSet (p.base + Hdr.ERR_CODE) 0 s)))) ∧
    (LetIn m p Hdr.LOCK s → exec (.lock m page) s = .next (rfSet (p.base + Hdr.LOCK) 0 0 1 s))) ∧
  (∀ (m : Master) (c : Fin 8) (g : Fin 16) (v : BitVec 64) (pa : BitVec 48) (s : State),
    pa.toNat = acReg c Reg.ACON_CTX_TOKEN + 4 * g.val → LetIn m pgAcon (pa.toNat - pgAcon.base) s →
    ∃ t, exec (.registerWrite m pa 4 v) s = .next t ∧ (regGet t pa.toNat).toNat = v.toNat % 2 ^ 32 ∧
      RegsBut [pa.toNat] s t ∧ SameMemory s t ∧ t.acon = s.acon ∧ t.clusters = s.clusters ∧ t.sent = s.sent) ∧
  (∀ (m : Master) (c : Fin 8) (pa : BitVec 48) (s : State), pa.toNat = acReg c Reg.ACON_CTX_PROG_VA →
    LetIn m pgAcon (pa.toNat - pgAcon.base) s →
    ∃ t, exec (.lowHalfRead m pa) s = .next t ∧ t.sent = s.sent ++ [.regValue m pa.toNat 4 (regGet s pa.toNat).toNat] ∧
      (view t m).shadow = some (pa.toNat, regGet s (pa.toNat + 4)) ∧ t.regs = s.regs ∧ SameMemory s t)

/-- A write to an RWL field while LOCK is set is discarded without an error or an event (R12): the field keeps its value,
and a write to a word that holds only RWL fields changes no register, records no event and answers nothing. -/
def Obligations.Locked_Fields_Keep_Their_Value : Prop :=
  ∀ (m : Master) (p : Page) (off : Nat) (v : BitVec 64) (pa : BitVec 48) (s : State), pa.toNat = p.base + off →
    LetIn m p off s → locked s p = true → fieldsAt p.type off ≠ [] →
    ∃ t, exec (.registerWrite m pa 4 v) s = .next t ∧
      (∀ r ∈ fieldsAt p.type off, r.acc = .rwl → rf t (p.base + off) r.hi r.lo = rf s (p.base + off) r.hi r.lo) ∧
      ((∀ r ∈ fieldsAt p.type off, r.acc = .rwl) →
        (∀ a, regGet t a = regGet s a) ∧ t.evq = s.evq ∧ t.sent = s.sent ∧ SameMemory s t)

/-- ENABLE and SOFT_RESET move STATE as the table of R52 says, for every state and for SOFT_RESET with and without ENABLE:
OFF to STARTING, STARTING and ON to STOPPING, a restart set or cleared while STOPPING. A retired page, and a locked page
whose request is GATED, ignore a start (R41, R48). A page that is STARTING and becomes ready goes to ON, and what waited for
XLAT goes on when XLAT does (R274); one that is STOPPING and whose work has ended goes to OFF, or with a restart pending
straight to STARTING, and a SOFT_RESET that was due is done; while its work is in flight it stays (R52). PSTATE_REQ of an
unlocked page takes the value written, unless that is 3; a page at OFF enters the requested state at once and its CYCLE
stops in RETAIN and GATED (R48, R49). No memory changes unless a power state is left. It rests on the model's choices in log
entries 15, 17, 66, 86 and 88. -/
def Obligations.Page_States : Prop :=
  (∀ (m : Master) (page : BitVec 48) (p : Page) (s : State), pageBase page = p.base → LetIn m p Hdr.CTRL s →
    (retired s p = false → (locked s p = false ∨ pstateWanted s p ≠ 2) →
      (pageState s p = 0 →
        (∃ t, exec (.enable m page true) s = .next t ∧ pageState t p = 1 ∧ rf t (p.base + Hdr.CTRL) 0 0 = 1 ∧
          pstate t p = 0 ∧ (pstate s p ≠ 2 → SameMemory s t)) ∧
        (∃ t, exec (.softReset m page true) s = .next t ∧ pageState t p = 1 ∧ rf t (p.base + Hdr.CTRL) 0 0 = 1 ∧
          pstate t p = 0)) ∧
      (pageState s p = 1 ∨ pageState s p = 2 →
        ∃ t, exec (.enable m page true) s = .next t ∧ pageState t p = pageState s p ∧ SameMemory s t) ∧
      (pageState s p = 3 →
        ∃ t, exec (.enable m page true) s = .next t ∧ pageState t p = 3 ∧ restartPending t p = true ∧ SameMemory s t) ∧
      (pageState s p ≠ 0 →
        ∃ t, exec (.softReset m page true) s = .next t ∧ pageState t p = 3 ∧ restartPending t p = true ∧
          t.softDue.contains p.base = true ∧ SameMemory s t)) ∧
    (retired s p = true ∨ (locked s p = true ∧ pstateWanted s p = 2) → exec (.enable m page true) s = .next s) ∧
    (pageState s p = 1 ∨ pageState s p = 2 →
      (∃ t, exec (.enable m page false) s = .next t ∧ pageState t p = 3 ∧ rf t (p.base + Hdr.CTRL) 0 0 = 0 ∧ SameMemory s t) ∧
      (∃ t, exec (.softReset m page false) s = .next t ∧ pageState t p = 3 ∧ t.softDue.contains p.base = true ∧
        SameMemory s t)) ∧
    (pageState s p = 3 →
      (∃ t, exec (.enable m page false) s = .next t ∧ pageState t p = 3 ∧ restartPending t p = false ∧ SameMemory s t) ∧
      (∃ t, exec (.softReset m page false) s = .next t ∧ pageState t p = 3 ∧ restartPending t p = false ∧
        t.softDue.contains p.base = true ∧ SameMemory s t)) ∧
    (pageState s p = 0 →
      (∃ t, exec (.enable m page false) s = .next t ∧ pageState t p = 0 ∧ rf t (p.base + Hdr.CTRL) 0 0 = 0 ∧ SameMemory s t) ∧
      (∃ t, exec (.softReset m page false) s = .next t ∧ pageState t p = 0 ∧ rf t (p.base + Hdr.CTRL) 0 0 = 0))) ∧
  (∀ (page : BitVec 48) (p : Page) (s : State), pageAt page.toNat = some p → pageLive s p = true →
    (pageState s p = 1 →
      (p.type = 0x0501 → s.hostWait = [] ∧ ∀ c, (actx s c).due = false ∧ (xc s c).due = none) →
      ∃ t, exec (.startComplete page) s = .next t ∧ pageState t p = 2 ∧ rf t (p.base + Hdr.IRQ_STATUS) 1 1 = 1 ∧
        SameMemory s t) ∧
    (pageState s p = 1 → p.type = 0x0501 →
      exec (.startComplete page) s = .next (hostDue (xseqDue (aconDue (startCompleteState p s))))) ∧
    (pageState s p ≠ 1 → exec (.startComplete page) s = .next s) ∧
    (pageState s p ≠ 3 → exec (.stopComplete page) s = .next s) ∧
    (pageState s p = 3 → stopWaits s p = false →
      (restartPending s p = false →
        ∃ t, exec (.stopComplete page) s = .next t ∧ pageState t p = 0 ∧ t.softDue.contains p.base = false) ∧
      (restartPending s p = true →
        ∃ t, exec (.stopComplete page) s = .next t ∧ pageState t p = 1 ∧ restartPending t p = false ∧
          t.softDue.contains p.base = false)) ∧
    (pageState s p = 3 → stopWaits s p = true → exec (.stopComplete page) s = .next s)) ∧
  (∀ (m : Master) (page : BitVec 48) (p : Page) (req : BitVec 2) (s : State), pageBase page = p.base → LetIn m p Hdr.POWER s →
    (locked s p = true ∨ req = 3 → exec (.pstateReq m page req) s = .next s) ∧
    (locked s p = false → req ≠ 3 →
      (pageState s p ≠ 0 → exec (.pstateReq m page req) s = .next (rfSet (p.base + Hdr.POWER) 1 0 req.toNat s)) ∧
      (pageState s p = 0 →
        (∃ t, exec (.pstateReq m page req) s = .next t ∧ pstate t p = req.toNat ∧ pstateWanted t p = req.toNat ∧
          (pstate s p ≠ 2 → SameMemory s t)) ∧
        (pstate s p = 0 → tget? s.cycStop p.base = none → req ≠ 0 →
          ∃ t, exec (.pstateReq m page req) s = .next t ∧ pstate t p = req.toNat ∧ pageCycle t p = pageCycle s p ∧
            (tget? t.cycStop p.base).isSome = true ∧ SameMemory s t))))

/-- A signal on its way arrives once it is sent: the oldest one of its producer to its counter is taken off its way and adds
to that counter, which saturates at 65,535, whichever of them was named (R25, R26, R27, R28, R29): a token counter of a
CSEQ, of a Mover stream that does not wait, of XSEQ, or a gate counter of ACON. Before it is sent nothing happens. A block
that is OFF does not count (log entry 48). -/
def Obligations.Signal_Arrival_Counts : Prop :=
  ∀ (k j : Nat) (x y : Signal) (s : State), s.flying[k]? = some x → s.flying.findIdx (fun z => z.sameWay x) = j →
    s.flying[j]? = some y → y.ctx < 8 →
    (y.isSent s = false → exec (.signalArrival k) s = .next s) ∧
    (y.isSent s = true →
      (pageState s y.page = 0 → exec (.signalArrival k) s = .next { s with flying := s.flying.eraseIdx j }) ∧
      (y.cls = 3 → y.counter < 32 → pageState s pgAcon ≠ 0 →
        ∃ t, exec (.signalArrival k) s = .next t ∧ t.flying = s.flying.eraseIdx j ∧
          gateCtr t y.ctx y.counter = min 65535 (gateCtr s y.ctx y.counter + y.incr) ∧ SameMemory s t) ∧
      (y.cls = 0 → y.counter < 32 → pageState s (pgCseq y.target) ≠ 0 →
        ∃ t, exec (.signalArrival k) s = .next t ∧ t.flying = s.flying.eraseIdx j ∧
          csToken t y.target y.ctx y.counter = min 65535 (csToken s y.target y.ctx y.counter + y.incr) ∧ SameMemory s t) ∧
      (y.cls = 1 → y.counter < 4 → pageState s (pgMov (moverOf y.target)) ≠ 0 → (strm s y.target).state ≠ .waiting →
        (strm s y.target).tokens.length = 4 →
        ∃ t, exec (.signalArrival k) s = .next t ∧ t.flying = s.flying.eraseIdx j ∧
          lget (strm t y.target).tokens y.counter 0 = min 65535 (lget (strm s y.target).tokens y.counter 0 + y.incr) ∧
          SameMemory s t) ∧
      (y.cls = 2 → y.counter < 32 → pageState s (pgXseq 0) ≠ 0 → xToken s y.ctx y.counter + y.incr ≤ 65535 →
        ∃ t, exec (.signalArrival k) s = .next t ∧ t.flying = s.flying.eraseIdx j ∧
          xToken t y.ctx y.counter = xToken s y.ctx y.counter + y.incr ∧ SameMemory s t))

/-! ### ACON: contexts -/

/-- START of an IDLE context whose header passes the checks of R123 makes it READY at the header's ENTRY and sends its start
notice; while XLAT is not ON the START waits (R274), and one of a context that is not IDLE is recorded and does nothing.
PREEMPT moves a READY context to PREEMPTED and marks a RUNNING one (R124). RESUME makes a PREEMPTED context READY, and a
HALTED one whatever halted it: a halted window is kept for its replay, a load begins again at its WIN, a header is checked
again and a switch's copy made again (R124, R151). ABORT of a context whose waves and readers are idle, and ABORT_DONE once
they are, return the context to IDLE with its held signals and saved state discarded, and it leaves the array; with a reader
still busy ABORT only notes the request (R153). It rests on the model's choices in log entries 17, 21 and 91. -/
def Obligations.Context_Commands : Prop :=
  (∀ (m : Master) (c : Ctx) (s : State), LetIn m pgAcon (Reg.ACON_CTX_CMD + c.val * 0x100) s → isOn s pgAcon = true →
    (∀ h s', acState s c = stIdle → xlatOn s = true → checkHeader c s = (.ok h, s') →
      ∃ t, exec (.start m c) s = .next t ∧ acState t c = stReady ∧ (actx t c).pc = h.entry ∧
        (actx t c).instrCount = h.count ∧ (actx t c).notice = true ∧ Unwritten s t) ∧
    (acState s c = stIdle → xlatOn s = false →
      exec (.start m c) s = .next (actxMod c (fun a => { a with due := true }) s)) ∧
    (acState s c ≠ stIdle → exec (.start m c) s = .next (recordError pgAcon 0x28 0 0 s)) ∧
    (acState s c = stReady → (actx s c).abortReq = false →
      ∃ t, exec (.preempt m c) s = .next t ∧ acState t c = stPreempted ∧ SameMemory s t) ∧
    (acState s c = stRunning → (actx s c).abortReq = false →
      exec (.preempt m c) s = .next (actxMod c (fun a => { a with preemptReq := true }) s))) ∧
  (∀ (m : Master) (c : Ctx) (s : State), LetIn m pgAcon (Reg.ACON_CTX_CMD + c.val * 0x100) s → isOn s pgAcon = true →
    (actx s c).abortReq = false →
    (acState s c = stPreempted ∨
      (acState s c = stHalted ∧ (actx s c).haltKind ≠ .header ∧ (actx s c).haltKind ≠ .switchCopy) →
      ∃ t, exec (.resume m c) s = .next t ∧ acState t c = stReady ∧ SameMemory s t ∧
        ((acState s c = stHalted → (actx s c).haltKind ≠ .load) → (actx t c).pc = (actx s c).pc ∧ (actx t c).win = (actx s c).win)) ∧
    (∀ w, acState s c = stHalted → (actx s c).haltKind = .load → (actx s c).win = some w →
      ∃ t, exec (.resume m c) s = .next t ∧ acState t c = stReady ∧ (actx t c).win = none ∧ (actx t c).pc = w.winIndex ∧
        SameMemory s t) ∧
    (∀ h s', acState s c = stHalted → (actx s c).haltKind = .header → xlatOn s = true → checkHeader c s = (.ok h, s') →
      ∃ t, exec (.resume m c) s = .next t ∧ acState t c = stReady ∧ (actx t c).pc = h.entry ∧ Unwritten s t) ∧
    (∀ s1 s2, acState s c = stHalted → (actx s c).haltKind = .switchCopy → xlatOn s = true →
      virtWrite (viaCtx s c) (saveVa s c) (stateRecord s c) s = (.ok (), s1) →
      copyOut (viaCtx s c) (ctxSecure s1 c) (savedImages s1 c (actx s c).savedBanks) (saveVa s c + 0x100) s1 = (none, s2) →
      ∃ t, exec (.resume m c) s = .next t ∧ rf t (statusReg c) 8 8 = 1 ∧
        (acState t c = if (actx s c).preemptReq then stPreempted else stReady) ∧ t.mem = s2.mem ∧ t.cmem = s2.cmem)) ∧
  (∀ (m : Master) (c : Ctx) (s : State),
    (LetIn m pgAcon (Reg.ACON_CTX_CMD + c.val * 0x100) s → isOn s pgAcon = true → acState s c ≠ stIdle →
      (ctxBusy s c = false → ∃ t, exec (.abort m c) s = .next t ∧ acState t c = stIdle ∧ (actx t c).win = none ∧
        (actx t c).ended = [] ∧ running t ≠ some c.val ∧ SameMemory s t) ∧
      (ctxBusy s c = true → ∃ t, exec (.abort m c) s = .next t ∧ (actx t c).abortReq = true ∧ (actx t c).win = none ∧
        SameMemory s t)) ∧
    ((actx s c).abortReq = true → ctxBusy s c = false →
      ∃ t, exec (.abortDone c) s = .next t ∧ acState t c = stIdle ∧ (actx t c).abortReq = false ∧ running t ≠ some c.val ∧
        SameMemory s t))

/-- The free array goes to the READY context of highest priority, which runs (R125); where it was switched out, once the
images of its banks are copied back and its geometry still fits (R147), and a window that its RESUME replays is presented
again (R151). CONTEXT_DONE returns a context that has ended to IDLE, sets its CTX_DONE bit and frees the array (R124).
CONTEXT_SWITCH at a boundary saves the banks that its WIN carries into the replay areas, writes the state record and the
images to SAVE_VA, and makes the context PREEMPTED when a PREEMPT waits and READY otherwise, with SAVED set and the array
free; a context that has run no window since it was resumed has its images there already (R125, R146). -/
def Obligations.Array_Is_Granted_And_Switched : Prop :=
  ((∀ (c : Nat) (s : State), isOn s pgAcon = true → running s = none → bestReady s = some c →
    (rf s (statusReg c) 8 8 = 0 → (actx s c).haltKind = .none → (actx s c).agentHalt = false →
      ∃ t, exec .arrayGrant s = .next t ∧ running t = some c ∧ acState t c = stRunning ∧ t.acon = s.acon ∧ SameMemory s t) ∧
    (rf s (statusReg c) 8 8 = 0 → (actx s c).haltKind = .window → ∀ w, (actx s c).win = some w →
      ∃ t v, exec .arrayGrant s = .next t ∧ running t = some c ∧ acState t c = stRunning ∧ (actx t c).win = some v ∧
        v.phase = .loaded ∧ v.instrs = w.all ∧ v.restores = true ∧ SameMemory s t) ∧
    (rf s (statusReg c) 8 8 = 1 → xlatOn s = true → ∀ s1 s2 s3,
      s1 = acStateSet c stRunning (regSet activeReg (BitVec.ofNat 32 (0x80 + c)) s) → geometryAgain c s1 = (none, s2) →
      copyIn (viaCtx s2 c) (ctxSecure s2 c) (savedImages s2 c (actx s c).savedBanks) (saveVa s2 c + 0x100) s2 = (none, s3) →
      ∃ t, exec .arrayGrant s = .next t ∧ running t = some c ∧ acState t c = stRunning ∧ rf t (statusReg c) 8 8 = 0 ∧
        (actx t c).resumed = true ∧ t.mem = s3.mem ∧ t.cmem = s3.cmem)) ∧
  (∀ (c : Ctx) (s : State), (actx s c).ending = true → (actx s c).ended = [] → ctxBusy s c = false →
    acState s c = stRunning →
    ∃ t, exec (.contextDone c) s = .next t ∧ acState t c = stIdle ∧ running t ≠ some c.val ∧
      rf t (pgAcon.base + Hdr.IRQ_STATUS) (24 + c.val) (24 + c.val) = 1 ∧ SameMemory s t)) ∧
  (∀ (c : Nat) (s s1 s2 s3 : State), c < 8 → running s = some c → switchWaits s c = true → atBoundary s c = true →
    (actx s c).agentHalt = false → (actx s c).ending = false → ctxBusy s c = false → acState s c = stRunning →
    xlatOn s = true →
    ((actx s c).resumed = true → s1 = s) →
    ((actx s c).resumed = false →
      (bitsOf 2 (boundaryBanks s c).toNat).foldl (fun r p => saveNow c p r)
        (none, actxMod c (fun a => { a with savedBanks := boundaryBanks s c }) s) = (none, s1)) →
    virtWrite (viaCtx s1 c) (saveVa s1 c) (stateRecord s1 c) s1 = (.ok (), s2) →
    copyOut (viaCtx s1 c) (ctxSecure s2 c) (savedImages s2 c (actx s1 c).savedBanks) (saveVa s1 c + 0x100) s2 = (none, s3) →
    ∃ t, exec .contextSwitch s = .next t ∧ rf t (statusReg c) 8 8 = 1 ∧ running t = none ∧
      acState t c = (if (actx s1 c).preemptReq then stPreempted else stReady) ∧ t.mem = s3.mem ∧ t.cmem = s3.cmem)

/-! ### ACON: windows -/

/-- A window comes in: WIN opens it with its length, gate and carry; WINDOW_LOAD fills it with the instructions that pass
the checks; the window then waits loaded (R128, R129). A slot of the carry prologue on a first run starts the implicit SAVE
of the next carried bank, on a replay or after a resume restores it from the replay areas, and moves the prologue on; once
every gate counter holds enough the window starts: the counters lose GATE_COUNT and cycle 0 is now (R129, R133). It rests on
the model's choices in log entries 18 and 95. -/
def Obligations.Window_Comes_In : Prop :=
  ((∀ (c : Nat) (w : Slot) (s s' : State), atControl s = some c → controlAt c s = (.ok w, s') → opOf w = 0x01 →
    boundaryWaits s c = false → (actx s' c).overrun = none → winCheck c w s' = none →
    ∃ t v, exec .win s = .next t ∧ (actx t c).win = some v ∧ v.phase = .opened ∧ v.len = fld w 119 104 + 1 ∧
      v.gateMask = BitVec.ofNat 32 (fld w 103 72) ∧ v.gateCount = fld w 71 64 ∧ v.carry = BitVec.ofNat 2 (fld w 58 57) ∧
      v.pclass = fld w 63 60 ∧ v.quiet = bit w 59 ∧ v.audited = auditedNow s c ∧ Unwritten s t) ∧
  (∀ (c : Nat) (w : Window) (l : List Timed) (next : Nat) (s s' : State), running s = some c → (actx s c).win = some w →
    w.phase = .opened → xlatOn s = true → acState s c = stRunning →
    loadTimed c w.len 1025 (w.winIndex + 1) 0 [] s = (.ok (l, next), s') → (w.audited && auditTooLong s' c l) = false →
    ∃ t v, exec .windowLoad s = .next t ∧ (actx t c).win = some v ∧ v.phase = .loaded ∧ v.instrs = l ∧ v.next = next ∧
      t.power.pclassNow = w.pclass ∧ Unwritten s t)) ∧
  ((∀ (c k : Nat) (w : Window) (lb : Nat) (rest : List Nat) (s s1 : State), running s = some c → (actx s c).win = some w →
    (w.phase = .loaded ∧ k = 0) ∨ w.phase = .prologue k → (carried w).drop k = lb :: rest →
    (k = 0 → geometryAgain c s = (none, s1)) → (k ≠ 0 → s1 = s) →
    (w.restores = false →
      ∃ t v, exec .carrySlot s = .next t ∧ (actx t c).win = some v ∧
        v.phase = (if rest = [] then .gate else .prologue (k + 1)) ∧ t.array.nextJob = s.array.nextJob + 1 ∧ Unwritten s t) ∧
    (w.restores = true → ∀ p a s2 s3, p = physOf s1 c lb → a = latest [s1.clk.aclk, w.endAclk, restoreTime s1 p] →
      s2 = aclkTo a s1 →
      restoreBank c p (replayOff s2 c p) a (recOf s2 c p) (guardRestore c w.serial (replayOff s2 c p) s2) = .ok s3 →
      ∃ t v, exec .carrySlot s = .next t ∧ (actx t c).win = some v ∧
        v.phase = (if rest = [] then .gate else .prologue (k + 1)) ∧ bankOf t p = bankOf s3 p ∧
        bankOf t (1 - p) = bankOf s (1 - p) ∧ Unwritten s t)) ∧
  (∀ (c : Nat) (w : Window) (s : State), c < 8 → running s = some c → (actx s c).win = some w → atGate w = true →
    shortGates s c w = [] → acState s c = stRunning → 32 ≤ s.power.rowsOn → (geometryAgain c s).1 = none →
    (actx s c).overrun = none →
    ∃ t v, exec .windowStart s = .next t ∧ (actx t c).win = some v ∧ v.phase = .running ∧
      v.cycle0 = max s.clk.aclk w.endAclk ∧ t.clk.aclk = v.cycle0 ∧
      (∀ g, g < 32 → gateCtr t c g = gateCtr s c g - (if w.gateMask.getLsbD g then w.gateCount else 0)) ∧ Unwritten s t))

/-- A wait at a window's gate, or of a VSEL at its gate, that outlasts GATE_TIMEOUT halts the context with TOKEN_TIMEOUT and
the short counter in INFO (R30, R129). A window with nothing left to issue ends: the context continues after it and the
window waits for its drains with its held signals; an audited one first runs its second pass, after its prologue as
restores, with its instructions again (R136). When they have written, the signals go, oldest window first, unless a slip
withheld them (R31, R131, R180). REPLAY presents a halted window again from its start state, with its prologue as restores,
and REPLAYS rises (R151). It rests on the model's choices in log entries 21 and 99. -/
def Obligations.Window_Ends_And_Replays : Prop :=
  ((∀ (c : Nat) (w : Window) (g : Nat) (rest : List Nat) (s : State), c < 8 → running s = some c → (actx s c).win = some w →
    atGate w = true → shortGates s c w = g :: rest → rf s (pgAcon.base + Reg.ACON_CONFIG) 31 16 ≠ 0 →
    ∃ t, exec .tokenTimeout s = .next t ∧ acState t c = stHalted ∧ rf t (acReg c Reg.ACON_CTX_HALT) 7 0 = 0x0B ∧
      (regGet t (acReg c Reg.ACON_CTX_HALT_INFO0)).toNat = g ∧ running t ≠ some c ∧ SameMemory s t) ∧
  (∀ (c t0 : Nat) (w : Slot) (s s' : State), c < 8 → atControl s = some c → (actx s c).vgate = some t0 →
    controlAt c s = (.ok w, s') → opOf w = 0x09 → bit w 63 = true → gateCtr s c (fld w 62 58) = 0 →
    rf s (pgAcon.base + Reg.ACON_CONFIG) 31 16 ≠ 0 →
    ∃ t, exec .tokenTimeout s = .next t ∧ acState t c = stHalted ∧ rf t (acReg c Reg.ACON_CTX_HALT) 7 0 = 0x0B ∧
      (regGet t (acReg c Reg.ACON_CTX_HALT_INFO0)).toNat = fld w 62 58 ∧ running t ≠ some c ∧ Unwritten s t)) ∧
  ((∀ (c : Nat) (w : Window) (s : State), running s = some c → (actx s c).win = some w → w.phase = .running → w.instrs = [] →
    (w.audited && !w.second) = false →
    ∃ t, exec .windowEnd s = .next t ∧ (actx t c).win = none ∧ (actx t c).pc = w.next ∧
      (∃ e, (actx t c).ended = (actx s c).ended ++ [e] ∧ e.serial = w.serial ∧ e.held = w.held) ∧
      t.clk.aclk = max s.clk.aclk (w.cycle0 + w.len) ∧ t.flying = s.flying ∧ SameMemory s t) ∧
  (∀ (c a b : Nat) (w : Window) (s s1 s2 : State), running s = some c → (actx s c).win = some w → w.phase = .running →
    w.instrs = [] → w.audited = true → w.second = false → a = max s.clk.aclk (w.cycle0 + w.len) →
    s1 = actxMod c (fun x => { x with swap := w.startState.swap, rec0 := w.startState.rec0, rec1 := w.startState.rec1 })
      (settle c 65536 (wavesReach (aclkTo a s))) →
    secondPrologue c w a s1 = .ok (b, s2) →
    ∃ t v, exec .windowEnd s = .next t ∧ (actx t c).win = some v ∧ v.second = true ∧ v.instrs = w.all ∧ v.cycle0 = b ∧
      t.flying = s.flying ∧ SameMemory s t) ∧
  (∀ (c : Nat) (e : EndedWin) (s : State),
    (List.range 8).findSome? (fun c => (deliverable s c).map (fun e => (c, e))) = some (c, e) →
    ∃ t, exec .signalDelivery s = .next t ∧ t.flying = s.flying ++ (if e.window.withheld then [] else e.held) ∧
      (actx t c).ended = (actx s c).ended.tail ∧ SameMemory s t)) ∧
  (∀ (c : Nat) (w : Window) (s : State), c < 8 → running s = some c → (actx s c).win = some w → w.phase = .halted →
    acState s c = stRunning → (actx s c).haltKind = .window → (actx s c).abortReq = false →
    s.array.jobs.any (fun j => j.ctx == c && j.window == w.serial) = false →
    ∃ t v, exec .replay s = .next t ∧ (actx t c).win = some v ∧ v.phase = .loaded ∧ v.instrs = w.all ∧ v.restores = true ∧
      v.held = [] ∧ (actx t c).swap = w.startState.swap ∧ (actx t c).rec0 = w.startState.rec0 ∧
      (actx t c).rec1 = w.startState.rec1 ∧ v.replays = w.replays + 1 ∧
      rf t (statusReg c) 7 4 = min 15 (w.replays + 1) ∧ SameMemory s t)

/-! ### ACON: timed instructions -/

/-- FRAME, SWAP, QUIET and SIG issue: each is taken out of the window at its cycle. FRAME and SWAP take effect for what
issues after their cycle (R111): until then bank records and SWAP_STATE stand as the earlier ones left them; then FRAME has
written the record of its bank and marked it reframed where it changes it, and SWAP has inverted SWAP_STATE. SIG is held
until the window's end, in the first pass of an audited window only; QUIET changes nothing more. None touches an accumulator
or a memory (R31, R112, R135, R136). -/
def Obligations.Timed_Without_Data : Prop :=
  (∀ (i : Issue) (s s1 : State), (actx s i.ctx).overrun = none → s1 = issueAdvance i s →
    (∀ (op : Nat) (x : Instr), (op, x) ∈ [(0x02, Instr.frame), (0x05, Instr.swap), (0x07, Instr.quiet), (0x06, Instr.sig)] →
      nextIssue s op = some i →
      ∃ t v, exec x s = .next t ∧ (actx t i.ctx).win = some v ∧ v.instrs = i.win.instrs.tail ∧
        v.held = (if op = 0x06 ∧ i.win.second = false then
          i.win.held ++ signalsOf (fld i.ins.word 103 102) (fld i.ins.word 101 100) (fld i.ins.word 99 86)
            (fld i.ins.word 85 78) (fld i.ins.word 77 70) i.ctx 0 else i.win.held) ∧
        v.after = i.win.after.filter (fun e => decide (i.at_ ≤ e.1)) ++
          (if op = 0x02 then [(i.at_, physOf s1 i.ctx (fld i.ins.word 103 103), i.ins.word)]
           else if op = 0x05 then [(i.at_, 0, i.ins.word)] else []) ∧
        (actx t i.ctx).swap = (actx s1 i.ctx).swap ∧ (actx t i.ctx).rec0 = (actx s1 i.ctx).rec0 ∧
        (actx t i.ctx).rec1 = (actx s1 i.ctx).rec1 ∧ t.clk.aclk = max s.clk.aclk i.t ∧ t.flying = s.flying ∧
        t.array.bank0 = s.array.bank0 ∧ t.array.bank1 = s.array.bank1 ∧ SameMemory s t)) ∧
  (∀ (i : Issue) (w : Window) (a p : Nat) (x : Slot) (s s1 : State), (actx s i.ctx).win = some w → w.after = [(a, p, x)] →
    p < 2 → s1 = issueAdvance i s →
    (i.at_ ≤ a → (actx s1 i.ctx).swap = (actx s i.ctx).swap ∧ (actx s1 i.ctx).rec0 = (actx s i.ctx).rec0 ∧
      (actx s1 i.ctx).rec1 = (actx s i.ctx).rec1) ∧
    (a < i.at_ → fld x 127 120 = 0x05 → (actx s1 i.ctx).swap = !(actx s i.ctx).swap ∧
      (actx s1 i.ctx).rec0 = (actx s i.ctx).rec0 ∧ (actx s1 i.ctx).rec1 = (actx s i.ctx).rec1) ∧
    (a < i.at_ → fld x 127 120 = 0x02 → (actx s1 i.ctx).swap = (actx s i.ctx).swap ∧
      recOf s1 i.ctx (1 - p) = recOf s i.ctx (1 - p) ∧
      (bit x 102 = true → (recOf s1 i.ctx p).frameSet = false) ∧
      (bit x 102 = false → (recOf s1 i.ctx p).frameSet = true ∧ (recOf s1 i.ctx p).fmtA = fld x 100 96 ∧
        (recOf s1 i.ctx p).fmtB = fld x 95 91 ∧ (recOf s1 i.ctx p).pcount = (recOf s i.ctx p).pcount ∧
        (bit x 101 = false → (recOf s1 i.ctx p).f = sext 12 (fld x 90 79)) ∧
        (bit x 101 = true → (recOf s1 i.ctx p).f = (defaultFrame (fld x 100 96) (fld x 95 91)).getD 0) ∧
        (recOf s1 i.ctx p ≠ recOf s i.ctx p → (recOf s1 i.ctx p).reframed = true))))

/-- An MMA that passes its issue checks fixes the bank's F_eff and adds its products to the bank's count, starting from 0
with ZERO; the other bank, its record and every memory stay as they were (R82, R104, R111, R112). -/
def Obligations.Mma_Accumulates : Prop :=
  ∀ (u : Option (Cluster × Nat)) (i : Issue) (a b : Tensor) (p : Nat) (s s1 : State), nextIssue s 0x03 = some i →
    i.ins.a = some a → i.ins.b = some b → s1 = issueAdvance i s → p = physOf s1 i.ctx (fld i.ins.word 8 8) →
    mmaChecks s1 i p a b = none → (actx s i.ctx).overrun = none →
    ∃ t, exec (.mma u) s = .next t ∧ SameMemory s t ∧ bankOf t (1 - p) = bankOf s (1 - p) ∧
      recOf t i.ctx (1 - p) = recOf s1 i.ctx (1 - p) ∧
      (recOf t i.ctx p).fEff = (recOf s1 i.ctx p).f + a.exp + b.exp ∧ (recOf t i.ctx p).fEffFixed = true ∧
      (recOf t i.ctx p).reframed = (if bit i.ins.word 5 then false else (recOf s1 i.ctx p).reframed) ∧
      (recOf t i.ctx p).pcount = (if bit i.ins.word 5 then 0 else (recOf s1 i.ctx p).pcount) +
        fld i.ins.word 73 57 * depthOf a.format * (limbsOf a.format * limbsOf a.format) ∧
      (bankOf t p).lastRead = (bankOf s p).lastRead

/-- A DRAIN and a SAVE that pass their issue checks read the bank as it stands and wait for every cluster of the array to
write; they change no accumulator, and nothing in memory yet (R113, R114, R115, R143). When a cluster writes, it leaves the
list of its oldest drain or save; a drain that is not audited changes cluster memory in that cluster only, and no drain
changes main memory (R115, R389). It rests on the model's choices in log entries 19 and 97. -/
def Obligations.Drains_And_Saves : Prop :=
  (∀ (i : Issue) (p : Nat) (s s1 : State), s1 = issueAdvance i s → p = physOf s1 i.ctx (fld i.ins.word 103 103) →
    (actx s i.ctx).overrun = none →
    (nextIssue s 0x04 = some i → drainChecks s1 i p false = none →
      ∃ t j, exec .drain s = .next t ∧ t.array.jobs = s1.array.jobs ++ [j] ∧ j.bank = p ∧ j.snap = bankOf s p ∧ j.isSave = false ∧
        j.left = (arrayClusters s).map (fun e => e.2.2) ∧ t.array.lastDrain = some i.t ∧
        (bankOf t p).accs = (bankOf s p).accs ∧ bankOf t (1 - p) = bankOf s (1 - p) ∧ SameMemory s t) ∧
    (nextIssue s 0x0C = some i → drainChecks s1 i p (rf s1 (acReg i.ctx Reg.ACON_CTX_CTRL) 0 0 == 0) = none →
      ∃ t j, exec .save s = .next t ∧ t.array.jobs = s1.array.jobs ++ [j] ∧ j.bank = p ∧ j.snap = bankOf s p ∧ j.isSave = true ∧
        j.left = (arrayClusters s).map (fun e => e.2.2) ∧ t.array.lastDrain = some i.t ∧
        (bankOf t p).accs = (bankOf s p).accs ∧ bankOf t (1 - p) = bankOf s (1 - p) ∧ SameMemory s t)) ∧
  (∀ (n : Cluster) (f : List AccFault) (j : DrainJob) (s : State), s.array.jobs.find? (fun j => j.left.contains n.val) = some j →
    ∃ t, exec (.drainComplete n f) s = .next t ∧ (∀ x ∈ t.array.jobs, x.id = j.id → n.val ∉ x.left) ∧
      (∀ a, memGet t.mem a = memGet s.mem a) ∧
      (j.audited = false → CmemOutside (cluFirst n.val) (cluEnd n.val) s t))

/-- A RESTORE whose checks pass and whose images read loads the bank and takes the record that the image of logical core (0,
0) holds, no longer reframed; the other bank and every memory stay as they were (R143, R144). An injector can miss a step
only where a bank that it reads is in RET (R109). It rests on the model's choices in log entries 71 and 100. -/
def Obligations.Restore_Loads_Bank : Prop :=
  ∀ (u : Option (Cluster × Nat)) (i : Issue) (p off sr sc n0 : Nat) (rest : List (Nat × Nat × Nat)) (d : List Byte)
    (s s1 s2 s3 : State), nextIssue s 0x0D = some i → s1 = issueAdvance i s → p = physOf s1 i.ctx (fld i.ins.word 103 103) →
    off = fld i.ins.word 102 87 * 64 → restoreChecks s1 i p = none → (actx s i.ctx).overrun = none →
    (∀ n st, u = some (n, st) → ∀ b, b < 32 → bankCur s1 n.val b ≠ 1) → arrayClusters s1 = (sr, sc, n0) :: rest →
    cmemRead n0 .a (ctxSecure s1 i.ctx) ((off + 40960) % cmemTop) 64 s1 = (.ok d, s2) →
    recCheck s2.fuses.grade (leNat d) = none →
    restoreBank i.ctx p off i.t { parseRec (leNat d) with reframed := false } (guardRestore i.ctx i.win.serial off s2) = .ok s3 →
    ∃ t, exec (.restore u) s = .next t ∧ recOf t i.ctx p = { parseRec (leNat d) with reframed := false } ∧
      bankOf t p = bankOf s3 p ∧ bankOf t (1 - p) = bankOf s (1 - p) ∧ SameMemory s t

/-! ### ACON: control instructions -/

/-- The control instructions that pass their checks, no gate counter being saturated (R29): AUDIT opens or closes the region
in mode 1 and goes on; END waits for the last signals (R124, R136). A VSEL whose gate counter is 0 waits there, and is no
boundary; one without a gate or with a token selects, once its length and the table are read, the first variant that holds
the length: the token is taken, VARIANT_ID is written, and the program goes on at that entry (R125, R140, R141). It rests on
the model's choices in log entry 94. -/
def Obligations.Control_Instructions : Prop :=
  (∀ (c : Nat) (w : Slot) (s s' : State), c < 8 → atControl s = some c → controlAt c s = (.ok w, s') → (actx s c).overrun = none →
    (opOf w = 0x08 → fld w 118 0 = 0 →
      ∃ t, exec .audit s = .next t ∧ (actx t c).pc = (actx s c).pc + 1 ∧
        (auditMode s c = 1 → auditOpen t c = bit w 119) ∧ Unwritten s t) ∧
    (opOf w = 0x0F → boundaryWaits s c = false → fld w 119 0 = 0 →
      ∃ t, exec .endProg s = .next t ∧ (actx t c).ending = true ∧ (actx t c).pc = (actx s c).pc ∧ Unwritten s t)) ∧
  (∀ (c : Nat) (w : Slot) (s s1 : State), c < 8 → atControl s = some c → (boundaryWaits s c = false ∨ (actx s c).vgate ≠ none) →
    (actx s c).overrun = none → controlAt c s = (.ok w, s1) → opOf w = 0x09 → vselCheck c w s1 = none →
    (bit w 63 = true → gateCtr s c (fld w 62 58) = 0 →
      ∃ t, exec .vsel s = .next t ∧ (actx t c).vgate ≠ none ∧ (actx t c).pc = (actx s c).pc ∧ atBoundary t c = false ∧
        Unwritten s t) ∧
    (∀ (d : List Byte) (vt : List (Nat × Nat × Nat × Bool)) (entry id : Nat) (z : Bool) (mx : Nat) (s2 s3 s4 s5 : State),
      (bit w 63 = true → gateCtr s c (fld w 62 58) ≠ 0) →
      s2 = aconSample (instrVa s1 c (actx s1 c).pc) 0x09 c false 0 0 s1 →
      s3 = actxMod c (fun a => { a with vgate := none })
        (if bit w 63 then gateCtrSet c (fld w 62 58) (gateCtr s2 c (fld w 62 58) - 1) s2 else s2) →
      virtRead (viaCtx s3 c) ((fld w 119 72 + 4 * fld w 71 64) % 2 ^ 48) 4 s3 = (.ok d, s4) →
      readVariants c (actx s2 c).vtabOff (actx s2 c).vtabCount s4 = (.ok vt, s5) →
      vt.find? (fun e => decide (leNat d ≤ e.1)) = some (mx, entry, id, z) → id < 256 →
      ∃ t, exec .vsel s = .next t ∧ (actx t c).pc = entry ∧ rf t (statusReg c) 23 16 = id ∧
        (bit w 63 = true → gateCtr t c (fld w 62 58) = gateCtr s c (fld w 62 58) - 1) ∧ Unwritten s t))

/-- LOOP and JMP act on the four loop counters of a context as R142 says: a LOOP whose counter is not active loads it with
COUNT_M1 + 1 and activates it, then counts it down and branches by TARGET while it is above 0, and else deactivates it and
goes on; JMP branches by TARGET. The counters and their ACTIVE bits are 0 when a context starts. -/
def Obligations.Loop_Counters : Prop :=
  (∀ (m : Master) (c : Ctx) (h : Header) (s s' : State), LetIn m pgAcon (Reg.ACON_CTX_CMD + c.val * 0x100) s →
    isOn s pgAcon = true → acState s c = stIdle → xlatOn s = true → checkHeader c s = (.ok h, s') →
    ∃ t, exec (.start m c) s = .next t ∧ (actx t c).lc = [0, 0, 0, 0] ∧ (actx t c).active = [false, false, false, false]) ∧
  (∀ (c ctr n : Nat) (w : Slot) (s s' : State), c < 8 → atControl s = some c → controlAt c s = (.ok w, s') → opOf w = 0x0A →
    branchCheck (fld w 61 0 != 0) (actx s' c) w = none → (actx s c).overrun = none → ctr = fld w 119 118 →
    n = (if lget (actx s c).active ctr false then lget (actx s c).lc ctr 0 else fld w 117 94 + 1) →
    (1 < n → ∃ t, exec .loop s = .next t ∧ (actx t c).lc = (actx s c).lc.set ctr (n - 1) ∧
      (actx t c).active = (actx s c).active.set ctr true ∧
      ((actx t c).pc : Int) = (actx s c).pc + sext 32 (fld w 93 62) ∧ Unwritten s t) ∧
    (n = 1 → ∃ t, exec .loop s = .next t ∧ (actx t c).lc = (actx s c).lc.set ctr 0 ∧
      (actx t c).active = (actx s c).active.set ctr false ∧ (actx t c).pc = (actx s c).pc + 1 ∧ Unwritten s t)) ∧
  (∀ (c : Nat) (w : Slot) (s s' : State), c < 8 → atControl s = some c → controlAt c s = (.ok w, s') → opOf w = 0x0B →
    branchCheck (fld w 119 94 != 0 || fld w 61 0 != 0) (actx s' c) w = none → (actx s c).overrun = none →
    ∃ t, exec .jmp s = .next t ∧ ((actx t c).pc : Int) = (actx s c).pc + sext 32 (fld w 93 62) ∧
      (actx t c).lc = (actx s c).lc ∧ (actx t c).active = (actx s c).active ∧ Unwritten s t)

/-! ### The cluster sequencer -/

/-- A WAIT at the boundary begins testing at cycle ISSUE_AT of the phase it ends; PHASE_START takes COUNT off the counter
and starts phase cycle 0; a WAIT or VARJ that outlasts WAIT_TIMEOUT halts with TOKEN_TIMEOUT, the WAIT with the counter and
its value (R30, R171). A stream whose header and variant table pass the checks starts at ENTRY: RUNNING when its context
holds the array and the CSEQ is free, SUSPENDED otherwise (R168); STREAM_FETCH fills the queue from the slot at pc, whatever
the slot is (R172). It rests on the model's choices in log entries 22 and 31. -/
def Obligations.Cseq_Start_Fetch_And_Wait : Prop :=
  (∀ (n : Cluster) (c : Nat) (k : CseqCtx) (q : QSlot) (rest : List QSlot) (s : State),
    (boundary s n = some (c, k, q) → switchDue s c = false → fld q.word 127 120 = 0x01 → boundaryStop n c k q true s = none →
      ∃ t, exec (.wait n) s = .next t ∧ csState t n c = 2 ∧ (cctx t n c).testing = some (boundaryTime s k q) ∧
        (cctx t n c).phase = none ∧ t.clk.eclk = boundaryTime s k q ∧ RegFrame [(pgCseq n).base] s t ∧ SameMemory s t) ∧
    (∀ t0, csRuns s n = some c → (cctx s n c).testing = some t0 → (cctx s n c).queue = q :: rest → csState s n c = 2 →
      (fld q.word 127 120 = 0x01 → fld q.word 97 90 ≤ csToken s n c (fld q.word 102 98) → switchDue s c = false →
        ∃ t v, exec (.phaseStart n) s = .next t ∧ csState t n c = 1 ∧ (cctx t n c).phase = some v ∧ v.cycle0 = s.clk.eclk ∧
          v.todo = rest ∧ v.whole = rest ∧ (cctx t n c).testing = none ∧ (cctx t n c).queue = [] ∧
          (∀ g, g < 32 → csToken t n c g = csToken s n c g - (if g = fld q.word 102 98 then fld q.word 97 90 else 0)) ∧
          RegFrame [(pgCseq n).base] s t ∧ SameMemory s t) ∧
      (rf s ((pgCseq n).base + Reg.CSEQ_CONFIG) 31 16 ≠ 0 →
        (fld q.word 127 120 = 0x01 → csToken s n c (fld q.word 102 98) < fld q.word 97 90 →
          ∃ t, exec (.cseqWaitTimeout n) s = .next t ∧ csState t n c = 3 ∧ rf t (csReg n c Reg.CSEQ_CTX_HALT) 7 0 = 0x0B ∧
            (regGet t (csReg n c Reg.CSEQ_CTX_HALT_INFO0)).toNat = fld q.word 102 98 ∧
            (regGet t (csReg n c Reg.CSEQ_CTX_HALT_INFO1)).toNat = csToken s n c (fld q.word 102 98) ∧ SameMemory s t) ∧
        (fld q.word 127 120 = 0x03 → rf s (csReg n c Reg.CSEQ_CTX_STATUS) 23 23 = 0 →
          ∃ t, exec (.cseqWaitTimeout n) s = .next t ∧ csState t n c = 3 ∧ rf t (csReg n c Reg.CSEQ_CTX_HALT) 7 0 = 0x0B ∧
            (regGet t (csReg n c Reg.CSEQ_CTX_HALT_INFO0)).toNat = 0x100 ∧
            (regGet t (csReg n c Reg.CSEQ_CTX_HALT_INFO1)).toNat = 0 ∧ SameMemory s t)))) ∧
  ((∀ (n : Cluster) (c : Ctx) (va v : Nat) (d : List Byte) (vt : List (Nat × Nat × Bool)) (s s1 s2 s3 : State),
    (actx s c).notice = true → (actx s c).noticed.contains n.val = false → csState s n c = 0 → xlatOn s = true →
    isOn s (pgCseq n) = true → va = reg64 s (csReg n c Reg.CSEQ_CTX_STREAM_VA) % 2 ^ 48 → va ≠ 0 →
    s1 = streamFresh n c (actxMod c (fun a => { a with noticed := n.val :: a.noticed }) s) →
    virtRead (viaCtx s1 c) va 64 s1 = (.ok d, s2) → v = leNat d → nfld v 15 0 = 1 → nfld v 31 16 = n.val →
    nfld v 95 64 < nfld v 63 32 → nfld v 63 32 ≤ 2 ^ 24 → nfld v 511 144 = 0 → nfld v 143 128 ≤ 256 → nfld v 127 96 % 8 = 0 →
    (nfld v 143 128 = 0 → vt = [] ∧ s3 = s2) →
    (nfld v 143 128 ≠ 0 → nfld v 127 96 ≠ 0 ∧ ∃ vd, vt = parseVtab (nfld v 143 128) vd ∧
      virtRead (viaCtx s2 c) ((va + nfld v 127 96) % 2 ^ 48) (8 * nfld v 143 128) s2 = (.ok vd, s3)) →
    vt.any (fun e => e.2.2) = false → hasRepeat (vt.map (·.1)) = false →
    vt.any (fun e => decide (nfld v 63 32 ≤ e.2.1)) = false →
    ∃ t, exec (.streamStart n c) s = .next t ∧ (cctx t n c).pc = nfld v 95 64 ∧ (cctx t n c).slotCount = nfld v 63 32 ∧
      (cctx t n c).vtab = vt.map (fun e => (e.1, e.2.1)) ∧
      csState t n c = (if otherHalted s3 n c then 4 else if running s3 = some c.val ∧ (csActive s3 n).isNone then 1 else 5) ∧
      Unwritten s t) ∧
  (∀ (n : Cluster) (c : Nat) (s : State), csRuns s n = some c → (cctx s n c).queue = [] → (cctx s n c).abortDue = false →
    xlatOn s = true → (csState s n c = 1 ∨ csState s n c = 4) →
    ∃ t q l, exec (.streamFetch n) s = .next t ∧ (cctx t n c).queue = q :: l ∧ q.index = (cctx s n c).pc ∧
      (∀ d s', (cctx s n c).pc < (cctx s n c).slotCount →
        virtRead (viaCtx s c) (slotVa s n c (cctx s n c).pc) 16 s = (.ok d, s') → q.word = BitVec.ofNat 128 (leNat d)) ∧
      Unwritten s t))

/-- SIGNAL issues in its cycle and sends its signals, one for each consumer, unless the run that a replay repeats had sent
them; what was issued before them goes first (R174, R177). VARJ waits for the mailbox, empties it and goes to the slot of
its variant, at once where the mailbox is full (R175). LOOP counts its counter and branches by slots or goes on; JMP moves
to its target; END returns the stream to IDLE and sets the context's CTX_DONE (R142, R170, R177). A halted phase that is to
run again starts at cycle 0 with every command of it, once its issued commands are complete, and REPLAYS counts an automatic
replay and returns to 0 on RESUME (R177). When another context holds the array and the stream can leave, the CSEQ suspends
it and resumes the stream of that context where it stood, if it has one that can run; no token counter changes (R176). It
rests on the model's choices in log entry 22. -/
def Obligations.Cseq_Slots_Replay_And_Switch : Prop :=
  (((∀ (n : Cluster) (c : Nat) (k : CseqCtx) (p : Phase) (q : QSlot) (s s1 : State), phaseHead s n = some (c, k, p, q) →
    fld q.word 127 120 = 0x02 → k.nextError = none → s1 = eclkTo (p.cycle0 + fld q.word 119 104) s →
    ∃ t v, exec (.signal n) s = .next t ∧ (cctx t n c).phase = some v ∧ v.todo = p.todo.tail ∧ v.done = p.done + 1 ∧
      t.flying = s.flying ++ (if p.done < p.sent then [] else (signalsOf (fld q.word 102 101) (fld q.word 100 99)
        (fld q.word 98 85) (fld q.word 84 77) (fld q.word 76 69) c (masterId 1 n)).map
          (fun x => { x with notBefore := enginesDone s1 n
                             gaths := ((clu s1 n).gath.filter (fun j => j.ctx == c)).map (·.cmd)
                             stats := (s1.statq.filter (fun m => !m.fromDrain && m.producer == n.val && m.ctx == c)).map (·.no) })) ∧
      t.clk.eclk = s1.clk.eclk ∧ RegFrame [(pgCseq n).base] s t ∧ SameMemory s t) ∧
  (∀ (n : Cluster) (c : Nat) (k : CseqCtx) (q : QSlot) (s : State), boundary s n = some (c, k, q) → k.testing = none →
    switchDue s c = false → fld q.word 127 120 = 0x03 → boundaryStop n c k q true s = none →
    (rf s (csReg n c Reg.CSEQ_CTX_STATUS) 23 23 = 0 →
      ∃ t, exec (.varj n) s = .next t ∧ csState t n c = 2 ∧ (cctx t n c).testing = some (boundaryTime s k q) ∧
        RegFrame [(pgCseq n).base] s t ∧ SameMemory s t) ∧
    (∀ i, rf s (csReg n c Reg.CSEQ_CTX_STATUS) 23 23 = 1 →
      k.vtab.find? (fun e => e.1 == rf s (csReg n c Reg.CSEQ_CTX_STATUS) 31 24) =
        some (rf s (csReg n c Reg.CSEQ_CTX_STATUS) 31 24, i) →
      ∃ t, exec (.varj n) s = .next t ∧ csState t n c = 1 ∧ (cctx t n c).pc = i ∧ (cctx t n c).queue = [] ∧
        rf t (csReg n c Reg.CSEQ_CTX_STATUS) 23 23 = 0 ∧ RegFrame [(pgCseq n).base] s t ∧ SameMemory s t)) ∧
  (∀ (n : Cluster) (c t0 i : Nat) (q : QSlot) (rest : List QSlot) (s : State), csRuns s n = some c →
    (cctx s n c).testing = some t0 → (cctx s n c).queue = q :: rest → csState s n c = 2 → fld q.word 127 120 = 0x03 →
    rf s (csReg n c Reg.CSEQ_CTX_STATUS) 23 23 = 1 → switchDue s c = false →
    (cctx s n c).vtab.find? (fun e => e.1 == rf s (csReg n c Reg.CSEQ_CTX_STATUS) 31 24) =
      some (rf s (csReg n c Reg.CSEQ_CTX_STATUS) 31 24, i) →
    ∃ t, exec (.varj n) s = .next t ∧ csState t n c = 1 ∧ (cctx t n c).pc = i ∧ (cctx t n c).queue = [] ∧
      rf t (csReg n c Reg.CSEQ_CTX_STATUS) 23 23 = 0 ∧ RegFrame [(pgCseq n).base] s t ∧ SameMemory s t)) ∧
  (∀ (n : Cluster) (c : Nat) (k : CseqCtx) (q : QSlot) (s : State), boundary s n = some (c, k, q) →
    boundaryStop n c k q false s = none →
    (fld q.word 127 120 = 0x04 →
      ∃ t, exec (.cseqLoop n) s = .next t ∧ RegFrame [(pgCseq n).base] s t ∧ SameMemory s t ∧
        (let r := loopStep k.lc k.active (fld q.word 102 101) (fld q.word 100 77)
         (cctx t n c).lc = r.1 ∧ (cctx t n c).active = r.2.1 ∧
         (cctx t n c).pc = (if r.2.2 then ((q.index : Int) + sext 32 (fld q.word 76 45)).toNat else q.index + 1))) ∧
    (fld q.word 127 120 = 0x05 →
      ∃ t, exec (.cseqJmp n) s = .next t ∧ (cctx t n c).pc = ((q.index : Int) + sext 32 (fld q.word 76 45)).toNat ∧
        (cctx t n c).lc = k.lc ∧ (cctx t n c).active = k.active ∧ RegFrame [(pgCseq n).base] s t ∧ SameMemory s t) ∧
    (fld q.word 127 120 = 0x0F → cseqBusy s n c = false →
      ∃ t, exec (.cseqEnd n) s = .next t ∧ csState t n c = 0 ∧ csActive t n = none ∧
        rf t ((pgCseq n).base + Hdr.IRQ_STATUS) (24 + c) (24 + c) = 1 ∧ SameMemory s t))) ∧
  ((∀ (n : Cluster) (c : Nat) (p : Phase) (s : State), csRuns s n = some c → (cctx s n c).phase = some p →
    ((cctx s n c).replayDue = true ∨ (cctx s n c).resumeDue = true) → cseqBusy s n c = false →
    ∃ t, exec (.cseqReplay n) s = .next t ∧ csState t n c = 1 ∧
      (cctx t n c).phase = some { p with cycle0 := enginesDone s n, todo := p.whole, done := 0 } ∧
      (cctx t n c).lc = p.lc ∧ (cctx t n c).active = p.active ∧ (cctx t n c).replayDue = false ∧
      (cctx t n c).resumeDue = false ∧
      rf t (csReg n c Reg.CSEQ_CTX_STATUS) 7 4 =
        (if (cctx s n c).replayDue then min 15 (rf s (csReg n c Reg.CSEQ_CTX_STATUS) 7 4 + 1) else 0) ∧
      RegFrame [(pgCseq n).base] s t ∧ SameMemory s t) ∧
  (∀ (n : Cluster) (d : Nat) (s : State), running s = some d → csActive s n ≠ some d → isOn s (pgCseq n) = true →
    (cctx s n d).abortDue = false → (∀ c, csActive s n = some c → canLeave s n c = true) →
    ∃ t, exec (.cseqSwitch n) s = .next t ∧ (cctx t n d).pc = (cctx s n d).pc ∧
      (csState s n d = 5 ∨ csState s n d = 1 → csActive t n = some d ∧ csState t n d = 1) ∧
      (csState s n d = 3 ∨ csState s n d = 4 → csActive t n = some d ∧ csState t n d = csState s n d) ∧
      (csState s n d = 0 → csActive t n = none ∧ csState t n d = 0) ∧
      (∀ c, csActive s n = some c → csState s n c = 1 ∨ csState s n c = 2 → csState t n c = 5) ∧
      (∀ c g, c < 8 → g < 32 → csToken t n c g = csToken s n c g) ∧ RegFrame [(pgCseq n).base] s t ∧ SameMemory s t))

/-! ### The cluster engines -/

/-- A VEC command at the head of its phase whose engine is free, whose operands are in place and whose ranges the Guard lets
in issues at its cycle and runs: PARAM, EW, CVT, WIDE_ADD, DOT_EXACT, ACC_DRAIN, ACC_LOAD, KLOAD and KRUN (R173, R189 to
R202). The same of XPOSE, REDU and CONV: TRANSPOSE, COPY; SUM, MAX, MIN, ARGMAX, ARGMIN, SUMEXP by their OP; PARAM, CVT,
WENC, WDEC and STAT_POST (R205 to R216). The same of the twelve functions of SFUN (R217 to R220). The same of GATH's five
commands; and when an outstanding _M command is done, it leaves the outstanding ones and signals its DONE_CTR, or, having
failed, signals nothing and stops the stream at its next command (R222 to R225). It rests on the model's choices in log
entries 23, 107 and 112. -/
def Obligations.Engine_Commands_Issue : Prop :=
  (∀ (n : Cluster) (stall c : Nat) (d : Option Nat) (p : Phase) (q : QSlot) (pl : EngPlan) (s s1 : State),
    (EngineIssues n 1 (funcIs 0) (audited d vecParamPlan) c p q pl s s1 →
      EngineRuns n 1 stall c p pl s s1 (exec (.vecParam n ⟨stall, d⟩) s)) ∧
    (EngineIssues n 1 (funcIs 1) (audited d ewPlan) c p q pl s s1 →
      EngineRuns n 1 stall c p pl s s1 (exec (.ew n ⟨stall, d⟩) s)) ∧
    (EngineIssues n 1 (funcIs 2) (audited d (cvtPlan false)) c p q pl s s1 →
      EngineRuns n 1 stall c p pl s s1 (exec (.vecCvt n ⟨stall, d⟩) s)) ∧
    (EngineIssues n 1 (funcIs 3) (audited d wideAddPlan) c p q pl s s1 →
      EngineRuns n 1 stall c p pl s s1 (exec (.wideAdd n ⟨stall, d⟩) s)) ∧
    (EngineIssues n 1 (funcIs 4) (audited d dotExactPlan) c p q pl s s1 →
      EngineRuns n 1 stall c p pl s s1 (exec (.dotExact n ⟨stall, d⟩) s)) ∧
    (EngineIssues n 1 (funcIs 5) (audited d accDrainPlan) c p q pl s s1 →
      EngineRuns n 1 stall c p pl s s1 (exec (.accDrain n ⟨stall, d⟩) s)) ∧
    (EngineIssues n 1 (funcIs 6) (audited d accLoadPlan) c p q pl s s1 →
      EngineRuns n 1 stall c p pl s s1 (exec (.accLoad n ⟨stall, d⟩) s)) ∧
    (EngineIssues n 1 (funcIs 7) (audited d kloadPlan) c p q pl s s1 →
      EngineRuns n 1 stall c p pl s s1 (exec (.kload n ⟨stall, d⟩) s)) ∧
    (EngineIssues n 1 (funcIs 8) (audited d krunPlan) c p q pl s s1 →
      EngineRuns n 1 stall c p pl s s1 (exec (.krun n ⟨stall, d⟩) s))) ∧
  (∀ (n : Cluster) (stall c : Nat) (p : Phase) (q : QSlot) (pl : EngPlan) (s s1 : State),
    (EngineIssues n 2 (funcIs 0) transposePlan c p q pl s s1 → EngineRuns n 2 stall c p pl s s1 (exec (.transpose n stall) s)) ∧
    (EngineIssues n 2 (funcIs 1) xposeCopyPlan c p q pl s s1 → EngineRuns n 2 stall c p pl s s1 (exec (.xposeCopy n stall) s)) ∧
    (EngineIssues n 3 (fun w => fld w 19 17 == 0) (reduPlan 0) c p q pl s s1 →
      EngineRuns n 3 stall c p pl s s1 (exec (.sum n stall) s)) ∧
    (EngineIssues n 3 (fun w => fld w 19 17 == 1) (reduPlan 1) c p q pl s s1 →
      EngineRuns n 3 stall c p pl s s1 (exec (.max n stall) s)) ∧
    (EngineIssues n 3 (fun w => fld w 19 17 == 2) (reduPlan 2) c p q pl s s1 →
      EngineRuns n 3 stall c p pl s s1 (exec (.min n stall) s)) ∧
    (EngineIssues n 3 (fun w => fld w 19 17 == 3) (reduPlan 3) c p q pl s s1 →
      EngineRuns n 3 stall c p pl s s1 (exec (.argmax n stall) s)) ∧
    (EngineIssues n 3 (fun w => fld w 19 17 == 4) (reduPlan 4) c p q pl s s1 →
      EngineRuns n 3 stall c p pl s s1 (exec (.argmin n stall) s)) ∧
    (EngineIssues n 3 (fun w => fld w 19 17 == 5) (reduPlan 5) c p q pl s s1 →
      EngineRuns n 3 stall c p pl s s1 (exec (.sumexp n stall) s)) ∧
    (EngineIssues n 4 (funcIs 0) convParamPlan c p q pl s s1 → EngineRuns n 4 stall c p pl s s1 (exec (.convParam n stall) s)) ∧
    (EngineIssues n 4 (funcIs 1) (cvtPlan true) c p q pl s s1 → EngineRuns n 4 stall c p pl s s1 (exec (.convCvt n stall) s)) ∧
    (EngineIssues n 4 (funcIs 2) wencPlan c p q pl s s1 → EngineRuns n 4 stall c p pl s s1 (exec (.wenc n stall) s)) ∧
    (EngineIssues n 4 (funcIs 3) wdecPlan c p q pl s s1 → EngineRuns n 4 stall c p pl s s1 (exec (.wdec n stall) s)) ∧
    (EngineIssues n 4 (funcIs 4) statPostPlan c p q pl s s1 → EngineRuns n 4 stall c p pl s s1 (exec (.statPost n stall) s))) ∧
  (∀ (n : Cluster) (stall c : Nat) (p : Phase) (q : QSlot) (pl : EngPlan) (s s1 : State),
    (EngineIssues n 5 (funcIs 0) (sfunPlan 0) c p q pl s s1 → EngineRuns n 5 stall c p pl s s1 (exec (.exp n stall) s)) ∧
    (EngineIssues n 5 (funcIs 1) (sfunPlan 1) c p q pl s s1 → EngineRuns n 5 stall c p pl s s1 (exec (.exp2 n stall) s)) ∧
    (EngineIssues n 5 (funcIs 2) (sfunPlan 2) c p q pl s s1 → EngineRuns n 5 stall c p pl s s1 (exec (.log n stall) s)) ∧
    (EngineIssues n 5 (funcIs 3) (sfunPlan 3) c p q pl s s1 → EngineRuns n 5 stall c p pl s s1 (exec (.log2 n stall) s)) ∧
    (EngineIssues n 5 (funcIs 4) (sfunPlan 4) c p q pl s s1 → EngineRuns n 5 stall c p pl s s1 (exec (.tanh n stall) s)) ∧
    (EngineIssues n 5 (funcIs 5) (sfunPlan 5) c p q pl s s1 → EngineRuns n 5 stall c p pl s s1 (exec (.sigmoid n stall) s)) ∧
    (EngineIssues n 5 (funcIs 6) (sfunPlan 6) c p q pl s s1 → EngineRuns n 5 stall c p pl s s1 (exec (.gelu n stall) s)) ∧
    (EngineIssues n 5 (funcIs 7) (sfunPlan 7) c p q pl s s1 → EngineRuns n 5 stall c p pl s s1 (exec (.sin n stall) s)) ∧
    (EngineIssues n 5 (funcIs 8) (sfunPlan 8) c p q pl s s1 → EngineRuns n 5 stall c p pl s s1 (exec (.cos n stall) s)) ∧
    (EngineIssues n 5 (funcIs 9) (sfunPlan 9) c p q pl s s1 → EngineRuns n 5 stall c p pl s s1 (exec (.rcp n stall) s)) ∧
    (EngineIssues n 5 (funcIs 10) (sfunPlan 10) c p q pl s s1 → EngineRuns n 5 stall c p pl s s1 (exec (.sqrt n stall) s)) ∧
    (EngineIssues n 5 (funcIs 11) (sfunPlan 11) c p q pl s s1 → EngineRuns n 5 stall c p pl s s1 (exec (.rsqrt n stall) s))) ∧
  ((∀ (n : Cluster) (stall c : Nat) (p : Phase) (q : QSlot) (pl : EngPlan) (s s1 : State),
    (EngineIssues n 6 (funcIs 0) (gathCPlan (fun a k => gatherRow a k false) true false) c p q pl s s1 →
      EngineRuns n 6 stall c p pl s s1 (exec (.gatherC n stall) s)) ∧
    (EngineIssues n 6 (funcIs 1) (gathMPlan (fun a k => gatherRow a k true) true false) c p q pl s s1 →
      EngineRuns n 6 stall c p pl s s1 (exec (.gatherM n stall) s)) ∧
    (EngineIssues n 6 (funcIs 2) (gathCPlan (fun a k => scatterRow a k false false) false false) c p q pl s s1 →
      EngineRuns n 6 stall c p pl s s1 (exec (.scatterC n stall) s)) ∧
    (EngineIssues n 6 (funcIs 3) (gathCPlan (fun a k => scatterRow a k false true) false true) c p q pl s s1 →
      EngineRuns n 6 stall c p pl s s1 (exec (.scatterAddC n stall) s)) ∧
    (EngineIssues n 6 (funcIs 4) (gathMPlan (fun a k => scatterRow a k true true) false true) c p q pl s s1 →
      EngineRuns n 6 stall c p pl s s1 (exec (.scatterAddM n stall) s))) ∧
  (∀ (n : Cluster) (k : Nat) (j : GathJob) (s s1 : State) (fail : Option (Nat × Nat × Nat)), (clu s n).gath[k]? = some j →
    (j.later.isSome → xlatOn s = true) → gathWaited n j s = (fail, s1) →
    (fail = none →
      ∃ t, exec (.gathMDone n k) s = .next t ∧ (clu t n).gath = (clu s1 n).gath.eraseIdx k ∧
        t.flying = s1.flying ++ [⟨0, j.ctx, n, j.ctr, 1, masterId 1 n, 0, [], []⟩] ∧ t.mem = s1.mem ∧ t.cmem = s1.cmem ∧
        (j.later = none → (cctx s n j.ctx).abortDue = false → RegFrame [(pgGath n).base] s t ∧ SameMemory s t)) ∧
    (∀ f, fail = some f →
      ∃ t, exec (.gathMDone n k) s = .next t ∧ (clu t n).gath = (clu s1 n).gath.eraseIdx k ∧ t.flying = s1.flying ∧
        t.mem = s1.mem ∧ t.cmem = s1.cmem ∧
        ((cctx s1 n j.ctx).abortDue = false → ((cctx t n j.ctx).nextError.map (·.1)) = some f.1))))

/-- An engine command other than the _M commands of GATH writes cluster memory of its own cluster only, and no main memory:
whatever state it meets and however it ends (R157, R173). It rests on the model's choices in log entry 23. -/
def Obligations.Engines_Write_Their_Cluster : Prop :=
  ∀ (i : Instr) (n : Cluster) (o : VecObs) (stall : Nat) (s t : State),
    i ∈ [Instr.vecParam n o, .ew n o, .vecCvt n o, .wideAdd n o, .dotExact n o, .accDrain n o,
      .accLoad n o, .kload n o, .krun n o, .transpose n stall, .xposeCopy n stall, .sum n stall, .max n stall,
      .min n stall, .argmax n stall, .argmin n stall, .sumexp n stall, .convParam n stall, .convCvt n stall, .wenc n stall,
      .wdec n stall, .statPost n stall, .exp n stall, .exp2 n stall, .log n stall, .log2 n stall, .tanh n stall,
      .sigmoid n stall, .gelu n stall, .sin n stall, .cos n stall, .rcp n stall, .sqrt n stall, .rsqrt n stall,
      .gatherC n stall, .scatterC n stall, .scatterAddC n stall] →
    exec i s = .next t → CmemOutside (cluFirst n) (cluEnd n) s t ∧ (∀ a, memGet t.mem a = memGet s.mem a)

/-- Exact Wire loses nothing: decoding the canonical block of 1 to 16 G64 integers, on the frame they stand on, gives back
those integers and uses every byte of the block (R213, R214, R216). -/
def Obligations.Exact_Wire_Round_Trip : Prop :=
  ∀ (f : Int) (codes : List Nat) (at_ i0 : Nat), -2048 ≤ f → f ≤ 2047 → 1 ≤ codes.length → codes.length ≤ 16 →
    (∀ x ∈ codes, x < 2 ^ 64) →
    wireDecode false f at_ i0 codes.length (wireBlock false f (codes.map (wireElem false))).length true
        (wireBlock false f (codes.map (wireElem false))) =
      .ok (codes.map (wireElem false), (wireBlock false f (codes.map (wireElem false))).length)

/-! ### Cluster memory -/

/-- A request of BANK_PWR_REQ takes effect for each bank whose code is not 3: the bank's state becomes the request's, a bank
that leaves OFF is zeroed and BUSY, one that goes OFF loses its contents; no other cluster's memory changes (R162, R164). A
woken bank whose request is RET returns to RET; a bank that is being zeroed becomes ready (R163, R164). A secure write of
CMEM_BANK_WORLD sets every bank's world, and a bank that goes from S to NS and is not OFF is zeroed and BUSY; a non-secure
write changes no world (R11, R165). A word whose correction waits is written back: it waits no longer and reads without an
error (R161). It rests on the model's choices in log entry 84. -/
def Obligations.Bank_States : Prop :=
  ((∀ (m : Master) (n : Cluster) (v : BitVec 64) (s : State), LetIn m (pgCmem n) Reg.CMEM_BANK_PWR_REQ s →
    ∃ t, exec (.bankPwrReq m n v) s = .next t ∧ CmemOutside (cluFirst n) (cluEnd n) s t ∧
      (∀ a, memGet t.mem a = memGet s.mem a) ∧ RegFrame [(pgCmem n).base] s t ∧
      ∀ b, b < 32 →
        (let req := nfld v.toNat (2 * b + 1) (2 * b)
         (req = 3 → bankReq t n b = bankReq s n b ∧ bankCur t n b = bankCur s n b) ∧
         (req ≠ 3 → bankReq t n b = req ∧ bankCur t n b = req) ∧
         (req < 2 → bankCur s n b = 2 → bankBusy t n b = true) ∧
         ((req < 2 ∧ bankCur s n b = 2) ∨ (req = 2 ∧ bankCur s n b ≠ 2) →
           ∀ off, cmemBank (off / 8) = b → cmemByte t n off = 0))) ∧
  (∀ (n : Cluster) (b : Fin 32) (s : State), bankReq s n b = 1 → bankCur s n b = 0 → bankBusy s n b = false →
    rf s ((pgCmem n).base + Reg.CMEM_RET_IDLE) 15 0 ≠ 0 →
    ∃ t, exec (.retIdleExpiry n b) s = .next t ∧ bankCur t n b = 1 ∧
      (∀ b', b' < 32 → b' ≠ b.val → bankCur t n b' = bankCur s n b') ∧ RegFrame [(pgCmem n).base] s t ∧ SameMemory s t) ∧
  (∀ (n : Cluster) (b : Fin 32) (s : State), bankBusy s n b = true →
    ∃ t, exec (.bankZeroDone n b) s = .next t ∧ bankBusy t n b = false ∧
      (∀ b', b' < 32 → b' ≠ b.val → bankBusy t n b' = bankBusy s n b') ∧ RegFrame [(pgCmem n).base] s t ∧ SameMemory s t)) ∧
  (∀ (m : Master) (n : Cluster) (v : BitVec 32) (s : State), LetIn m (pgCmem n) Reg.CMEM_BANK_WORLD s →
    (Master.secure m = true → ∃ t, exec (.bankWorld m n v) s = .next t ∧ CmemOutside (cluFirst n) (cluEnd n) s t ∧
      RegFrame [(pgCmem n).base] s t ∧
      ∀ b, b < 32 → bankSecure t n b = v.getLsbD b ∧
        (bankSecure s n b = true → v.getLsbD b = false → bankCur s n b ≠ 2 →
          bankBusy t n b = true ∧ ∀ off, cmemBank (off / 8) = b → cmemByte t n off = 0)) ∧
    (Master.secure m = false → ∃ t, exec (.bankWorld m n v) s = .next t ∧ SameMemory s t ∧
      ∀ b, b < 32 → bankSecure t n b = bankSecure s n b)) ∧
  (∀ (n : Cluster) (w : Fin 524288) (s : State), (clu s n).writeback.contains (wordKey s n w) = true →
    ∃ t, exec (.eccWriteback n w) s = .next t ∧ (clu t n).writeback.contains (wordKey s n w) = false ∧
      (clu t n).correct.contains (wordKey s n w) = false ∧ t.regs = s.regs ∧ SameMemory s t)

/-! ### The Scale Keeper -/

/-- The oldest record of an entry's, whichever of them was named, is absorbed when its step and context are the entry's and
no rollback has revoked it, and counted in SKEEP_STALE when not; no other entry changes (R228). SKEEP_ENTRY_WRITE puts a
checked word into the committed part of the selected entry; a word that fails its checks changes no entry (R246).
SKEEP_CMD_DONE ends a command and sets CMD_DONE. -/
def Obligations.Scale_Keeper_Entries : Prop :=
  (∀ (k j : Nat) (m0 m : StatMsg) (s : State), s.statq[k]? = some m0 →
    s.statq.findIdx? (fun x => x.entry == m0.entry) = some j → s.statq[j]? = some m → isOn s (skPage m.entry) = true →
    (m.step = skStep s (sk s m.entry) → m.ctx = (sk s m.entry).ctx → m.revoked = false →
      ∃ t, exec (.statsAbsorb k) s = .next t ∧ t.statq = s.statq.eraseIdx j ∧
        sk t m.entry = (sk s m.entry).absorb m.counts m.elements m.amax m.fromDrain ∧
        (∀ i, i ≠ m.entry → sk t i = sk s i) ∧ RegFrame [(skPage m.entry).base] s t ∧ SameMemory s t) ∧
    (m.step ≠ skStep s (sk s m.entry) ∨ m.ctx ≠ (sk s m.entry).ctx ∨ m.revoked = true →
      ∃ t, exec (.statsAbsorb k) s = .next t ∧ t.statq = s.statq.eraseIdx j ∧ t.skeep = s.skeep ∧
        rf t ((skPage m.entry).base + Reg.SKEEP_STALE) 31 0 =
          min (2 ^ 32 - 1) (rf s ((skPage m.entry).base + Reg.SKEEP_STALE) 31 0 + 1) ∧ SameMemory s t)) ∧
  ((∀ (m : Master) (inst : Fin 2) (i : Fin 8) (v : BitVec 64) (s : State),
    LetIn m (pgSkeep inst) (Reg.SKEEP_ENTRY0_7 + 8 * i.val) s →
    (∀ j, skSelected s inst = some j → skWordBad i v.toNat = false →
      ∃ t, exec (.skeepEntryWrite m inst i v) s = .next t ∧
        sk t j = (sk s j).load (nset (leNat (sk s j).committed) (64 * i + 63) (64 * i) v.toNat) ∧
        (∀ x, x ≠ j → sk t x = sk s x) ∧ RegFrame [(pgSkeep inst).base] s t ∧ SameMemory s t) ∧
    (skSelected s inst = none ∨ skWordBad i v.toNat = true →
      ∃ t, exec (.skeepEntryWrite m inst i v) s = .next t ∧ t.skeep = s.skeep ∧ SameMemory s t)) ∧
  (∀ (inst : Fin 2) (s : State), rf s (skCmdReg inst) 31 31 = 1 →
    ∃ t, exec (.skeepCmdDone inst) s = .next t ∧ rf t (skCmdReg inst) 31 31 = 0 ∧
      rf t ((pgSkeep inst).base + Hdr.IRQ_STATUS) 18 18 = 1 ∧ t.skeep = s.skeep ∧ SameMemory s t))

/-- A command of a Scale Keeper half that is ON and idle begins: BUSY is set. SAVE changes no entry and LOAD no memory;
WARM, INVALIDATE and CLEAR_WORKING give each entry of the half that they name its value; no command touches the other half's
entries (R237, R238, R246). -/
def Obligations.Scale_Keeper_Commands : Prop :=
  ∀ (m : Master) (inst : Fin 2) (c : Ctx) (s : State), LetIn m (pgSkeep inst) Reg.SKEEP_CMD s → rf s (skCmdReg inst) 31 31 = 0 →
    isOn s (pgSkeep inst) = true →
    (∃ t, exec (.skeepSave m inst) s = .next t ∧ rf t (skCmdReg inst) 31 31 = 1 ∧ t.skeep = s.skeep ∧
      t.mem = (skSaveFrom (halfEntries inst) (rfSet (skCmdReg inst) 31 31 1 s)).mem) ∧
    (∃ t, exec (.skeepLoad m inst) s = .next t ∧ rf t (skCmdReg inst) 31 31 = 1 ∧ Unwritten s t ∧
      (∀ i, i / 8192 ≠ inst.val → sk t i = sk s i) ∧
      t.skeep = (skLoadFrom (halfEntries inst) (rfSet (skCmdReg inst) 31 31 1 s)).skeep) ∧
    (∃ t, exec (.warm m inst c) s = .next t ∧ rf t (skCmdReg inst) 31 31 = 1 ∧ SameMemory s t ∧
      (∀ i, i / 8192 ≠ inst.val → sk t i = sk s i) ∧
      ∀ i, i / 8192 = inst.val → (sk s i).ctx = c.val →
        sk t i = { (if (sk s i).cold = true ∧ (sk s i).wAmax ≠ -32768 then
            skRecompute { sk s i with hist := (sk s i).wAmax :: (sk s i).hist.tail, cold := false }
          else sk s i).clearStats with wCorr := 0 }) ∧
    (∃ t, exec (.invalidate m inst) s = .next t ∧ rf t (skCmdReg inst) 31 31 = 1 ∧ SameMemory s t ∧
      ∀ i, sk t i = if i / 8192 = inst.val then (sk s i).makeCold else sk s i) ∧
    (∃ t, exec (.clearWorking m inst c) s = .next t ∧ rf t (skCmdReg inst) 31 31 = 1 ∧ SameMemory s t ∧
      (∀ i, i / 8192 ≠ inst.val → sk t i = sk s i) ∧
      ∀ i, i / 8192 = inst.val → (sk s i).ctx = c.val → sk t i = { (sk s i).clearStats with wCorr := 0 })

/-! ### Main memory -/

/-- A read of a line of main memory that the regions allow checks its chunks, whatever the channels show of them, and
answers the line, or poison (R254, R255); where every chunk arrives right it answers the line as stored and changes no
memory (R250). A read of a cluster memory line answers its bytes, one of the Vault by a secure master too (R36); a refused
read answers the cause, and one of an address that holds no memory the same (R37, R277). An access to secure memory during a
wipe is held (R420). A write within one line of main memory that the regions allow stores its bytes and no others; a partial
write needs the line to read (R250, R254, R277). A refused write stores nothing. It rests on the model's choices in log
entries 4 and 10. -/
def Obligations.Memory_Access : Prop :=
  (∀ (k : AccClass) (sec : Bool) (pa : BitVec 48) (o : LineObs) (line : Nat) (s : State), line = pa.toNat / 256 * 256 →
    ((s.sec.wiping && isSecureMem s pa.toNat) = true →
      exec (.memoryRead k sec pa o) s =
        .next { s with sec := { s.sec with held := s.sec.held ++ [⟨k, sec, pa.toNat, none, o⟩] } }) ∧
    ((s.sec.wiping && isSecureMem s pa.toNat) = false →
      (decodePa s line = .main → rptVerdict s k sec false line = none →
        (cleanObs o → groupReads s (groupOf s line) → s.markers.contains (line / 256) = false →
          ∃ t, exec (.memoryRead k sec pa o) s = .next t ∧
            t.sent = s.sent ++ [.memData line (memGetBytes s.mem line 256) false] ∧ SameMemory s t) ∧
        (∀ r s0 s1, s0 = useEntry (groupOf s line) (tally (memcOf (groupOf s line)) 0x0100 1 (memAttrs k sec false line)
            (showLine (line / 256) o s)) →
          checkLine (groupOf s line) line (memGetBytes s.mem line 256) (s.markers.contains (line / 256))
            (if quiet o then cleanLine else o) s0 = (r, s1) →
          ∃ t, exec (.memoryRead k sec pa o) s = .next t ∧
            t.sent.getLast? = some (.memData line (if r.poisoned then [] else r.data.take 256) r.poisoned) ∧
            (r.rewrite = false → t.mem = s.mem) ∧ t.cmem = s.cmem)) ∧
      (∀ n off d s1, decodePa s line = .cmem n off → rptVerdict s k sec false line = none →
        cmemRead n .b sec off 256 s = (.ok d, s1) →
        ∃ t, exec (.memoryRead k sec pa o) s = .next t ∧ t.sent.getLast? = some (.memData line d false) ∧ SameMemory s t) ∧
      (decodePa s line = .vault → sec = true →
        ∃ t, exec (.memoryRead k sec pa o) s = .next t ∧
          t.sent.getLast? = some (.memData line (memGetBytes s.mem line 256) false) ∧ SameMemory s t) ∧
      (∀ c, decodePa s line = .main ∨ (∃ n off, decodePa s line = .cmem n off) → rptVerdict s k sec false line = some c →
        ∃ t, exec (.memoryRead k sec pa o) s = .next t ∧ t.sent.getLast? = some (.memError line c) ∧ SameMemory s t) ∧
      (decodePa s line = .pages ∨ decodePa s line = .unmapped ∨ (decodePa s line = .vault ∧ sec = false) →
        ∃ t, exec (.memoryRead k sec pa o) s = .next t ∧ t.sent.getLast? = some (.memError line 8) ∧ SameMemory s t))) ∧
  (∀ (k : AccClass) (sec : Bool) (pa : BitVec 48) (d : List Byte) (o : LineObs) (line : Nat) (s : State),
    line = pa.toNat / 256 * 256 → d ≠ [] → d.length ≤ 256 - pa.toNat % 256 →
    ((s.sec.wiping && isSecureMem s pa.toNat) = true →
      exec (.memoryWrite k sec pa d o) s =
        .next { s with sec := { s.sec with held := s.sec.held ++ [⟨k, sec, pa.toNat, some d, o⟩] } }) ∧
    ((s.sec.wiping && isSecureMem s pa.toNat) = false → decodePa s pa.toNat = .main → s.memoriesWf →
      rptVerdict s k sec true pa.toNat = none →
      (d.length < 256 → cleanObs o ∧ groupReads s (groupOf s line) ∧ s.markers.contains (line / 256) = false) →
      ∃ t, exec (.memoryWrite k sec pa d o) s = .next t ∧ memGetBytes t.mem pa.toNat d.length = d ∧
        MemOutside pa.toNat (pa.toNat + d.length) s t ∧ t.cmem = s.cmem) ∧
    ((s.sec.wiping && isSecureMem s pa.toNat) = false → decodePa s pa.toNat = .vault → sec = true → s.memoriesWf →
      ∃ t, exec (.memoryWrite k sec pa d o) s = .next t ∧ memGetBytes t.mem pa.toNat d.length = d ∧
        MemOutside pa.toNat (pa.toNat + d.length) s t ∧ t.cmem = s.cmem) ∧
    (∀ n off s1, (s.sec.wiping && isSecureMem s pa.toNat) = false → decodePa s pa.toNat = .cmem n off →
      rptVerdict s k sec true pa.toNat = none → cmemWriteLine n .b sec off d s = (none, s1) →
      exec (.memoryWrite k sec pa d o) s = .next s1) ∧
    ((s.sec.wiping && isSecureMem s pa.toNat) = false →
      (∀ c, decodePa s pa.toNat = .main ∨ (∃ n off, decodePa s pa.toNat = .cmem n off) →
        rptVerdict s k sec true pa.toNat = some c →
        ∃ t, exec (.memoryWrite k sec pa d o) s = .next t ∧ t.sent.getLast? = some (.memError pa.toNat c) ∧ SameMemory s t) ∧
      (decodePa s pa.toNat = .pages ∨ decodePa s pa.toNat = .unmapped ∨ (decodePa s pa.toNat = .vault ∧ sec = false) →
        ∃ t, exec (.memoryWrite k sec pa d o) s = .next t ∧ t.sent.getLast? = some (.memError pa.toNat 8) ∧ SameMemory s t)))

/-- A member that stops responding, fails calibration or is failed by a secure write becomes FAILED: a Green group turns
Amber with that member erased, or Red when MEMC_CONFIG asks for evacuation at once, and an Amber group turns Red with it as
SECOND (R256, R258, R259). GO for a Red group, before any retirement, takes 24 GiB off MEMC_TOP, orphans the group's ways
and begins the copy at the first orphan line; memory below the new top is unchanged; GO while a copy runs, for a group that
is not Red or after a retirement changes no map and no memory (R269). EVAC_LINE_COPY moves the progress by one, whatever the
channels show, and a line that reads keeps its data (R259, R260). A scrub read moves CGM_SCRUB to the next line of the
group, or to line 0 after the last, whatever the channels show; where no link shows an error it rewrites nothing; a Grey
group is not scrubbed. A refresh changes nothing; a poll keeps the package's rate (R263, R264). It rests on the model's
choices in log entries 10 and 75. -/
def Obligations.Memory_Health : Prop :=
  (∀ (g : Fin 32) (s : State) (m : Nat) (o : Host.Outcome State Fault Refusal), memberFailed s g m = false → groupColour s g ≠ 3 →
    ((∃ x : Fin 9, m = x.val ∧ (o = exec (.channelTimeout g x) s ∨ o = exec (.calibrationFailure g x) s)) ∨
      (∃ (w : Master) (x : BitVec 4), m = x.toNat ∧ x.toNat ≤ 8 ∧ Master.secure w = true ∧ LetIn w (pgCgm g) Reg.CGM_FAIL s ∧
        o = exec (.cgmFail w g x) s)) →
    ∃ t, o = .next t ∧ memberFailed t g m = true ∧ SameMemory s t ∧
      (groupColour s g = 0 → erased t g = m ∧
        groupColour t g = (if rf s ((pgMemc 0).base + Reg.MEMC_CONFIG) 0 0 = 1 then 2 else 1)) ∧
      (groupColour s g = 1 → groupColour t g = 2 ∧ (second s g = 15 → second t g = m)) ∧
      (groupColour s g = 2 → groupColour t g = 2)) ∧
  ((∀ (m : Master) (g : Fin 32) (s : State), Master.secure m = true → LetIn m (pgMemc 0) Reg.MEMC_EVAC s →
    (evacBusy s = false → groupColour s g = 2 → retiredGroups s = 0 →
      ∃ t, exec (.go m 0 g) s = .next t ∧ memTop t = memTop s - 24 * 2 ^ 30 ∧ retiredGroups t = 1 ∧ evacBusy t = true ∧
        evacDone t = 0 ∧ (∀ w ∈ waysOf s g, nbit (wayMap t w) 7 = true) ∧
        (∀ a, a < memTop t → memGet t.mem a = memGet s.mem a) ∧ t.cmem = s.cmem) ∧
    (evacBusy s = true ∨ groupColour s g ≠ 2 ∨ retiredGroups s ≠ 0 →
      ∃ t, exec (.go m 0 g) s = .next t ∧ memTop t = memTop s ∧ retiredGroups t = retiredGroups s ∧ evacBusy t = evacBusy s ∧
        (∀ w, w < 64 → wayMap t w = wayMap s w) ∧ SameMemory s t)) ∧
  (∀ (o : LineObs) (s : State), evacBusy s = true → evacDone s < 2 ^ 40 →
    ∃ t, exec (.evacLineCopy o) s = .next t ∧ evacDone t = evacDone s + 1 ∧ t.cmem = s.cmem ∧
      (cleanObs o → groupReads s s.evacGroup → s.markers.contains (orphanPa s (evacDone s) / 256) = false → SameMemory s t))) ∧
  ((∀ (g : Fin 32) (o : LineObs) (s : State),
    (groupColour s g ≠ 3 →
      ∃ t, exec (.scrubRead g o) s = .next t ∧ t.cmem = s.cmem ∧ (o.linkBad = [] → SameMemory s t) ∧
        rf t ((pgCgm g).base + Reg.CGM_SCRUB) 26 0 =
          (if groupLines ≤ rf s ((pgCgm g).base + Reg.CGM_SCRUB) 26 0 + 1 then 0
           else rf s ((pgCgm g).base + Reg.CGM_SCRUB) 26 0 + 1)) ∧
    (groupColour s g = 3 → exec (.scrubRead g o) s = .next s)) ∧
  (∀ (g : Fin 32) (m : Fin 9) (b : Fin 16) (s : State), exec (.refresh g m b) s = .next s) ∧
  (∀ (p : Fin 36) (r : BitVec 5) (s : State), ∃ t, exec (.mr4Poll p r) s = .next t ∧ tget t.mr4 0 p = r.toNat ∧ t.regs = s.regs ∧
    t.mem = s.mem ∧ t.cmem = s.cmem))

/-! ### Translation and regions -/

/-- A walk that finds a leaf caches it, so that the address hits from then on; one that finds a fault caches nothing, and an
address that hits is not walked (R273, R274). An invalidation begins unless one is busy, in any state of XLAT, and, once
done, has dropped what it names and nothing else (R275, R276). A write of an RPT region takes its 64 bits, but for the
reserved ones, which read 0; a locked page's regions do not change (R278, R279, R280). It rests on the model's choices in
log entry 16. -/
def Obligations.Translation_And_Regions : Prop :=
  ((∀ (c : Ctx) (va : BitVec 48) (w r : Bool) (s s1 : State), xlatOn s = true →
    s1 = rfSet (pgXlat.base + Reg.XLAT_WALKERS) 22 16 (max 1 (rf s (pgXlat.base + Reg.XLAT_WALKERS) 22 16))
      (tally pgXlat 0x0102 1 { world := some (ctxSecure s c), addr := some va.toNat }
        (tally pgXlat 0x0101 1 { world := some (ctxSecure s c), addr := some va.toNat } s)) →
    ((tlbHit s c va.toNat).isSome → exec (.pageWalk c va w r) s = .next s) ∧
    (∀ l s2, tlbHit s c va.toNat = none → walk c va.toNat s1 = (.ok l, s2) →
      ∃ t, exec (.pageWalk c va w r) s = .next t ∧
        tlbHit t c va.toNat = some ⟨c, va.toNat / l.size * l.size, l.size, l.base, l.r, l.w, l.pin⟩ ∧ Unwritten s t) ∧
    (∀ e s2, tlbHit s c va.toNat = none → walk c va.toNat s1 = (.error e, s2) →
      exec (.pageWalk c va w r) s = .next s2 ∧ s2.xlat = s.xlat ∧ Unwritten s s2)) ∧
  (∀ (m : Master) (c : Ctx) (s : State), LetIn m pgXlat Reg.XLAT_INVAL_CMD s → rf s invalReg 31 31 = 0 →
    (∃ t, exec (.invalAll m) s = .next t ∧ t.inval = some .all ∧ rf t invalReg 31 31 = 1 ∧ t.xlat = s.xlat ∧ SameMemory s t) ∧
    (∃ t, exec (.invalContext m c) s = .next t ∧ t.inval = some (.context c) ∧ rf t invalReg 31 31 = 1 ∧ t.xlat = s.xlat ∧
      SameMemory s t) ∧
    (∃ t, exec (.invalRange m c) s = .next t ∧ t.inval = some (invalRangeOf s c) ∧ rf t invalReg 31 31 = 1 ∧ t.xlat = s.xlat ∧
      SameMemory s t)) ∧
  (∀ (x : Inval) (s : State), s.inval = some x →
    ∃ t, exec .invalDone s = .next t ∧ t.inval = none ∧ t.xlat = s.xlat.filter (fun e => !drops x e) ∧
      rf t invalReg 31 31 = 0 ∧ rf t (pgXlat.base + Hdr.IRQ_STATUS) 16 16 = 1 ∧ SameMemory s t)) ∧
  (∀ (m : Master) (i : Fin 256) (v : BitVec 64) (s : State), LetIn m pgRpt (Reg.RPT_REGION + 8 * i.val) s →
    (locked s pgRpt = false → ∃ t, exec (.rptRegionWrite m i v) s = .next t ∧ region t i = nset v.toNat 9 6 0 ∧
      (∀ j, j < 256 → j ≠ i.val → region t j = region s j) ∧ RegFrame [pgRpt.base] s t ∧ SameMemory s t) ∧
    (locked s pgRpt = true → exec (.rptRegionWrite m i v) s = .next s))

/-! ### The Movers -/

/-- START runs a stream that is IDLE or DONE from CHAIN_VA, RESUME one that is SUSPENDED or IDLE from its recorded place,
ABORT ends one at once or once its chunks complete; no other stream changes, and a command that the stream's state, or its
Mover's, does not admit changes none (R284, R299). -/
def Obligations.Mover_Stream_Commands : Prop :=
  ∀ (m : Master) (mv : MoverNo) (i : Nat) (x : Stream) (s : State), LetIn m (pgMov mv) Reg.MOV_SCMD s →
    i = selStream s mv → x = strm s i →
    (moverRuns s mv = true → x.atRest = true → ∃ t, exec (.moverStart m mv) s = .next t ∧ (strm t i).state = .running ∧
      (strm t i).curVa = x.chainVa % 2 ^ 48 ∧ (strm t i).nextOff = 0 ∧ (strm t i).seq = 0 ∧ (strm t i).tokens = x.tokens ∧
      (strm t i).secure = ctxSecure s x.ctx ∧ (∀ j, j ≠ i → strm t j = strm s j) ∧ t.regs = s.regs ∧ SameMemory s t) ∧
    (moverRuns s mv = false ∨ x.atRest = false →
      ∃ t, exec (.moverStart m mv) s = .next t ∧ t.streams = s.streams ∧ SameMemory s t) ∧
    (moverRuns s mv = true → x.state = .suspended ∨ (x.state = .idle ∧ x.descVa ≠ 0) →
      ∃ t, exec (.moverResume m mv) s = .next t ∧
      (strm t i).state = .running ∧ (strm t i).curVa = x.descVa % 2 ^ 48 ∧ (strm t i).nextOff = x.byteOff ∧
      (strm t i).tokens = x.tokens ∧ (∀ j, j ≠ i → strm t j = strm s j) ∧ t.regs = s.regs ∧ SameMemory s t) ∧
    (moverRuns s mv = false ∨ (x.state ≠ .suspended ∧ (x.state ≠ .idle ∨ x.descVa = 0)) →
      ∃ t, exec (.moverResume m mv) s = .next t ∧ t.streams = s.streams ∧ SameMemory s t) ∧
    (moverRuns s mv = false ∨ x.state = .idle →
      ∃ t, exec (.moverAbort m mv) s = .next t ∧ t.streams = s.streams ∧ SameMemory s t) ∧
    (moverRuns s mv = true → x.state ≠ .idle →
      ∃ t, exec (.moverAbort m mv) s = .next t ∧ (x.chunks = [] → (strm t i).state = .idle) ∧
      (x.chunks ≠ [] → (strm t i).stopReq = 2 ∧ (strm t i).state = x.state ∧ (strm t i).chunks = x.chunks) ∧
      (∀ j, j ≠ i → strm t j = strm s j) ∧ t.regs = s.regs ∧ SameMemory s t)

/-- A stream stops where the spec says: SUSPENDED at its failed chunk with SEQ one more, PREEMPTED at the lowest place not
moved, IDLE after an ABORT with its tokens and place kept, HALTED with TOKEN_TIMEOUT when a wait lasts too long (R290, R293,
R298, R299). It rests on the model's choices in log entry 24. -/
def Obligations.Mover_Stream_Stops : Prop :=
  ∀ (i : Fin 16384) (x : Stream) (s : State), x = strm s i →
    (∀ ch e, x.failing = some ch → ch.fail = some e → ch.cmemFail = none → x.active = true → x.chunks = [] → x.stopReq ≠ 2 →
      ∃ t, exec (.streamSuspend i) s = .next t ∧ (strm t i).state = .suspended ∧ (strm t i).reason = causeReason e.1 ∧
        (strm t i).descVa = x.curVa ∧ (strm t i).byteOff = ch.off ∧ (strm t i).seq = (x.seq + 1) % 2 ^ 32 ∧
        (∀ j, j ≠ i.val → strm t j = strm s j) ∧ SameMemory s t) ∧
    (x.stopReq = 1 → x.chunks = [] → x.failing = none → x.active = true →
      ∃ t, exec (.streamPreempted i) s = .next t ∧ (strm t i).state = .preempted ∧ (strm t i).descVa = x.curVa ∧
        (strm t i).byteOff = (if x.state = .waiting then 0 else x.nextOff) ∧ (strm t i).tokens = x.tokens ∧
        (∀ j, j ≠ i.val → strm t j = strm s j) ∧ t.regs = s.regs ∧ SameMemory s t) ∧
    (x.stopReq = 2 → x.chunks = [] →
      ∃ t, exec (.streamIdle i) s = .next t ∧ (strm t i).state = .idle ∧ (strm t i).descVa = x.descVa ∧
        (strm t i).byteOff = x.byteOff ∧ (strm t i).tokens = x.tokens ∧ (∀ j, j ≠ i.val → strm t j = strm s j) ∧
        t.regs = s.regs ∧ SameMemory s t) ∧
    (x.state = .waiting → x.stopReq = 0 → (actx s x.ctx).revoked = false → rf s ((pgMov (moverOf i)).base + Reg.MOV_CONFIG) 31 16 ≠ 0 →
      (x.fetched = true → lget x.tokens x.copy.waitCtr 0 < x.copy.waitCount) → (x.fetched = false → x.mboxFull = false) →
      ∃ t, exec (.moverWaitTimeout i) s = .next t ∧ (strm t i).state = .halted ∧ (strm t i).reason = 0x0B ∧
        (∀ j, j ≠ i.val → strm t j = strm s j) ∧ SameMemory s t)

/-- A stream's descriptor is fetched and does what its KIND says: a COPY that passes the checks is taken up, its wait met or
begun; VARJ goes to its variant's target or waits; JUMP goes to its target, or past the loop; END makes the stream DONE
(R285 to R290). It rests on the model's choices in log entry 24. -/
def Obligations.Mover_Descriptors : Prop :=
  ∀ (i : Fin 16384) (x : Stream) (d : List Byte) (v : Nat) (s s1 : State), mayFetch s i = true → x = strm s i →
    fetchDesc i s = (.ok d, s1) → x.nextError = none → v = leNat d →
    (∀ k b s2, descKind d = 1 → k = parseCopy v → checkCopy x k s1 = (.ok b, s2) →
      ∃ t, exec (.copy i) s = .next t ∧ (strm t i).fetched = true ∧ (strm t i).curDesc = d ∧ (strm t i).curTensor = some b ∧
        (strm t i).total = k.bytes b ∧ (strm t i).state = (if (k.waitEn && !x.waitTaken) = true ∧
          lget x.tokens k.waitCtr 0 < k.waitCount then .waiting else .running) ∧
        (strm t i).tokens = (if (k.waitEn && !x.waitTaken) = true ∧ k.waitCount ≤ lget x.tokens k.waitCtr 0 then
          lset x.tokens k.waitCtr (lget x.tokens k.waitCtr 0 - k.waitCount) else x.tokens) ∧ Unwritten s t) ∧
    (v = 2 → x.mboxFull = false → ∃ t, exec (.descVarj i) s = .next t ∧ (strm t i).state = .waiting ∧
      (strm t i).curVa = x.curVa ∧ Unwritten s t) ∧
    (∀ va s2, v = 2 → x.mboxFull = true →
      variantTarget (viaStream s1 i) (nfld x.vtab 47 0) x.mboxId (min 256 (nfld x.vtab 56 48)) s1 = (.ok va, s2) →
      ∃ t, exec (.descVarj i) s = .next t ∧ (strm t i).state = .running ∧ (strm t i).curVa = va % 2 ^ 48 ∧
        (strm t i).mboxFull = false ∧ Unwritten s t) ∧
    (descKind d = 3 → nfld v 31 4 = 0 → nfld v 511 112 = 0 → nfld v 63 32 < 2 ^ 25 → nfld v 111 64 % 64 = 0 →
      ∃ t, exec (.jump i) s = .next t ∧ (strm t i).state = .running ∧ Unwritten s t ∧
        (let left := (if x.loopActive then x.loopCount else nfld v 63 32) - 1
         (nfld v 63 32 = 0 → (strm t i).curVa = nfld v 111 64) ∧
         (nfld v 63 32 ≠ 0 → 0 < left → (strm t i).curVa = nfld v 111 64 ∧ (strm t i).loopActive = true ∧
           (strm t i).loopCount = left) ∧
         (nfld v 63 32 ≠ 0 → left = 0 → (strm t i).curVa = (x.curVa + 64) % 2 ^ 48 ∧ (strm t i).loopActive = false))) ∧
    (v = 4 → ∃ t, exec (.descEnd i) s = .next t ∧ (strm t i).state = .done ∧
      (x.irqDone = true → rf t ((pgMov (moverOf i)).base + Hdr.IRQ_STATUS) 18 18 = 1) ∧ Unwritten s t)

/-- A Mover issues the next 4,096-byte chunk of the stream whose turn it is, and its range enters the Guards, once the array
waves that have arrived are in them; a chunk that completes has moved its runs, or ended at the access that failed, and
leaves the chunks in flight; after the last chunk of a COPY its signals go and the stream moves to the next descriptor (R26,
R287, R291). A logical Mover without chunks in flight moves to a free physical Mover, and one with a chunk in flight does
not (R282). It rests on the model's choices in log entries 24 and 36. -/
def Obligations.Mover_Chunks : Prop :=
  (∀ (mv : MoverNo) (i : Nat) (x : Stream) (b : Tensor) (s s1 : State), moverRuns s mv = true → xlatOn s = true →
    moverChunks s mv < 32 →
    s1 = ((robin s mv).flatMap (fun i => (strm s i).copy.clusters)).foldl (fun s n => wavesAt n s) s →
    pickStream s1 mv = some i → x = strm s i → x.curTensor = some b →
    guardAll (nextRange i x b).1 (nextRange i x b).2 s1 x.copy.clusters = none →
    ∃ t, exec (.chunkIssue mv) s = .next t ∧ (strm t i).nextOff = x.nextOff + 4096 ∧
      (strm t i).chunks = x.chunks ++ [⟨i, x.nextOff, (nextRange i x b).1, none, none, x.copy.clusters⟩] ∧
      tget t.moverNext 0 mv = i ∧ (∀ j, j ≠ i → strm t j = strm s j) ∧ SameMemory s t) ∧
  (∀ (i : Fin 16384) (off : Nat) (x : Stream) (ch : Chunk) (b : Tensor) (r : ChunkEnd) (s s1 : State), x = strm s i →
    x.chunks.find? (fun c => c.off == off) = some ch → x.curTensor = some b → xlatOn s = true →
    (if x.copy.dir then moveOut (viaStream s i) x.copy b x.copy.target (chunkRuns x.copy b off) s
      else moveIn (viaStream s i) x.copy b ch.clusters (chunkRuns x.copy b off) s) = (r, s1) →
    ∃ t, exec (.chunkComplete i off) s = .next t ∧ t.mem = s1.mem ∧ t.cmem = s1.cmem ∧
      (strm t i).chunks = x.chunks.filter (fun c => c.off != off) ∧
      (r = .ok ∧ x.failing = none ∧ x.chunks.filter (fun c => c.off != off) = [] ∧ x.total ≤ x.nextOff →
        (strm t i).curVa = (x.curVa + 64) % 2 ^ 48 ∧ (strm t i).fetched = false ∧
        t.flying = s.flying ++ (if x.copy.sigEn then signalsOf (nfld x.copy.sig 1 0) (nfld x.copy.sig 3 2)
          (nfld x.copy.sig 17 4) (nfld x.copy.sig 25 18) (nfld x.copy.sig 33 26) x.ctx (masterId 2 (moverOf i)) else [])) ∧
      (r ≠ .ok ∨ x.failing ≠ none ∨ x.chunks.filter (fun c => c.off != off) ≠ [] ∨ x.nextOff < x.total →
        (strm t i).curVa = x.curVa ∧ t.flying = s.flying)) ∧
  (∀ (mv : MoverNo) (q : Fin 72) (s : State),
    (moverChunks s mv = 0 →
      (List.range 64).any (fun j => j != mv.val && tget s.movers j j == q.val) = false → s.badMovers.contains q.val = false →
      q.val ≠ tget s.movers mv.val mv.val →
      ∃ t, exec (.moverReassign mv q) s = .next t ∧ tget t.movers mv.val mv.val = q.val ∧
        t.badMovers = s.badMovers ++ [tget s.movers mv.val mv.val] ∧ t.streams = s.streams ∧ SameMemory s t) ∧
    (0 < moverChunks s mv → exec (.moverReassign mv q) s = .next s))

/-! ### The Atwin fabric -/

/-- Codewords with more than 4 corrected symbols are counted for their lane; at COUNT in one window, or when CDR lock is
lost, the lane fails (R305). A failed lane starts a swap onto the spare, or is latched while a swap or retrain runs, and
where neither a spare nor a fourth lane is left the port is Grey; the transmitter trains the spare, notes the codeword, and
at it both ends take the new map and the link is UP again, or goes on with the next latched failure (R304, R305, R306,
R329). It rests on the model's choices in log entries 28 and 73. -/
def Obligations.Lane_Swap : Prop :=
  ∀ (p : PortNo) (lane : Fin 5) (n : Nat) (cdr : Bool) (u : CtrlUnit) (s : State),
    (cdr = false → n = 0 → exec (.laneFailed p ⟨lane, n, cdr⟩) s = .next s) ∧
    (laneFailsBy s p lane n cdr = false →
      ∃ t, exec (.laneFailed p ⟨lane, n, cdr⟩) s = .next t ∧ (port t p).latched = (port s p).latched ∧ link t p = link s p ∧
        rf t (atpReg p (Reg.ATP_LANE_ERR + 4 * lane.val)) 31 0 =
          min (2 ^ 32 - 1) (rf s (atpReg p (Reg.ATP_LANE_ERR + 4 * lane.val)) 31 0 + n) ∧
        RegFrame [(pgAtp p).base] s t ∧ SameMemory s t) ∧
    (laneFailsBy s p lane n cdr = true →
      ((port s p).swapLane.isSome = true ∨ link s p = lkRetrain →
        ∃ t, exec (.laneFailed p ⟨lane, n, cdr⟩) s = .next t ∧ lane.val ∈ (port t p).latched ∧ RegFrame [(pgAtp p).base] s t ∧
          SameMemory s t) ∧
      ((port s p).swapLane = none → linkUp s p = true →
        (swapStarts (regGet s (atpReg p Reg.ATP_LANES_RX)).toNat lane →
          ∃ t, exec (.laneFailed p ⟨lane, n, cdr⟩) s = .next t ∧ rf t (atpReg p Reg.ATP_LANES_RX) (15 + lane) (15 + lane) = 1 ∧
            link t p = lkSwap ∧ (port t p).swapLane = some lane.val ∧ SameMemory s t) ∧
        (rf s (atpReg p Reg.ATP_LANES_RX) (15 + lane) (15 + lane) = 0 → rf s (atpReg p Reg.ATP_LANES_RX) 14 12 = lane.val →
          ∃ t, exec (.laneFailed p ⟨lane, n, cdr⟩) s = .next t ∧ rf t (atpReg p Reg.ATP_LANES_RX) (15 + lane) (15 + lane) = 1 ∧
            rf t (atpReg p Reg.ATP_LANES_RX) 14 12 = 7 ∧ link t p = link s p ∧ SameMemory s t) ∧
        (rf s (atpReg p Reg.ATP_LANES_RX) (15 + lane) (15 + lane) = 0 → rf s (atpReg p Reg.ATP_LANES_RX) 14 12 = 7 →
          laneWidth (regGet s (atpReg p Reg.ATP_LANES_RX)).toNat < 4 →
          ∃ t, exec (.laneFailed p ⟨lane, n, cdr⟩) s = .next t ∧ link t p = lkDown ∧ portColour t p = 3 ∧ SameMemory s t))) ∧
    ((linkUp s p = true → ctrlOk s p u) →
      (linkUp s p = true →
        ∃ t, exec (.laneSwap p ⟨lane, u⟩) s = .next t ∧ link t p = lkSwap ∧ (port t p).txSwap = some lane.val ∧
          rf t (atpReg p Reg.ATP_LANES_TX) (15 + lane) (15 + lane) = 1 ∧ RegFrame [(pgAtp p).base] s t ∧ SameMemory s t) ∧
      ((port s p).txSwap.isSome = true →
        ∃ t, exec (.swapAt p ⟨n, u⟩) s = .next t ∧ (port t p).swapCw = some n ∧ t.regs = s.regs ∧ SameMemory s t)) ∧
    (link s p = lkSwap → (port s p).latched = [] →
      ∃ t, exec (.laneSwitch p) s = .next t ∧ (port t p).swapLane = none ∧ SameMemory s t ∧
        (∀ l, (port s p).swapLane = some l → regGet t (atpReg p Reg.ATP_LANES_RX) =
          BitVec.ofNat 32 (swapMap (regGet s (atpReg p Reg.ATP_LANES_RX)).toNat l)) ∧
        (∀ l, (port s p).txSwap = some l → (port s p).swapCw.isSome = true → (port t p).txSwap = none ∧
          regGet t (atpReg p Reg.ATP_LANES_TX) = BitVec.ofNat 32 (swapMap (regGet s (atpReg p Reg.ATP_LANES_TX)).toNat l)) ∧
        ((port s p).txSwap = none ∨ (port s p).swapCw.isSome = true → link t p = lkUp)) ∧
    (∀ l r old, link s p = lkSwap → (port s p).latched = l :: r → (port s p).swapLane = some old → (port s p).txSwap = none →
      swapStarts (BitVec.ofNat 32 (swapMap (regGet s (atpReg p Reg.ATP_LANES_RX)).toNat old)).toNat l →
      ∃ t, exec (.laneSwitch p) s = .next t ∧ link t p = lkSwap ∧ (port t p).swapLane = some l ∧ (port t p).latched = r ∧
        SameMemory s t)

/-- The link layer: ACK frees what it covers; NAK and the retry timeout resend from a SEQ onward, or retrain once one of
them has been resent 8 times; CREDIT and KEY_SWITCH are noted; a control unit that fails its CRC or its GCM tag is discarded
and counted; ACK and CREDIT go out again on their timer, each under a tag of its own on an encrypted link (R307, R308, R310,
R311, R320). Link states: a retrain ends UP, or in the swap that it met, with everything to be resent, or starts again, or
goes DOWN when it fails twice; loss of signal takes the port DOWN; a port that may train trains and comes UP when both ends
agree on ENCRYPT and an encrypted link has a key, else goes DOWN; a lane failure that was latched is handled then (R306,
R308, R309, R310, R329). It rests on the model's choices in log entries 28, 41, 43, 44, 105 and 110. -/
def Obligations.Links : Prop :=
  (∀ (p : PortNo) (x : Port) (u : CtrlUnit) (s : State), x = port s p →
    ((linkUp s p = true → ctrlOk s p u) →
      (∀ (seq : BitVec 16) (o : TxPacket) (l : List TxPacket), x.retry = o :: l →
        (0 < (seq - o.seq).toNat → (seq - o.seq).toNat ≤ x.retry.length →
          ∃ t, exec (.ack p ⟨seq, u⟩) s = .next t ∧ SameMemory s t ∧
            (port t p).retry = x.retry.filter (fun t => !decide (((t.seq - o.seq) : BitVec 16).toNat < (seq - o.seq).toNat))) ∧
        ((seq - o.seq).toNat = 0 ∨ x.retry.length < (seq - o.seq).toNat → exec (.ack p ⟨seq, u⟩) s = .next s)) ∧
      (∀ (seq : BitVec 16) (l : List TxPacket), linkUp s p = true → x.retry.dropWhile (fun t => t.seq != seq) = l →
        (l ≠ [] → l.any (fun t => decide (8 ≤ t.tries)) = false →
          ∃ t, exec (.nak p ⟨seq, u⟩) s = .next t ∧ (port t p).resend = l ∧ t.regs = s.regs ∧ SameMemory s t) ∧
        (l.any (fun t => decide (8 ≤ t.tries)) = true →
          ∃ t, exec (.nak p ⟨seq, u⟩) s = .next t ∧ link t p = lkRetrain ∧ SameMemory s t) ∧
        (l = [] → exec (.nak p ⟨seq, u⟩) s = .next s)) ∧
      (∀ (b : Buf) (total : BitVec 16), ∃ t, exec (.credit p b ⟨total, u⟩) s = .next t ∧
        tget (port t p).creditGot 0 (bufIdx b) = total.toNat ∧ (port t p).retry = x.retry ∧ t.regs = s.regs ∧ SameMemory s t) ∧
      (∀ seq : BitVec 16, ∃ t, exec (.keySwitch p ⟨seq, u⟩) s = .next t ∧ (port t p).rxSwitch = some seq ∧
        (port t p).keyActive = x.keyActive ∧ t.regs = s.regs ∧ SameMemory s t)) ∧
    (∀ (seq : BitVec 16) (b : Buf) (lane : Fin 5) (n : Nat) (i : Instr), linkUp s p = true →
      i ∈ [Instr.ack p ⟨seq, u⟩, .nak p ⟨seq, u⟩, .credit p b ⟨seq, u⟩, .keySwitch p ⟨seq, u⟩, .laneSwap p ⟨lane, u⟩, .swapAt p ⟨n, u⟩] →
      (u.crcOk = false → exec i s = .next (rfAdd (atpReg p Reg.ATP_CRC_ERR) 31 0 1 s)) ∧
      (u.crcOk = true → encrypted s p = true → u.gcmOk = false → exec i s = .next (gcmFailure p s))) ∧
    (∀ (o : TxPacket) (l : List TxPacket), linkUp s p = true → x.retry = o :: l →
      (x.retry.any (fun t => decide (8 ≤ t.tries)) = false →
        ∃ t, exec (.retryTimeout p) s = .next t ∧ (port t p).resend = x.retry ∧ t.regs = s.regs ∧ SameMemory s t) ∧
      (x.retry.any (fun t => decide (8 ≤ t.tries)) = true →
        ∃ t, exec (.retryTimeout p) s = .next t ∧ link t p = lkRetrain ∧ SameMemory s t)) ∧
    (linkUp s p = true →
      (encrypted s p = false →
        ∃ t, exec (.controlResend p) s = .next t ∧ t.regs = s.regs ∧ SameMemory s t ∧
          t.sent = s.sent ++ Sent.control p cuAck x.expSeq.toNat none ::
            (List.range 5).map (fun b => Sent.control p cuCredit (b + tget x.freed 0 b <<< 4) none)) ∧
      (∀ k, encrypted s p = true → x.keyActive = some k →
        ∃ t, exec (.controlResend p) s = .next t ∧ t.sent.length = s.sent.length + 6 ∧
          (port t p).keyActive = some { k with counter := k.counter + 6 } ∧ t.regs = s.regs ∧ SameMemory s t))) ∧
  (∀ (p : PortNo) (x : Port) (w : Nat) (s : State), x = port s p → w = (regGet s (atpReg p Reg.ATP_LANES_RX)).toNat →
    (link s p = lkRetrain →
      (x.latched = [] ∨ x.swapLane.isSome = true ∨ x.txSwap.isSome = true →
        ∃ t, exec (.retrainEnd p true) s = .next t ∧
          link t p = (if x.swapLane.isSome || x.txSwap.isSome then lkSwap else lkUp) ∧
          (port t p).resend = x.retry.map (fun t => { t with tries := 0 }) ∧ (port t p).badTrains = 0 ∧
          RegFrame [(pgAtp p).base] s t ∧ SameMemory s t) ∧
      (∀ l r, x.latched = l :: r → x.swapLane = none → x.txSwap = none → swapStarts w l →
        ∃ t, exec (.retrainEnd p true) s = .next t ∧ link t p = lkSwap ∧ (port t p).swapLane = some l ∧ SameMemory s t) ∧
      (∃ t, exec (.retrainEnd p false) s = .next t ∧ SameMemory s t ∧
        link t p = (if 1 ≤ x.badTrains then lkDown else lkRetrain))) ∧
    (link s p ≠ lkDown → ∃ t, exec (.lossOfSignal p) s = .next t ∧ link t p = lkDown ∧ (port t p).retry = [] ∧
      rf t ((pgAtp p).base + Hdr.IRQ_STATUS) 17 17 = 1 ∧ SameMemory s t) ∧
    (link s p = lkDown → exec (.lossOfSignal p) s = .next s) ∧
    (mayTrain s p = true → link s p = lkDown →
      ∃ t, exec (.trainingRetry p) s = .next t ∧ link t p = lkTraining ∧ RegFrame [(pgAtp p).base] s t ∧ SameMemory s t) ∧
    (mayTrain s p = false ∨ link s p ≠ lkDown → exec (.trainingRetry p) s = .next s) ∧
    (∀ (peer : BitVec 12) (pp : BitVec 4) (pe : Bool),
      (link s p = lkTraining → pe = decide (rf s (atpReg p Reg.ATP_CONFIG) 7 7 = 1) → (pe = true → x.keyActive.isSome = true) →
        (x.latched = [] →
          ∃ t, exec (.portUp p peer pp pe) s = .next t ∧ link t p = lkUp ∧ encrypted t p = pe ∧
            rf t (atpReg p Reg.ATP_STATUS) 31 20 = peer.toNat ∧ rf t (atpReg p Reg.ATP_STATUS) 19 16 = pp.toNat ∧
            RegFrame [(pgAtp p).base] s t ∧ SameMemory s t) ∧
        (∀ l r, x.latched = l :: r → swapStarts w l →
          ∃ t, exec (.portUp p peer pp pe) s = .next t ∧ link t p = lkSwap ∧ (port t p).swapLane = some l ∧
            encrypted t p = pe ∧ rf t (atpReg p Reg.ATP_STATUS) 31 20 = peer.toNat ∧
            rf t (atpReg p Reg.ATP_STATUS) 19 16 = pp.toNat ∧ SameMemory s t)) ∧
      (link s p = lkTraining →
        pe ≠ decide (rf s (atpReg p Reg.ATP_CONFIG) 7 7 = 1) ∨
          (rf s (atpReg p Reg.ATP_CONFIG) 7 7 = 1 ∧ x.keyActive = none) →
        ∃ t, exec (.portUp p peer pp pe) s = .next t ∧ link t p = lkDown ∧ RegFrame [(pgAtp p).base] s t ∧ SameMemory s t) ∧
      (link s p ≠ lkTraining → exec (.portUp p peer pp pe) s = .next s)))

/-- At the end of a throttle period the port's rate halves, not below MIN, when its egress was too full, and otherwise rises
by its step to at most 64 (R324). A packet that has waited too long in a receive or retry buffer or in an egress queue is
dropped, and of a REQ that has been served the RSP that waits (R315, R327). An outstanding tag that times out completes with
0x21 and is quarantined, and is free again after the quarantine; a response with its generation completes it with its data
or the NACK's reason, and any other response changes no tag and is counted as stale (R313, R328). It rests on the model's
choices in log entries 27 and 28. -/
def Obligations.Throttle_Residence_And_Tags : Prop :=
  (∀ (p : PortNo) (s : State),
    (∃ t, exec (.throttleUpdate p) s = .next t ∧ SameMemory s t ∧ (port t p).egPeak = egressBytes s p ∧
      rf t (atpReg p Reg.ATP_THROTTLE) 22 16 =
        (let g := (pgFrt (frtOf p)).base + Reg.FRT_THROTTLE
         let rate := rf s (atpReg p Reg.ATP_THROTTLE) 22 16
         if rf s g 23 16 * 65536 < (port s p).egPeak * 100 then max (rf s g 7 0) (rate / 2) % 128 else min 64 (rate + rf s g 15 8))) ∧
    (∀ (b : Buf) (h : RxPacket), (port s p).rx.find? (fun h => h.buf == b) = some h →
      (h.served = false →
        ∃ t, exec (.residenceExpiry p (.buffer b)) s = .next t ∧ (port t p).rx = (port s p).rx.erase h ∧
          rf t ((pgFrt (frtOf p)).base + Reg.FRT_DROP) 31 0 =
            min (2 ^ 32 - 1) (rf s ((pgFrt (frtOf p)).base + Reg.FRT_DROP) 31 0 + 1) ∧ SameMemory s t) ∧
      (∀ q k, h.served = true → (List.range 16).findSome? (fun q => ((port s q).egress.find? (fun t =>
          t.arrival.isNone && t.pkt.cls == 1 && answers t.pkt h)).map (fun t => (q, t))) = some (q, k) →
        ∃ t, exec (.residenceExpiry p (.buffer b)) s = .next t ∧ (port t q).egress = (port s q).egress.erase k ∧
          rf t ((pgFrt (frtOf q)).base + Reg.FRT_DROP) 31 0 =
            min (2 ^ 32 - 1) (rf s ((pgFrt (frtOf q)).base + Reg.FRT_DROP) 31 0 + 1) ∧ SameMemory s t)) ∧
    (∀ (k : TxPacket) (r : List TxPacket), (port s p).egress = k :: r →
      ∃ t, exec (.residenceExpiry p .egress) s = .next t ∧ SameMemory s t ∧
        min (2 ^ 32 - 1) (rf s ((pgFrt (frtOf (dropPort p k))).base + Reg.FRT_DROP) 31 0 + 1) ≤
          rf t ((pgFrt (frtOf (dropPort p k))).base + Reg.FRT_DROP) 31 0 ∧
        ((∀ q, ∀ h ∈ (port s q).rx, h.buf ≠ .fwd0 ∧ h.buf ≠ .fwd1) → (port t p).egress = r)) ∧
    (∀ (k : TxPacket) (r : List TxPacket), (port s p).retry = k :: r →
      ∃ t, exec (.residenceExpiry p .retry) s = .next t ∧ (port t p).retry = r ∧ SameMemory s t)) ∧
  ((∀ (k : Fin 16384) (s : State),
    ((tagOf s k).state = .outstanding → rf s ((pgFrt (k / 8192)).base + Reg.FRT_CONFIG) 31 16 ≠ 0 →
      ∃ t, exec (.tagTimeout k) s = .next t ∧ tagOf t k = ⟨.quarantine, (tagOf s k).gen⟩ ∧
        t.sent = s.sent ++ [.requestDone k 0x21 []] ∧ SameMemory s t) ∧
    ((tagOf s k).state = .quarantine →
      ∃ t, exec (.quarantineExpiry k) s = .next t ∧ tagOf t k = ⟨.free, (tagOf s k).gen⟩ ∧ SameMemory s t)) ∧
  (∀ (p : PortNo) (h : RxPacket) (o : Nat) (s : State), rxHead s p .rsp = some h → o = h.pkt.tag.toNat →
    ((tagOf s o).state = .outstanding → (tagOf s o).gen = h.pkt.gen →
      (h.pkt.op = 1 → ∃ t, exec (.rdData p) s = .next t ∧ tagOf t o = ⟨.free, h.pkt.gen⟩ ∧
        t.sent = s.sent ++ [.requestDone o 0 h.pkt.payload] ∧ SameMemory s t) ∧
      (h.pkt.op = 2 → ∃ t, exec (.wrAck p) s = .next t ∧ tagOf t o = ⟨.free, h.pkt.gen⟩ ∧
        t.sent = s.sent ++ [.requestDone o 0 h.pkt.payload] ∧ SameMemory s t) ∧
      (h.pkt.op = 3 → ∃ t, exec (.pong p) s = .next t ∧ tagOf t o = ⟨.free, h.pkt.gen⟩ ∧
        t.sent = s.sent ++ [.requestDone o 0 h.pkt.payload] ∧ SameMemory s t) ∧
      (h.pkt.op = 4 → ∃ t, exec (.nack p) s = .next t ∧ tagOf t o = ⟨.free, h.pkt.gen⟩ ∧
        t.sent = s.sent ++ [.requestDone o (fld h.pkt.arg 7 0) h.pkt.payload] ∧ SameMemory s t)) ∧
    ((tagOf s o).state ≠ .outstanding ∨ (tagOf s o).gen ≠ h.pkt.gen →
      ∀ i, (h.pkt.op = 1 ∧ i = Instr.rdData p) ∨ (h.pkt.op = 2 ∧ i = .wrAck p) ∨ (h.pkt.op = 3 ∧ i = .pong p) ∨
          (h.pkt.op = 4 ∧ i = .nack p) →
        ∃ t, exec i s = .next t ∧ (∀ j, tagOf t j = tagOf s j) ∧ (port t p).rx = (port s p).rx.erase h ∧
          rf t ((pgFrt (o / 8192)).base + Reg.FRT_STALE) 31 0 =
            min (2 ^ 32 - 1) (rf s ((pgFrt (o / 8192)).base + Reg.FRT_STALE) 31 0 + 1) ∧ SameMemory s t)))

/-- An expected unit that passes its checks is accepted, and a packet for this device waits in its receive buffer; one that
fails its FEC or CRC, or is not the expected one, is discarded, and one that fails its GCM tag is counted and not retried. A
port whose active key was erased goes DOWN at its next packet (R421). A port sends its resends first, then the granted
packet under the next SEQ, each with the CRC of its trailer (R307, R308, R310, R320, R322). It rests on the model's choices
in log entries 40, 43, 45 and 105. -/
def Obligations.Packets_Arrive_And_Leave : Prop :=
  (∀ (p : PortNo) (u : LinkUnit) (k : Packet) (s : State), linkUp s p = true →
    ((encrypted s p && (port s p).erased) = true →
      ∃ t, exec (.packetReceive p u k) s = .next t ∧ link t p = lkDown ∧ (port t p).locked = true ∧ SameMemory s t) ∧
    ((encrypted s p && (port s p).erased) = false →
      (u.fecOk = true → crcFits s p u k = true → (encrypted s p = true → u.gcmOk = true) → u.seq = (port s p).expSeq →
        (∃ t, exec (.packetReceive p u k) s = .next t ∧ (port t p).expSeq = (port s p).expSeq + 1 ∧
          (port t p).nakSent = false ∧ SameMemory s t) ∧
        (lenBad k = false → (k.world = true → encrypted s p = true) → k.dst.toNat = devId s → fenced s k.src.toNat = false →
          opKnown k.cls.toNat k.op.toNat = true →
          ∃ t, exec (.packetReceive p u k) s = .next t ∧ (port t p).rx = (port s p).rx ++ [⟨bufFor k true, k, false, false⟩] ∧
            RegFrame [(pgAtp p).base] s t ∧ SameMemory s t)) ∧
      (u.fecOk = false ∨ crcFits s p u k = false →
        ∃ t, exec (.packetReceive p u k) s = .next t ∧ (port t p).rx = (port s p).rx ∧ (port t p).expSeq = (port s p).expSeq ∧
          (port t p).nakSent = true ∧ RegFrame [(pgAtp p).base] s t ∧ SameMemory s t) ∧
      (u.fecOk = true → crcFits s p u k = true → encrypted s p = true → u.gcmOk = false →
        ∃ t, exec (.packetReceive p u k) s = .next t ∧ SameMemory s t ∧
          rf t (atpReg p Reg.ATP_AUTH_FAIL) 31 0 = min (2 ^ 32 - 1) (rf s (atpReg p Reg.ATP_AUTH_FAIL) 31 0 + 1)) ∧
      (u.fecOk = true → crcFits s p u k = true → (encrypted s p = true → u.gcmOk = true) → u.seq ≠ (port s p).expSeq →
        ∃ t, exec (.packetReceive p u k) s = .next t ∧ (port t p).rx = (port s p).rx ∧ (port t p).expSeq = (port s p).expSeq ∧
          RegFrame [(pgAtp p).base] s t ∧ SameMemory s t))) ∧
  (∀ (p : PortNo) (s : State), linkUp s p = true →
    ((encrypted s p && (port s p).erased) = true →
      ∃ t, exec (.packetTransmit p) s = .next t ∧ link t p = lkDown ∧ (port t p).locked = true ∧ SameMemory s t) ∧
    ((encrypted s p && (port s p).erased) = false →
      (∀ k r, (port s p).resend = k :: r →
        ∃ t, exec (.packetTransmit p) s = .next t ∧ (port t p).resend = r ∧ (port t p).nextSeq = (port s p).nextSeq ∧
          (port t p).retry = (port s p).retry.map (fun x => if x.seq = k.seq then { x with tries := x.tries + 1 } else x) ∧
          (encrypted s p = false → t.sent = s.sent ++ [.packet p k.seq.toNat k.pkt none (trailerCrc (pktWire k.pkt) k.seq)]) ∧
          RegFrame [(pgAtp p).base] s t ∧ SameMemory s t) ∧
      (∀ k, (port s p).resend = [] → arbitrate s p = some k → retryBytes (port s p) + pktBytes k.pkt + 8 ≤ 131072 →
        ∃ t, exec (.packetTransmit p) s = .next t ∧ (port t p).nextSeq = (port s p).nextSeq + 1 ∧
          (port t p).retry = (port s p).retry ++ [{ k with seq := (port s p).nextSeq }] ∧
          (encrypted s p = false → Sent.packet p (port s p).nextSeq.toNat k.pkt none
            (trailerCrc (pktWire k.pkt) (port s p).nextSeq) ∈ t.sent) ∧ SameMemory s t) ∧
      ((port s p).resend = [] → arbitrate s p = none → exec (.packetTransmit p) s = .next s)))

/-- A route or fence is written through instance 0 and not through instance 1, and a route that is not valid is not written;
SWITCH makes the standby key the active one, unless a switch is in progress or there is none, and its last word installs a
standby key, written by a secure master (R310, R311, R318, R326). It rests on the model's choices in log entry 28. -/
def Obligations.Fabric_Registers : Prop :=
  ∀ (m : Master) (s : State),
    (∀ (v : BitVec 32) (i e : Nat), LetIn m (pgFrt 0) Reg.FRT_ROUTE s → i = rf s ((pgFrt 0).base + Reg.FRT_RSEL) 11 0 →
      e = v.toNat &&& 0x83E0FFFF →
      ((nbit e 31 = true → nfld e 25 21 ≠ 0 ∧ nfld e 15 0 ≠ 0) → (∀ p, p < 16 → atwinPorts s.fuses.grade ≤ p → nbit e p = false) →
        ∃ t, exec (.routeWrite m 0 v) s = .next t ∧ routeOf t i = e ∧ (∀ j, j ≠ i → routeOf t j = routeOf s j) ∧
          t.regs = s.regs ∧ SameMemory s t) ∧
      ((nbit e 31 = true ∧ (nfld e 25 21 = 0 ∨ nfld e 15 0 = 0)) ∨
          (∃ p, p < 16 ∧ atwinPorts s.fuses.grade ≤ p ∧ nbit e p = true) →
        ∃ t, exec (.routeWrite m 0 v) s = .next t ∧ t.routes = s.routes ∧ SameMemory s t)) ∧
    (∀ v : BitVec 32, LetIn m (pgFrt 1) Reg.FRT_ROUTE s → exec (.routeWrite m 1 v) s = .next s) ∧
    (∀ (j : Fin 128) (v : BitVec 32), LetIn m (pgFrt 0) (Reg.FRT_FENCE + 4 * j.val) s →
      ∃ t, exec (.fenceWrite m 0 j v) s = .next t ∧ (∀ b, b < 32 → fenced t (32 * j.val + b) = v.getLsbD b) ∧
        RegFrame [(pgFrt 0).base] s t ∧ SameMemory s t) ∧
    (∀ (j : Fin 128) (v : BitVec 32), LetIn m (pgFrt 1) (Reg.FRT_FENCE + 4 * j.val) s →
      exec (.fenceWrite m 1 j v) s = .next s) ∧
    (∀ p : PortNo, LetIn m (pgAtp p) Reg.ATP_KEY_CTRL s → Master.secure m = true →
      (∀ k : LinkKey, (port s p).switchSeq = none → (port s p).keyStandby = some k →
        ∃ t, exec (.switch m p) s = .next t ∧ (port t p).keyActive.map (·.key) = some k.key ∧ (port t p).keyStandby = none ∧
          rf t (atpReg p Reg.ATP_KEY_CTRL) 0 0 = 1 - rf s (atpReg p Reg.ATP_KEY_CTRL) 0 0 ∧
          rf t (atpReg p Reg.ATP_KEY_CTRL) 1 1 = 0 ∧ SameMemory s t) ∧
      ((port s p).switchSeq.isSome = true ∨ (port s p).keyStandby = none →
        ∃ t, exec (.switch m p) s = .next t ∧ t.ports = s.ports ∧ SameMemory s t)) ∧
    (∀ (p : PortNo) (v : BitVec 64), LetIn m (pgAtp p) (Reg.ATP_KEY_STANDBY + 24) s →
      (Master.secure m = true →
        ∃ t, exec (.keyStandbyWrite m p v) s = .next t ∧
          (port t p).keyStandby = some ⟨setFld (setFld (port s p).keyBuild 223 192 (v.toNat % 2 ^ 32)) 255 224
            (v.toNat / 2 ^ 32), (port s p).saltBuild, 0⟩ ∧
          rf t (atpReg p Reg.ATP_KEY_CTRL) 1 1 = 1 ∧ (port t p).keyActive = (port s p).keyActive ∧ SameMemory s t) ∧
      (Master.secure m = false → ∃ t, exec (.keyStandbyWrite m p v) s = .next t ∧ t.ports = s.ports ∧ SameMemory s t))

/-- A request that waits at a port is served, keeping its buffer space until its response is sent, and answered through the
portal, or turned away with its reason; while XLAT is not ON its access waits, and one of world S during a wipe (R274, R313
to R315, R321, R420). A local request takes the lowest free tag, under the tag's next generation, or completes at once with
the reason that refuses it (R314, R317, R326, R328). It rests on the model's choices in log entries 17, 28 and 45. -/
def Obligations.Fabric_Requests : Prop :=
  (∀ (p : PortNo) (h : RxPacket) (s s1 : State), rxHead s p .req = some h → s1 = rxServe p h s →
    (accessOn s h.pkt.world = false → (h.pkt.op = 1 → exec (.rd p) s = .next s) ∧ (h.pkt.op = 2 → exec (.wr p) s = .next s)) ∧
    (∀ v, portalVia s1 h.pkt = .ok v →
      (h.pkt.op = 1 → accessOn s h.pkt.world = true →
        (∀ d s2, virtRead v (leNat (h.pkt.payload.take 8) % 2 ^ 48) (fld h.pkt.arg 8 0 + 1) s1 = (.ok d, s2) →
          exec (.rd p) s = .next (respond h.pkt 1 0 d s2)) ∧
        (∀ e s2, virtRead v (leNat (h.pkt.payload.take 8) % 2 ^ 48) (fld h.pkt.arg 8 0 + 1) s1 = (.error e, s2) →
          exec (.rd p) s = .next (respondNack h.pkt (causeReason e.cause) s2))) ∧
      (h.pkt.op = 2 → accessOn s h.pkt.world = true →
        (∀ u s2, virtWrite v (leNat (h.pkt.payload.take 8) % 2 ^ 48) (h.pkt.payload.drop 8) s1 = (.ok u, s2) →
          exec (.wr p) s = .next (respond h.pkt 2 0 [] s2)) ∧
        (∀ e s2, virtWrite v (leNat (h.pkt.payload.take 8) % 2 ^ 48) (h.pkt.payload.drop 8) s1 = (.error e, s2) →
          exec (.wr p) s = .next (respondNack h.pkt (causeReason e.cause) s2))) ∧
      (h.pkt.op = 3 → exec (.ping p) s = .next (respond h.pkt 3 0 [] s1))) ∧
    (∀ r, portalVia s1 h.pkt = .error r →
      (h.pkt.op = 1 → accessOn s h.pkt.world = true → exec (.rd p) s = .next (respondNack h.pkt r s1)) ∧
      (h.pkt.op = 2 → accessOn s h.pkt.world = true → exec (.wr p) s = .next (respondNack h.pkt r s1)) ∧
      (h.pkt.op = 3 → exec (.ping p) s = .next (respondNack h.pkt r s1)))) ∧
  (∀ (n : Fin 2) (dst : BitVec 12) (w : Bool) (po : BitVec 3) (ep : BitVec 32) (r : ReqKind) (s : State), isOn s (pgFrt n) = true →
    (reqParts r).isSome = true →
    (fenced s dst.toNat = true → exec (.reqSend n dst w po ep r) s = .next (output (.requestDone 16384 0x13 []) s)) ∧
    (fenced s dst.toNat = false → dst.toNat ≠ devId s → routePorts s (routeOf s dst.toNat) = [] →
      ∃ t, exec (.reqSend n dst w po ep r) s = .next t ∧ t.sent.getLast? = some (.requestDone 16384 0x20 []) ∧
        rf t ((pgFrt n).base + Hdr.IRQ_STATUS) 18 18 = 1 ∧ SameMemory s t) ∧
    (fenced s dst.toNat = false → dst.toNat ≠ devId s → routePorts s (routeOf s dst.toNat) ≠ [] →
      nfld (routeOf s dst.toNat) 25 21 ≠ 1 →
      exec (.reqSend n dst w po ep r) s = .next (output (.requestDone 16384 0x22 []) s)) ∧
    (fenced s dst.toNat = false → (dst.toNat = devId s ∨
        (routePorts s (routeOf s dst.toNat) ≠ [] ∧ nfld (routeOf s dst.toNat) 25 21 = 1)) →
      (∀ k, freeTag s n = some k →
        ∃ t, exec (.reqSend n dst w po ep r) s = .next t ∧ tagOf t k = ⟨.outstanding, (tagOf s k).gen + 1⟩ ∧
          (∀ j, j ≠ k → tagOf t j = tagOf s j) ∧ SameMemory s t) ∧
      (freeTag s n = none → exec (.reqSend n dst w po ep r) s = .next s)))

/-! ### Gradient exchange and step commit -/

/-- The commands of a context's exchange: START reads its schedule and enters EXCHANGE for the next epoch, or for the same
epoch's next attempt after a rollback, and a schedule that fails rolls it back; ROLLBACK rolls back with cause 0x27; COMMIT
flips a READY_SENT follower; SET_EPOCH, a secure register, sets the committed and the working epoch; a command that is not
valid is recorded and ignored; what needs memory waits while XLAT is not ON (R11, R274, R350, R351, R353, R360). The
exchange's timers: the ring timeout and the wait timeout roll back with 0x22 and 0x0B; a follower that waits for its COMMIT
asks the next target; the quiet time ends a rollback; a low HALT_SHARE_N rolls back every context that shares halts and may
roll back, and no other (R340, R349, R350, R354, R357). It rests on the model's choices in log entries 17, 27, 29, 46 and
103. -/
def Obligations.Exchange_Commands_And_Timers : Prop :=
  (∀ (m : Master) (c : Ctx) (s : State),
    (LetIn m (pgXseq 0) (Reg.XSEQ_CTX_CMD + c.val * 0x80) s → isOn s (pgXseq 0) = true →
      (∀ e a, (xState s c = xIdle ∧ e = (ctxEpoch s c + 1) % 2 ^ 32 ∧ a = 0) ∨
          (xState s c = xRolledBack ∧ e = xEpoch s c ∧ a = (xc s c).attempt + 1) →
        (xlatOn s = false →
          ∃ t, exec (.xseqStart m c) s = .next t ∧ xState t c = xExchange ∧ xEpoch t c = e ∧ (xc t c).attempt = a ∧
            (xc t c).due = some .schedule ∧ SameMemory s t) ∧
        (∀ bad x s2, xlatOn s = true →
          loadSched c (regSet (xsReg c Reg.XSEQ_CTX_PROGRESS) 0 (xStateSet c xExchange (attemptSet c a (xEpochSet c e s)))) =
            (bad, x, s2) →
          (bad = none → (xc s c).pending = none →
            ∃ t, exec (.xseqStart m c) s = .next t ∧ xState t c = xExchange ∧ xEpoch t c = e ∧ xc t c = x ∧ x.attempt = a ∧
              Unwritten s t) ∧
          (∀ r g, bad = none → (xc s c).pending = some (r, g) →
            ∃ t, exec (.xseqStart m c) s = .next t ∧ xState t c = xRollback ∧ xEpoch t c = e ∧
              rf t (xsReg c Reg.XSEQ_CTX_ORIGIN) 7 0 = r % 256 ∧ Unwritten s t) ∧
          (∀ r i, bad = some (r, i) →
            ∃ t, exec (.xseqStart m c) s = .next t ∧ xState t c = xRollback ∧ xEpoch t c = e ∧ (xc t c).attempt = a ∧
              rf t (xsReg c Reg.XSEQ_CTX_ORIGIN) 7 0 = r % 256 ∧ Unwritten s t))) ∧
      (xState s c ≠ xIdle → xState s c ≠ xRolledBack → exec (.xseqStart m c) s = .next (recordError (pgXseq 0) 0x24 0 0 s)) ∧
      (xState s c ≠ xIdle → xState s c ≠ xRollback → xState s c ≠ xRolledBack →
        ∃ t, exec (.xseqRollback m c) s = .next t ∧ RolledBack c 0x27 s t ∧ SameMemory s t) ∧
      (xState s c = xIdle ∨ xState s c = xRollback ∨ xState s c = xRolledBack →
        exec (.xseqRollback m c) s = .next (recordError (pgXseq 0) 0x24 0 0 s)) ∧
      (xState s c = xReadySent → isLeader s c = false →
        (xlatOn s = true → ∃ t, exec (.xseqCommit m c) s = .next t ∧ Flipped c s t) ∧
        (xlatOn s = false → ∃ t, exec (.xseqCommit m c) s = .next t ∧ (xc t c).due = some .flip ∧ t.regs = s.regs ∧
          SameMemory s t)) ∧
      (¬ (xState s c = xReadySent ∧ isLeader s c = false) →
        exec (.xseqCommit m c) s = .next (recordError (pgXseq 0) 0x24 0 0 s))) ∧
    (∀ v : BitVec 32, LetIn m (pgXseq 0) (Reg.XSEQ_CTX_SET_EPOCH + c.val * 0x80) s →
      (Master.secure m = true →
        (xState s c = xIdle ∨ xState s c = xRolledBack →
          ∃ t, exec (.setEpoch m c v) s = .next t ∧ ctxEpoch t c = v.toNat ∧ xEpoch t c = (v.toNat + 1) % 2 ^ 32 ∧
            (xc t c).attempt = 0 ∧ xState t c = xState s c ∧ SameMemory s t) ∧
        (xState s c ≠ xIdle → xState s c ≠ xRolledBack →
          exec (.setEpoch m c v) s = .next (recordError (pgXseq 0) 0x24 0 0 s))) ∧
      (Master.secure m = false →
        ∃ t, exec (.setEpoch m c v) s = .next t ∧ ctxEpoch t c = ctxEpoch s c ∧ xEpoch t c = xEpoch s c ∧
          xState t c = xState s c ∧ SameMemory s t))) ∧
  ((∀ (c : Ctx) (s : State),
    (xState s c = xStatsSent ∨ (isLeader s c = true ∧ xState s c = xReadySent) ∨ (isLeader s c = false ∧ xState s c = xLocalDone) →
      rf s ((pgXseq 0).base + Reg.XSEQ_CONFIG) 31 16 ≠ 0 →
      ∃ t, exec (.ringTimeout c) s = .next t ∧ RolledBack c 0x22 s t ∧ SameMemory s t) ∧
    (rf s ((pgXseq 0).base + Reg.XSEQ_CONFIG) 31 16 = 0 ∨ xState s c = xIdle ∨ xState s c = xExchange ∨ xState s c = xWithheld ∨
        xState s c = xRollback ∨ xState s c = xRolledBack → exec (.ringTimeout c) s = .next s) ∧
    (xState s c = xReadySent → isLeader s c = false →
      (∀ s1 s2, s1 = xcMod c (fun x => { x with queryIdx := (x.queryIdx + 1) % 3 }) s →
        colSend c (if (xc s c).queryIdx % 3 = 0 then predecessor (xc s c) else if (xc s c).queryIdx % 3 = 1 then
          successor (xc s c) else ringMember (xc s c) 0) 8 0 0 [] s1 = (none, s2) →
        exec (.queryInterval c) s = .next s2) ∧
      (∃ t, exec (.queryInterval c) s = .next t ∧ xState t c = xState s c ∧ xEpoch t c = xEpoch s c ∧
        ctxEpoch t c = ctxEpoch s c ∧ SameMemory s t)) ∧
    (¬ (xState s c = xReadySent ∧ isLeader s c = false) → exec (.queryInterval c) s = .next s) ∧
    (xState s c = xRollback →
      ∃ t, exec (.quietExpiry c) s = .next t ∧ xState t c = xRolledBack ∧
        rf t ((pgXseq 0).base + Hdr.IRQ_STATUS) (16 + c) (16 + c) = 1 ∧ SameMemory s t) ∧
    (xState s c ≠ xRollback → exec (.quietExpiry c) s = .next s) ∧
    (rf s ((pgXseq 0).base + Reg.XSEQ_WAIT) 31 16 ≠ 0 → xState s c = xExchange →
      (∀ (i : Fin 4096) (o : XOp), xop s c i = some o →
        ((opSt s c i).started = true ∧ (opSt s c i).waited = false ∧ o.waitEn = true ∧ xToken s c o.waitCtr < o.waitCount) ∨
        (o.isSend = true ∧ (opSt s c i).completed = true ∧ (opSt s c i).confirmSent = false ∧ o.gateEn = true ∧
          xToken s c o.gate = 0) →
        ∃ t, exec (.xseqWaitTimeout c (some i)) s = .next t ∧ RolledBack c 0x0B s t ∧ SameMemory s t) ∧
      (opsDone s c = true → xToken s c (xc s c).doneCtr = 0 →
        ∃ t, exec (.xseqWaitTimeout c none) s = .next t ∧ RolledBack c 0x0B s t ∧ SameMemory s t)) ∧
    (∀ i : Option (Fin 4096), rf s ((pgXseq 0).base + Reg.XSEQ_WAIT) 31 16 = 0 ∨ xState s c ≠ xExchange →
      exec (.xseqWaitTimeout c i) s = .next s)) ∧
  (∀ s : State,
    (s.pins.haltShareLow = false →
      ∃ t, exec .haltShareN s = .next t ∧ SameMemory s t ∧ ∀ c, c < 8 →
        xState t c = (if rf s (xsReg c Reg.XSEQ_CTX_CTRL) 0 0 = 1 ∧ mayRollBack s c = true then xRollback else xState s c)) ∧
    (s.pins.haltShareLow = true → exec .haltShareN s = .next s)) ∧
  (∀ s : State, ∃ t, exec .haltShareNRelease s = .next t ∧ t.pins.haltShareLow = false ∧ t.regs = s.regs ∧ t.sent = s.sent ∧
    t.mem = s.mem))

/-- Ops of a running exchange: a SEND that has its credit sends its stream and END and completes; a RECV grants its buffer
once; an op that may not start, whose WAIT is not met, or that has no credit yet stays; SEND_CONFIRM goes when what it
depends on is confirmed and its gate has a token, which it takes; a failure rolls back with its cause; and when every op is
confirmed the context is done and begins its laps, a leader alone in its ring with the verdict at once (R181, R339, R341,
R345, R346, R348, R350). It rests on the model's choices in log entries 29 and 47. -/
def Obligations.Exchange_Ops : Prop :=
  ∀ (c : Ctx) (i : Fin 4096) (o : XOp) (s : State), xop s c i = some o → xState s c = xExchange → isOn s (pgXseq 0) = true →
    (o.isSend = true → (opSt s c i).completed = false → xlatOn s = true →
      (∀ s1, opGate c i o s = (false, s1) → exec (.send c i) s = .next s1) ∧
      (∀ s1, opGate c i o s = (true, s1) →
        ((opSt s1 c i).granted = false ∨ opWaits s1 o = true → exec (.send c i) s = .next s1) ∧
        ((opSt s1 c i).granted = true → opWaits s1 o = false →
          (∀ r s2, opRead c i o.main o.lenAddr 0 4 s1 = (.fail r, s2) →
            ∃ t, exec (.send c i) s = .next t ∧ RolledBack c r s t ∧ Unwritten s t) ∧
          (∀ d s2, opRead c i o.main o.lenAddr 0 4 s1 = (.ok d, s2) →
            (64 * (opSt s2 c i).credit < leNat d →
              ∃ t, exec (.send c i) s = .next t ∧ RolledBack c 0x21 s t ∧ Unwritten s t) ∧
            (leNat d ≤ 64 * (opSt s2 c i).credit →
              (∀ r s3, sendPieces c i o (leNat d) (leNat d / 512 + 1) 0 s2 = (some r, s3) →
                ∃ t, exec (.send c i) s = .next t ∧ RolledBack c r s t ∧ Unwritten s t) ∧
              (∀ s3, sendPieces c i o (leNat d) (leNat d / 512 + 1) 0 s2 = (none, s3) →
                (∀ r s4, colSend c o.peer 2 o.lbuf 0 (leBytes 4 (leNat d)) s3 = (some r, s4) →
                  ∃ t, exec (.send c i) s = .next t ∧ RolledBack c r s t ∧ Unwritten s t) ∧
                (∀ s4, colSend c o.peer 2 o.lbuf 0 (leBytes 4 (leNat d)) s3 = (none, s4) →
                  ∃ t, exec (.send c i) s = .next t ∧ (opSt t c i).completed = true ∧ xState t c = xExchange ∧
                    Unwritten s t))))))) ∧
    (o.isSend = true → (opSt s c i).completed = true ∨ xlatOn s = false → exec (.send c i) s = .next s) ∧
    (o.isSend = false → (opSt s c i).granted = false →
      (∀ s1, opGate c i o s = (false, s1) → exec (.recv c i) s = .next s1) ∧
      (∀ s1 s2, opGate c i o s = (true, s1) → colSend c o.peer 0x1F o.lbuf 0 (leBytes 4 (o.maxBytes / 64)) s1 = (none, s2) →
        ∃ t, exec (.recv c i) s = .next t ∧ (opSt t c i).granted = true ∧ xState t c = xExchange ∧ SameMemory s t) ∧
      (∀ r s1 s2, opGate c i o s = (true, s1) → colSend c o.peer 0x1F o.lbuf 0 (leBytes 4 (o.maxBytes / 64)) s1 = (some r, s2) →
        ∃ t, exec (.recv c i) s = .next t ∧ RolledBack c r s t ∧ SameMemory s t)) ∧
    (o.isSend = false → (opSt s c i).granted = true → exec (.recv c i) s = .next s) ∧
    (o.isSend = true → (opSt s c i).completed = true → (opSt s c i).confirmSent = false →
      (o.depends.all (fun d => d == 0xFFFF || opConfirmed s c d) = true → (o.gateEn = true → xToken s c o.gate ≠ 0) →
        ∀ s1, s1 = (if o.gateEn then xTokenSet c o.gate (xToken s c o.gate - 1) s else s) →
          (∀ s2, colSend c o.peer 3 o.lbuf 0 [] s1 = (none, s2) →
            ∃ t, exec (.sendConfirm c i) s = .next t ∧ (opSt t c i).confirmSent = true ∧ xState t c = xExchange ∧
              SameMemory s t) ∧
          (∀ r s2, colSend c o.peer 3 o.lbuf 0 [] s1 = (some r, s2) →
            ∃ t, exec (.sendConfirm c i) s = .next t ∧ RolledBack c r s t ∧ SameMemory s t)) ∧
      (o.depends.all (fun d => d == 0xFFFF || opConfirmed s c d) = false ∨ (o.gateEn = true ∧ xToken s c o.gate = 0) →
        exec (.sendConfirm c i) s = .next s)) ∧
    ((opSt s c i).completed = false ∨ (opSt s c i).confirmSent = true → exec (.sendConfirm c i) s = .next s) ∧
    (xlatOn s = false ∨ opsDone s c = false ∨ xToken s c (xc s c).doneCtr = 0 → exec (.locallyDone c) s = .next s) ∧
    (∀ s1, xlatOn s = true → opsDone s c = true → xToken s c (xc s c).doneCtr ≠ 0 → (xc s c).doneCtr < 32 →
      s1 = xTokenSet c (xc s c).doneCtr (xToken s c (xc s c).doneCtr - 1) s →
      (isLeader s c = false →
        exec (.locallyDone c) s = .next (statsAct c (xStateSet c xLocalDone s1)) ∧
        ((xc s c).statsLanded.length < lapPackets (xc s c) →
          ∃ t, exec (.locallyDone c) s = .next t ∧ xState t c = xLocalDone ∧ SameMemory s t ∧
            xToken t c (xc s c).doneCtr = xToken s c (xc s c).doneCtr - 1)) ∧
      (isLeader s c = true → 2 ≤ (xc s c).ring.length →
        (∀ s2, sendLap c 5 false ((xc s c).jw.map (ownRec s1)) (List.range (lapPackets (xc s c))) s1 = (none, s2) →
          exec (.locallyDone c) s = .next (statsAct c (xStateSet c xStatsSent s2)) ∧
          ((xc s c).statsLanded.length < lapPackets (xc s c) →
            ∃ t, exec (.locallyDone c) s = .next t ∧ xState t c = xStatsSent ∧ SameMemory s t)) ∧
        (∀ r s2, sendLap c 5 false ((xc s c).jw.map (ownRec s1)) (List.range (lapPackets (xc s c))) s1 = (some r, s2) →
          ∃ t, exec (.locallyDone c) s = .next t ∧ RolledBack c r s t ∧ SameMemory s t)) ∧
      (∀ able stuck s2, isLeader s c = true → (xc s c).ring.length < 2 →
        correctCtx c (loadSums ((xc s c).jw.map (ownRec s1)) (xStateSet c xStatsSent s1)) = (able, stuck, s2) →
        (stuck = true → ∃ t, exec (.locallyDone c) s = .next t ∧ xState t c = xWithheld ∧ SameMemory s t) ∧
        (stuck = false → able = true → ∃ t, exec (.locallyDone c) s = .next t ∧ RolledBack c 0x26 s t ∧ SameMemory s t) ∧
        (stuck = false → able = false → ∃ t, exec (.locallyDone c) s = .next t ∧ Flipped c s t)))

/-- Arriving packets: one that R335 absorbs or drops has no other effect, one of the next epoch flips a follower that has
sent READY first, and one whose access must wait stays; of those it lets through, DATA lands in the buffer its LBUF names,
END gives the length, and the RECV completes when its bytes are there; CONFIRM, CREDIT and the two laps are noted, and
REVOKE rolls back with its cause (R181, R274, R335, R339, R341, R344, R346). It rests on the model's choices in log entry
29. -/
def Obligations.Exchange_Arrivals : Prop :=
  ∀ (p : PortNo) (h : RxPacket) (c : Nat) (s s1 : State), rxHead s p .col = some h → c = h.pkt.portal.toNat →
    isOn s (pgXseq 0) = true → s1 = rxTake p .col s →
    (∀ x ∈ [(1, Instr.data p), (2, Instr.colEnd p), (3, Instr.confirm p), (4, Instr.revoke p), (5, Instr.stats p),
        (6, Instr.ready p), (7, Instr.commit p), (0x1F, Instr.colCredit p)],
      (h.pkt.op.toNat ≠ x.1 → exec x.2 s = .next s) ∧
      (h.pkt.op.toNat = x.1 → xlatOn s = false → colAccess x.1 = true ∨ colJudge s c h.pkt = .commitFirst →
        exec x.2 s = .next s) ∧
      (h.pkt.op.toNat = x.1 → (x.1 = 1 ∨ x.1 = 2) → landingWaits p x.1 s = true → exec x.2 s = .next s) ∧
      (h.pkt.op.toNat = x.1 → (colAccess x.1 = true → xlatOn s = true) → (x.1 = 1 ∨ x.1 = 2 → landingWaits p x.1 s = false) →
        (colJudge s1 c h.pkt = .absorb → exec x.2 s = .next s1) ∧
        (∀ cause, colJudge s1 c h.pkt = .drop cause → exec x.2 s = .next (colDrop h.pkt cause s1)) ∧
        (colJudge s1 c h.pkt = .commitFirst → xlatOn s = true →
          ∃ t, exec x.2 s = .next t ∧ ctxEpoch t c = xEpoch s c ∧ xEpoch t c = (xEpoch s c + 1) % 2 ^ 32))) ∧
    (colJudge s1 c h.pkt = .process →
      (h.pkt.op = 1 → xlatOn s = true → landingWaits p 1 s = false →
        (activeRecv s1 c h.pkt = none → exec (.data p) s = .next (colDrop h.pkt 4 s1)) ∧
        (∀ i o, activeRecv s1 c h.pkt = some (i, o) →
          (o.maxBytes < 512 * (fld h.pkt.arg 26 11 * 16384 + h.pkt.tag.toNat) + h.pkt.payload.length → mayRollBack s c = true →
            ∃ t, exec (.data p) s = .next t ∧ RolledBack c 0x21 s t ∧ SameMemory s t) ∧
          (512 * (fld h.pkt.arg 26 11 * 16384 + h.pkt.tag.toNat) + h.pkt.payload.length ≤ o.maxBytes →
            (∀ r s2, opWrite c i o.main o.addr (512 * (fld h.pkt.arg 26 11 * 16384 + h.pkt.tag.toNat)) h.pkt.payload s1 =
                (some r, s2) → mayRollBack s c = true →
              ∃ t, exec (.data p) s = .next t ∧ RolledBack c r s t ∧ t.mem = s2.mem ∧ t.cmem = s2.cmem) ∧
            (∀ s2, opWrite c i o.main o.addr (512 * (fld h.pkt.arg 26 11 * 16384 + h.pkt.tag.toNat)) h.pkt.payload s1 =
                (none, s2) →
              ((opSt s c i).length ≠ some ((opSt s c i).received + h.pkt.payload.length) →
                ∃ t, exec (.data p) s = .next t ∧ (opSt t c i).received = (opSt s c i).received + h.pkt.payload.length ∧
                  t.mem = s2.mem ∧ t.cmem = s2.cmem) ∧
              (∀ s3, (opSt s c i).length = some ((opSt s c i).received + h.pkt.payload.length) →
                opWrite c i o.main o.lenAddr 0 (leBytes 4 ((opSt s c i).received + h.pkt.payload.length))
                  (opMod c i (fun t => { t with received := t.received + h.pkt.payload.length }) s2) = (none, s3) →
                ∃ t, exec (.data p) s = .next t ∧ (opSt t c i).completed = true ∧ t.mem = s3.mem ∧ t.cmem = s3.cmem))))) ∧
      (h.pkt.op = 2 → xlatOn s = true → landingWaits p 2 s = false →
        (activeRecv s1 c h.pkt = none → exec (.colEnd p) s = .next (colDrop h.pkt 4 s1)) ∧
        (∀ i o, activeRecv s1 c h.pkt = some (i, o) →
          (leNat h.pkt.payload ≠ (opSt s c i).received →
            ∃ t, exec (.colEnd p) s = .next t ∧ (opSt t c i).length = some (leNat h.pkt.payload) ∧ SameMemory s t) ∧
          (∀ s3, leNat h.pkt.payload = (opSt s c i).received →
            opWrite c i o.main o.lenAddr 0 (leBytes 4 (opSt s c i).received)
              (opMod c i (fun t => { t with length := some (leNat h.pkt.payload) }) s1) = (none, s3) →
            ∃ t, exec (.colEnd p) s = .next t ∧ (opSt t c i).completed = true ∧ t.mem = s3.mem ∧ t.cmem = s3.cmem))) ∧
      (h.pkt.op = 3 →
        (∀ i o, findOp s1 c (fun o t => !o.isSend && o.lbuf == pktLbuf h.pkt && o.peer == h.pkt.src.toNat &&
            !t.confirmGot) = some (i, o) →
          ∃ t, exec (.confirm p) s = .next t ∧ (opSt t c i).confirmGot = true ∧ SameMemory s t) ∧
        (findOp s1 c (fun o t => !o.isSend && o.lbuf == pktLbuf h.pkt && o.peer == h.pkt.src.toNat && !t.confirmGot) = none →
          exec (.confirm p) s = .next s1)) ∧
      (h.pkt.op = 4 → ∃ t, exec (.revoke p) s = .next t ∧ xState t c = xRollback ∧
        rf t (xsReg c Reg.XSEQ_CTX_ORIGIN) 7 0 = nfld (leNat h.pkt.payload) 23 16 ∧
        rf t (xsReg c Reg.XSEQ_CTX_ORIGIN) 23 12 = nfld (leNat h.pkt.payload) 11 0 ∧ SameMemory s t) ∧
      (∀ j, j = fld h.pkt.arg 26 11 → xlatOn s = true →
        (lapPackets (xc s c) ≤ j →
          (h.pkt.op = 5 → exec (.stats p) s = .next (colDrop h.pkt 5 s1)) ∧
          (h.pkt.op = 6 → exec (.ready p) s = .next (colDrop h.pkt 5 s1))) ∧
        (∀ u s2 l, h.pkt.op = 5 → j < lapPackets (xc s c) →
          l = (if (xc s c).statsLanded.contains j then (xc s c).statsLanded else (xc s c).statsLanded ++ [j]) →
          virtWrite (viaCtx s1 c) ((xc s c).commitVa + 512 * j) h.pkt.payload s1 = (.ok u, s2) →
          exec (.stats p) s = .next (statsAct c (xcMod c (fun x => { x with statsLanded := l }) s2)) ∧
          (l.length < lapPackets (xc s c) →
            ∃ t, exec (.stats p) s = .next t ∧ (xc t c).statsLanded = l ∧ t.mem = s2.mem ∧ t.cmem = s2.cmem)) ∧
        (∀ u s2 l, h.pkt.op = 6 → j < lapPackets (xc s c) →
          l = (if (xc s c).readyLanded.contains j then (xc s c).readyLanded else (xc s c).readyLanded ++ [j]) →
          virtWrite (viaCtx s1 c) ((xc s c).commitVa + 512 * (lapPackets (xc s c) + j)) h.pkt.payload s1 = (.ok u, s2) →
          exec (.ready p) s = .next (readyAct c (xcMod c (fun x => { x with
            readyLanded := l, verdict := x.verdict || bit h.pkt.arg 0 }) s2)) ∧
          (l.length < lapPackets (xc s c) →
            ∃ t, exec (.ready p) s = .next t ∧ (xc t c).readyLanded = l ∧
              (xc t c).verdict = ((xc s c).verdict || bit h.pkt.arg 0) ∧ t.mem = s2.mem ∧ t.cmem = s2.cmem)) ∧
        (∀ e s2, j < lapPackets (xc s c) → mayRollBack s c = true →
          (h.pkt.op = 5 → virtWrite (viaCtx s1 c) ((xc s c).commitVa + 512 * j) h.pkt.payload s1 = (.error e, s2) →
            ∃ t, exec (.stats p) s = .next t ∧ RolledBack c (causeReason e.cause) s t) ∧
          (h.pkt.op = 6 →
            virtWrite (viaCtx s1 c) ((xc s c).commitVa + 512 * (lapPackets (xc s c) + j)) h.pkt.payload s1 = (.error e, s2) →
            ∃ t, exec (.ready p) s = .next t ∧ RolledBack c (causeReason e.cause) s t))) ∧
      (h.pkt.op = 0x1F →
        (∀ i o, findOp s1 c (fun o t => o.isSend && o.peer == h.pkt.src.toNat && o.lbuf == pktLbuf h.pkt &&
            !t.granted) = some (i, o) →
          ∃ t, exec (.colCredit p) s = .next t ∧ (opSt t c i).granted = true ∧ (opSt t c i).credit = leNat h.pkt.payload ∧
            t.regs = s.regs ∧ SameMemory s t) ∧
        (findOp s1 c (fun o t => o.isSend && o.peer == h.pkt.src.toNat && o.lbuf == pktLbuf h.pkt && !t.granted) = none →
          exec (.colCredit p) s = .next s1)))

/-- The commit. A complete STATS message whose records follow the receiver's list makes a follower that is done add its own
parts and pass it on; a complete READY message makes the leader take its verdict, and a follower pass it on; another list
rolls back with 0x20. A COMMIT, or an ANSWER that the step is committed, flips a follower that has sent READY to its working
epoch, while XLAT is not ON once it is; an ANSWER that the attempt is rolled back rolls it back, and any other leaves it; a
QUERY is answered by R354 (R274, R348, R350, R352, R353, R354). It rests on the model's choices in log entry 29. -/
def Obligations.Step_Commit : Prop :=
  (∀ (c : Nat) (s : State), c < 8 →
    (∀ rs s2, lapPackets (xc s c) ≤ (xc s c).statsLanded.length → xState s c = (if isLeader s c then xStatsSent else xLocalDone) →
      readLap c 0 (List.range (lapPackets (xc s c))) s = (.ok rs, s2) →
      (lapMatches (xc s c) rs = false → RolledBack c 0x20 s (statsAct c s) ∧ Unwritten s (statsAct c s)) ∧
      (∀ s3, lapMatches (xc s c) rs = true → isLeader s c = false →
        sendLap c 5 false (List.zipWith LapRec.add rs ((xc s c).jw.map (ownRec s2))) (List.range (lapPackets (xc s c))) s2 =
          (none, s3) → (xc s c).readyLanded.length < lapPackets (xc s c) →
        xState (statsAct c s) c = xStatsSent ∧ Unwritten s (statsAct c s))) ∧
    (∀ rs s2, lapPackets (xc s c) ≤ (xc s c).readyLanded.length → xState s c = (if isLeader s c then xReadySent else xStatsSent) →
      readLap c (lapPackets (xc s c)) (List.range (lapPackets (xc s c))) s = (.ok rs, s2) →
      (lapMatches (xc s c) rs = false →
        RolledBack c 0x20 s (readyAct c s) ∧ Unwritten s (readyAct c s)) ∧
      (lapMatches (xc s c) rs = true → isLeader s c = true → xlatOn s = true →
        ((xc s c).verdict = true → RolledBack c 0x26 s (readyAct c s) ∧ Unwritten s (readyAct c s)) ∧
        ((xc s c).verdict = false → Flipped c s (readyAct c s))) ∧
      (∀ able s3 s4, lapMatches (xc s c) rs = true → isLeader s c = false → 2 ≤ (xc s c).ring.length →
        correctCtx c (loadSums rs s2) = (able, false, s3) →
        sendLap c 6 ((xc s c).verdict || able) rs (List.range (lapPackets (xc s c))) s3 = (none, s4) →
        xState (readyAct c s) c = xReadySent ∧ Unwritten s (readyAct c s)))) ∧
  (∀ (p : PortNo) (h : RxPacket) (c : Nat) (s s1 : State), rxHead s p .col = some h → c = h.pkt.portal.toNat →
    isOn s (pgXseq 0) = true → s1 = rxTake p .col s →
    (h.pkt.op = 7 → colJudge s1 c h.pkt = .process →
      (xState s c = xReadySent → isLeader s c = false →
        (xlatOn s = true → ∃ t, exec (.commit p) s = .next t ∧ Flipped c s t) ∧
        (xlatOn s = false → ∃ t, exec (.commit p) s = .next t ∧ (xc t c).due = some .flip ∧ t.regs = s.regs ∧
          SameMemory s t)) ∧
      (¬ (xState s c = xReadySent ∧ isLeader s c = false) → exec (.commit p) s = .next s1)) ∧
    (h.pkt.op = 9 →
      (xState s c = xReadySent → isLeader s c = false → h.pkt.epoch.toNat = xEpoch s c →
        (fld h.pkt.arg 1 0 = 0 →
          (xlatOn s = true → ∃ t, exec (.answer p) s = .next t ∧ Flipped c s t) ∧
          (xlatOn s = false → ∃ t, exec (.answer p) s = .next t ∧ (xc t c).due = some .flip ∧ SameMemory s t)) ∧
        (fld h.pkt.arg 1 0 = 1 → h.pkt.gen.toNat = (xc s c).attempt % 16 →
          ∃ t, exec (.answer p) s = .next t ∧ xState t c = xRollback ∧ ctxEpoch t c = ctxEpoch s c ∧ SameMemory s t)) ∧
      (xState s c ≠ xReadySent ∨ isLeader s c = true ∨ h.pkt.epoch.toNat ≠ xEpoch s c ∨ fld h.pkt.arg 1 0 = 2 ∨
          fld h.pkt.arg 1 0 = 3 ∨ (fld h.pkt.arg 1 0 = 1 ∧ h.pkt.gen.toNat ≠ (xc s c).attempt % 16) →
        ∃ t, exec (.answer p) s = .next t ∧ t.xseq = s.xseq ∧ xState t c = xState s c ∧ xEpoch t c = xEpoch s c ∧
          ctxEpoch t c = ctxEpoch s c ∧ SameMemory s t)) ∧
    (h.pkt.op = 8 → exec (.query p) s = .next (inject (colPkt s1 c h.pkt.src.toNat 9
      (answerCode s1 c h.pkt.epoch.toNat h.pkt.gen.toNat) h.pkt.epoch.toNat h.pkt.gen.toNat 0 []) s1).2) ∧
    (h.pkt.op ≠ 8 → exec (.query p) s = .next s) ∧ (h.pkt.op ≠ 9 → exec (.answer p) s = .next s))

/-! ### The host attachment -/

/-- A port that is UP answers ARP, neighbour discovery and echo for its own addresses, and discards and counts every other
such frame; it takes PFC on PFC_PRIO with PFC_EN, and no other, and a resumed port sends what it held back; a port that is
not UP takes no frame (R362). A link that goes DOWN says so and starts HOLD_MS; once it has passed the port's queue pairs
enter ERROR; a link that returns is UP in the mode that SPEED chooses (R361, R381). It rests on the model's choices in log
entries 59, 78 and 106. -/
def Obligations.Host_Frames_And_Link : Prop :=
  (∀ (e : EthNo) (s : State) (o : Host.Outcome State Fault Refusal), ethUp s e = true →
    (∀ (ip snd : BitVec 32), ip.toNat = hepIpv4 s e → ∃ t, exec (.arpRequest e ip snd) s = .next t ∧
      t.sent = s.sent ++ [.arpReply e (hepMac s e) ip.toNat snd.toNat] ∧ t.regs = s.regs ∧ SameMemory s t) ∧
    (∀ (ip snd : BitVec 128), ip.toNat = hepIpv6 s e → ∃ t, exec (.neighbourSolicitation e ip snd) s = .next t ∧
      t.sent = s.sent ++ [.ndReply e (hepMac s e) ip.toNat snd.toNat] ∧ t.regs = s.regs ∧ SameMemory s t) ∧
    (∀ (v6 : Bool) (ip snd : BitVec 128) (body : List Byte), ip.toNat = (if v6 then hepIpv6 s e else hepIpv4 s e) →
      body.length + (if v6 then 66 else 46) ≤ 9216 →
      ∃ t, exec (.echoRequest e v6 ip snd body) s = .next t ∧ t.sent = s.sent ++ [.echoReply e snd.toNat body] ∧
        t.regs = s.regs ∧ SameMemory s t) ∧
    ((∃ ip snd : BitVec 32, ip.toNat ≠ hepIpv4 s e ∧ o = exec (.arpRequest e ip snd) s) ∨
      (∃ ip snd : BitVec 128, ip.toNat ≠ hepIpv6 s e ∧ o = exec (.neighbourSolicitation e ip snd) s) ∨
      (∃ (v6 : Bool) (ip snd : BitVec 128) (body : List Byte), (ip.toNat ≠ (if v6 then hepIpv6 s e else hepIpv4 s e) ∨
        9216 < body.length + (if v6 then 66 else 46)) ∧
        o = exec (.echoRequest e v6 ip snd body) s) ∨ o = exec (.otherFrame e) s →
      ∃ t, o = .next t ∧ t.sent = s.sent ∧ RegsBut [hepReg e Reg.HEP_RX_OTHER] s t ∧ SameMemory s t ∧
        rf t (hepReg e Reg.HEP_RX_OTHER) 31 0 = min (2 ^ 32 - 1) (rf s (hepReg e Reg.HEP_RX_OTHER) 31 0 + 1)) ∧
    (∀ (prio : Fin 8) (pause : Bool),
      (rf s (hepReg e Reg.HEP_PORT_CONFIG) 3 3 = 1 → rf s (hepReg e Reg.HEP_PORT_CONFIG) 6 4 = prio.val →
        ∃ t, exec (.priorityFlowControl e prio pause) s = .next t ∧ t.paused.contains (e.val, prio.val) = pause ∧
          (∀ x, x ≠ (e.val, prio.val) → t.paused.contains x = s.paused.contains x) ∧ t.regs = s.regs ∧
          (pause = true → t.sent = s.sent ∧ t.heldTx = s.heldTx) ∧
          (pause = false → t.sent = s.sent ++ (s.heldTx.filter (fun x => x.1 == e.val)).map (·.2) ∧
            t.heldTx = s.heldTx.filter (fun x => x.1 != e.val)) ∧
          SameMemory s t) ∧
      (rf s (hepReg e Reg.HEP_PORT_CONFIG) 3 3 ≠ 1 ∨ rf s (hepReg e Reg.HEP_PORT_CONFIG) 6 4 ≠ prio.val →
        exec (.priorityFlowControl e prio pause) s = .next s))) ∧
  (∀ (e : EthNo) (s : State), ethUp s e = false →
    (∀ ip snd, exec (.arpRequest e ip snd) s = .next s) ∧ (∀ ip snd, exec (.neighbourSolicitation e ip snd) s = .next s) ∧
    (∀ v6 ip snd body, exec (.echoRequest e v6 ip snd body) s = .next s) ∧ exec (.otherFrame e) s = .next s ∧
    (∀ prio pause, exec (.priorityFlowControl e prio pause) s = .next s)) ∧
  (∀ (e : EthNo) (s : State),
    (ethLink s e ≠ 0 → ∃ t, exec (.ethernetLinkDown e) s = .next t ∧ ethLink t e = 0 ∧
      tget? t.linkDownAt e = some (msNow s) ∧ rf t ((pgHep e).base + Hdr.IRQ_STATUS) 16 16 = 1 ∧
      t.heldTx = s.heldTx.filter (fun x => x.1 != e.val) ∧ RegFrame [(pgHep e).base, (pgHep 0).base] s t ∧ SameMemory s t) ∧
    (ethLink s e = 0 → exec (.ethernetLinkDown e) s = .next s) ∧
    (ethLink s e ≠ 2 → holdPassed s e = true → ∃ t, exec (.portHoldExpiry e) s = .next t ∧
      (∀ q, (qp s q).port = e.val → (qp s q).state = .rts ∨ (qp s q).state = .connecting → (qp t q).state = .error) ∧
      (∀ q, (∀ x, (q, x) ∈ s.qps → x.port ≠ e.val) → (qp t q).state = (qp s q).state) ∧ SameMemory s t) ∧
    (ethLink s e = 2 ∨ holdPassed s e = false → exec (.portHoldExpiry e) s = .next s) ∧
    (∀ mode : Fin 3,
      (isOn s (pgHep e) = true → ethLink s e ≠ 2 → ∃ t, exec (.linkReturn e mode) s = .next t ∧ ethLink t e = 2 ∧
        rf t (hepReg e Reg.HEP_PORT_STATUS) 3 2 = (if rf s (hepReg e Reg.HEP_PORT_CONFIG) 1 0 = 3 then mode.val
          else rf s (hepReg e Reg.HEP_PORT_CONFIG) 1 0) ∧ rf t ((pgHep e).base + Hdr.IRQ_STATUS) 16 16 = 1 ∧
        tget? t.linkDownAt e = none ∧ RegFrame [(pgHep e).base, (pgHep 0).base] s t ∧ SameMemory s t) ∧
      (isOn s (pgHep e) = false ∨ ethLink s e = 2 → exec (.linkReturn e mode) s = .next s)))

/-- A REQ that is in order takes the lowest free queue pair and is answered with REP; any other is rejected; RTU makes the
pair ready to send; DREQ and RDMA_QP_CMD RESET free it and unbind it; RDMA_QP_CMD ERROR moves it to ERROR; the pairs,
shared, change through instance 0 only (R267, R364, R368, R384; log entry 62). It rests on the model's choices in log
entries 5 and 62. -/
def Obligations.Host_Connections : Prop :=
  (∀ (e : EthNo) (r : CmReq) (s : State),
    (rdmaUp s e = false → exec (.cmReq e r) s = .next s) ∧
    (rdmaUp s e = true →
      (∀ q, freeQp s = some q → fld r.ctxByte 7 3 = 0 → r.roleByte.toNat ≤ 1 → ctxSecure s (fld r.ctxByte 2 0) = false →
        ∃ t, exec (.cmReq e r) s = .next t ∧ (qp t q).state = .connecting ∧ (qp t q).ctx = fld r.ctxByte 2 0 ∧
          (qp t q).control = decide (r.roleByte.toNat = 1) ∧ (qp t q).port = e.val ∧ (qp t q).peer = r.peerQpn ∧
          (qp t q).mtu = 1024 * 2 ^ r.mtu.val ∧ (qp t q).rate = 64 ∧ SentOrHeld e [.cmRep e (0x400 + q)] s t ∧
          (∀ k, k ≠ q → qp t k = qp s k) ∧ t.regs = s.regs ∧ SameMemory s t) ∧
      (freeQp s = none ∨ fld r.ctxByte 7 3 ≠ 0 ∨ 1 < r.roleByte.toNat ∨ ctxSecure s (fld r.ctxByte 2 0) = true →
        ∃ t, exec (.cmReq e r) s = .next t ∧ SentOrHeld e [.cmRej e] s t ∧ t.qps = s.qps ∧ t.regs = s.regs ∧
          SameMemory s t))) ∧
  (∀ (q : Fin 1024) (s : State),
    (rdmaUp s (qp s q).port = true →
      ((qp s q).state = .connecting → ∃ t, exec (.cmRtu q) s = .next t ∧ (qp t q).state = .rts ∧
        (∀ k, k ≠ q.val → qp t k = qp s k) ∧ t.regs = s.regs ∧ t.sent = s.sent ∧ SameMemory s t) ∧
      ((qp s q).state ≠ .connecting → exec (.cmRtu q) s = .next s) ∧
      ((qp s q).state ≠ .reset → ∃ t, exec (.cmDreq q) s = .next t ∧ t.qps = tdel s.qps q ∧
        SentOrHeld (qp s q).port [.cmDrep (0x400 + q.val)] s t ∧
        (∀ c, c < 8 → rf s (bindReg c) 31 31 = 1 → rf s (bindReg c) 9 0 = q.val → regGet t (bindReg c) = 0) ∧
        RegsBut ((List.range 8).map bindReg) s t ∧ SameMemory s t) ∧
      ((qp s q).state = .reset → exec (.cmDreq q) s = .next s)) ∧
    (rdmaUp s (qp s q).port = false → exec (.cmRtu q) s = .next s ∧ exec (.cmDreq q) s = .next s)) ∧
  (∀ (m : Master) (q : Nat) (s : State), LetIn m (pgRdma 0) Reg.RDMA_QP_CMD s →
    q = rf s ((pgRdma 0).base + Reg.RDMA_QSEL) 9 0 →
    (∃ t, exec (.qpReset m 0) s = .next t ∧ t.qps = tdel s.qps q ∧
      (∀ c, c < 8 → rf s (bindReg c) 31 31 = 1 → rf s (bindReg c) 9 0 = q → regGet t (bindReg c) = 0) ∧
      RegsBut ((List.range 8).map bindReg) s t ∧ SameMemory s t) ∧
    ((qp s q).state ≠ .reset → ∃ t, exec (.qpError m 0) s = .next t ∧ (qp t q).state = .error ∧
      (∀ k, k ≠ q → qp t k = qp s k) ∧ t.regs = s.regs ∧ SameMemory s t) ∧
    ((qp s q).state = .reset → exec (.qpError m 0) s = .next s)) ∧
  (∀ (m : Master) (s : State), LetIn m (pgRdma 1) Reg.RDMA_QP_CMD s →
    exec (.qpReset m 1) s = .next s ∧ exec (.qpError m 1) s = .next s)

/-- An RDMA WRITE whose lines are all written is acknowledged; a READ answers its data; a wrong R_Key, or a line that fails,
is NAKed and the pair enters ERROR, with nothing written for the wrong key; both wait while XLAT is not ON, or behind what
waits (R274, R365, R372). A CNP halves the rate, a period without one raises it, and a packet marked Congestion Experienced
is answered with a CNP (R367); SENDs are sent again on a timeout, up to seven times, and on an RNR NAK (R368); acknowledged
SENDs and their messages leave (R368, R377); an unsupported packet is NAKed or counted (R363); a pair in ERROR NAKs whatever
arrives, and one that is not ready takes nothing (R368). It rests on the model's choices in log entries 17, 55, 56, 57 and
58. -/
def Obligations.Rdma_Operations : Prop :=
  (∀ (q : Fin 1024) (x : Qp) (s : State) (ecn : Bool) (s0 : State), x = qp s q → rdmaUp s x.port = true → x.state = .rts →
    s0 = afterEcn q ecn s →
    (∀ (psn : BitVec 24) (va : BitVec 64) (key : BitVec 32) (lost : List Nat) (d : List Byte) (s1 : State),
      s1 = tallyPort x.port 0x0100 d.length q s0 →
      (qpWaits s q = true ∨ (rdmaDenied s va.toNat key.toNat = none ∧ xlatOn s = false) →
        exec (.rdmaWrite q psn va key ecn lost d) s = .next (waitHost q (.write psn.toNat va.toNat key.toNat ecn lost d) s1)) ∧
      (qpWaits s q = false →
        (∀ e, rdmaDenied s va.toNat key.toNat = some e →
          ∃ t, exec (.rdmaWrite q psn va key ecn lost d) s = .next t ∧ (qp t q).state = .error ∧
            AmongSent x.port (.rdmaNak q psn.toNat e.1) s t ∧ e.1 = nakAccess ∧ SameMemory s t) ∧
        (rdmaDenied s va.toNat key.toNat = none → xlatOn s = true →
          (∀ s2, rdmaPieces (viaQp s1 x) lost va.toNat (pieces va.toNat d.length) d s1 = (none, s2) →
            ∃ t, exec (.rdmaWrite q psn va key ecn lost d) s = .next t ∧ SentOrHeld x.port [.rdmaAck q psn.toNat] s2 t ∧
              t.mem = s2.mem ∧ t.cmem = s2.cmem) ∧
          (∀ e s2, rdmaPieces (viaQp s1 x) lost va.toNat (pieces va.toNat d.length) d s1 = (some e, s2) →
            ∃ t, exec (.rdmaWrite q psn va key ecn lost d) s = .next t ∧ (qp t q).state = .error ∧
              AmongSent x.port (.rdmaNak q psn.toNat e.1) s t ∧ t.mem = s2.mem ∧ t.cmem = s2.cmem)))) ∧
    (∀ (psn : BitVec 24) (va : BitVec 64) (key len : BitVec 32),
      (qpWaits s q = true ∨ (rdmaDenied s va.toNat key.toNat = none ∧ xlatOn s = false) →
        exec (.rdmaRead q psn va key ⟨len, ecn⟩) s = .next (waitHost q (.read psn.toNat va.toNat key.toNat len.toNat ecn) s0)) ∧
      (qpWaits s q = false →
        (∀ e, rdmaDenied s va.toNat key.toNat = some e →
          ∃ t, exec (.rdmaRead q psn va key ⟨len, ecn⟩) s = .next t ∧ (qp t q).state = .error ∧
            AmongSent x.port (.rdmaNak q psn.toNat e.1) s t ∧ e.1 = nakAccess ∧ SameMemory s t) ∧
        (rdmaDenied s va.toNat key.toNat = none → xlatOn s = true →
          (∀ d s2, virtRead (viaQp s0 x) va.toNat len.toNat s0 = (.ok d, s2) →
            ∃ t, exec (.rdmaRead q psn va key ⟨len, ecn⟩) s = .next t ∧ SentOrHeld x.port [.rdmaData q psn.toNat d] s2 t ∧
              Unwritten s t) ∧
          (∀ e s2, virtRead (viaQp s0 x) va.toNat len.toNat s0 = (.error e, s2) →
            ∃ t, exec (.rdmaRead q psn va key ⟨len, ecn⟩) s = .next t ∧ (qp t q).state = .error ∧
              AmongSent x.port (.rdmaNak q psn.toNat (rdmaAnswer e.cause).1) s t ∧ Unwritten s t)))) ∧
    (∃ t, exec (.cnp q) s = .next t ∧ (qp t q).rate = max (rf s (ccReg s q) 7 0) (x.rate / 2) ∧ t.regs = s.regs ∧
      (∀ k, k ≠ q.val → qp t k = qp s k) ∧ SameMemory s t) ∧
    (∀ us : Nat, ∃ t, exec (.rnrNak q ⟨us, ecn⟩) s = .next t ∧ SentOrHeld x.port (x.unacked.map (fun u => u.2.2)) s0 t ∧
      t.qps = s0.qps ∧ t.regs = s0.regs ∧ SameMemory s t) ∧
    (∀ psn : BitVec 24,
      (ackedBy x psn.toNat = [] → exec (.transportAck ⟨q, psn, ecn⟩) s = .next s0) ∧
      (ackedBy x psn.toNat ≠ [] → ∃ t, exec (.transportAck ⟨q, psn, ecn⟩) s = .next t ∧ (qp t q).retries = 0 ∧
        (qp t q).unacked = x.unacked.drop (ackedBy x psn.toNat).length ∧
        (∀ c, (tget t.queues HostQueue.empty c).msgs = (tget s.queues HostQueue.empty c).msgs.filter (fun m =>
          !(m.sentOn == some q.val && (ackedBy x psn.toNat).any (fun e => e.2.1 == m.psn)))) ∧
        t.regs = s0.regs ∧ t.sent = s0.sent ∧ SameMemory s t)) ∧
    (∀ (e : EthNo) (psn : BitVec 24), rdmaUp s e = true →
      ∃ t, exec (.unsupportedPacket e (some q) ⟨psn, ecn⟩) s = .next t ∧
        SentOrHeld x.port [.rdmaNak q psn.toNat nakInvalid] s0 t ∧ t.qps = s0.qps ∧ SameMemory s t)) ∧
  (∀ (q : Fin 1024) (x : Qp) (s : State), x = qp s q →
    (x.state = .rts →
      (∃ t, exec (.ccPeriod q) s = .next t ∧ (qp t q).rate = min 64 (x.rate + rf s (ccReg s q) 15 8) ∧ t.regs = s.regs ∧
        (∀ k, k ≠ q.val → qp t k = qp s k) ∧ SameMemory s t) ∧
      (x.unacked ≠ [] →
        (x.retries < 7 → ∃ t, exec (.ackTimeout q) s = .next t ∧ (qp t q).retries = x.retries + 1 ∧ (qp t q).state = .rts ∧
          SentOrHeld x.port (x.unacked.map (fun u => u.2.2)) s t ∧ t.regs = s.regs ∧ SameMemory s t) ∧
        (7 ≤ x.retries → ∃ t, exec (.ackTimeout q) s = .next t ∧ (qp t q).state = .error ∧
          rf t ((pgHep x.port).base + Hdr.IRQ_STATUS) 17 17 = 1 ∧ SameMemory s t))) ∧
    (x.state ≠ .rts → exec (.ccPeriod q) s = .next s) ∧
    (x.state ≠ .rts ∨ x.unacked = [] → exec (.ackTimeout q) s = .next s) ∧
    (∀ (psn : BitVec 24) (va : BitVec 64) (key len : BitVec 32) (ecn : Bool) (lost : List Nat) (d : List Byte) (us : Nat)
        (h : MsgHdr),
      (x.state = .error → rdmaUp s x.port = true →
        (∀ i ∈ [Instr.rdmaWrite q psn va key ecn lost d, .rdmaRead q psn va key ⟨len, ecn⟩, .transportAck ⟨q, psn, ecn⟩],
          exec i s = .next (sendNak q psn.toNat nakInvalid s)) ∧
        (∀ i ∈ [Instr.cnp q, .rnrNak q ⟨us, ecn⟩, .jobLoad q h d, .doorbell q h d, .bind q h d, .regAccess q h d, .memWrite q h d,
            .memRead q h d, .nop q h d],
          ∃ v t, exec i s = .next t ∧ SentOrHeld x.port [.rdmaNak q v nakInvalid] s t ∧ t.qps = s.qps ∧ SameMemory s t)) ∧
      (x.state = .reset ∨ x.state = .connecting ∨ (rdmaUp s x.port = false ∧ x.state ≠ .error) →
        ∀ i ∈ [Instr.rdmaWrite q psn va key ecn lost d, .rdmaRead q psn va key ⟨len, ecn⟩, .transportAck ⟨q, psn, ecn⟩, .cnp q,
            .rnrNak q ⟨us, ecn⟩, .jobLoad q h d, .doorbell q h d, .bind q h d, .regAccess q h d, .memWrite q h d, .memRead q h d,
            .nop q h d], exec i s = .next s))) ∧
  (∀ (e : EthNo) (q : Option (Fin 1024)) (psn : BitVec 24) (ecn : Bool) (s : State),
    (rdmaUp s e = false → exec (.unsupportedPacket e q ⟨psn, ecn⟩) s = .next s) ∧
    (∀ k, rdmaUp s e = true → q = some k → (qp s k).state = .error →
      exec (.unsupportedPacket e q ⟨psn, ecn⟩) s = .next (sendNak k psn.toNat nakInvalid s)) ∧
    (rdmaUp s e = true → (∀ k, q = some k → (qp s k).state = .reset ∨ (qp s k).state = .connecting) →
      ∃ t, exec (.unsupportedPacket e q ⟨psn, ecn⟩) s = .next t ∧ t.sent = s.sent ∧ t.qps = s.qps ∧
        rf t ((pgRdma e).base + Reg.RDMA_UNSUPPORTED) 31 0 =
          min (2 ^ 32 - 1) (rf s ((pgRdma e).base + Reg.RDMA_UNSUPPORTED) 31 0 + 1) ∧ SameMemory s t))

/-- A request on a ready queue pair that passes its checks runs and is answered by a RESP with its status; a request that
does not fit its type is answered MSG_INVALID, one for another context WORLD_DENIED, and neither runs (R369 to R376). A
message waits behind what waits on its pair, and a JOB_LOAD that reads a table while XLAT is not ON; one that finds the 64
receive buffers held receives an RNR NAK (R274, R372). BIND makes the pair the context's control QP and sends its queue
again (R380). It rests on the model's choices in log entries 17, 67, 68, 77 and 108. -/
def Obligations.Host_Requests : Prop :=
  ∀ (q : Fin 1024) (x : Qp) (h : MsgHdr) (body : List Byte) (s s0 s1 : State), x = qp s q → rdmaUp s x.port = true →
    x.state = .rts → s0 = afterEcn q h.ecn s → s1 = tallyPort x.port 0x0100 (16 + body.length) q s0 →
    (∀ y ∈ [(1, Instr.jobLoad q h body), (2, .doorbell q h body), (3, .bind q h body), (4, .regAccess q h body),
        (5, .memWrite q h body), (6, .memRead q h body), (7, .nop q h body)],
      (64 ≤ buffersHeld s q →
        ∃ t, exec y.2 s = .next t ∧ SentOrHeld x.port [.rnrNak q] s0 t ∧ t.hostWait = s.hostWait ∧ SameMemory s t) ∧
      (buffersHeld s q < 64 → qpWaits s q = true ∨ (y.1 = 1 ∧ xlatOn s = false ∧ jobReads s x.ctx h body = true) →
        exec y.2 s = .next (waitHost q (.message y.1 h body) s1)) ∧
      (∀ status, qpWaits s q = false →
        (status = 0x20 ∧ requestFits y.1 h body = false) ∨
          (status = 0x07 ∧ requestFits y.1 h body = true ∧ fld h.ctx 2 0 ≠ x.ctx) ∨
          (status = 0x20 ∧ y.1 = 3 ∧ requestFits 3 h body = true ∧ fld h.ctx 2 0 = x.ctx ∧ x.control = false) →
        ∃ t, exec y.2 s = .next t ∧
          SentOrHeld x.port [hostMessage q 0x80 (fld h.ctx 2 0) status h.reqId.toNat 0 []] s0 t ∧
          RegFrame (if h.ecn then [(pgRdma x.port).base] else []) s t ∧ SameMemory s t)) ∧
    (fld h.ctx 2 0 = x.ctx → qpWaits s q = false →
      ∀ (type : Nat) (a : Answer) (o : Host.Outcome State Fault Refusal), requestFits type h body = true →
      (type = 1 ∧ (xlatOn s = true ∨ jobReads s x.ctx h body = false) ∧ a = runJobLoad (hostCarrier q x) body s1 ∧
          o = exec (.jobLoad q h body) s) ∨
        (type = 2 ∧ a = runDoorbell (hostCarrier q x) body s1 ∧ o = exec (.doorbell q h body) s) ∨
        (type = 4 ∧ a = runRegAccess (hostCarrier q x) body s1 ∧ o = exec (.regAccess q h body) s) ∨
        (type = 5 ∧ a = runMemWrite (hostCarrier q x) body s1 ∧ o = exec (.memWrite q h body) s) ∨
        (type = 6 ∧ a = runMemRead (hostCarrier q x) body s1 ∧ o = exec (.memRead q h body) s) ∨
        (type = 7 ∧ a = (0, [], s1) ∧ o = exec (.nop q h body) s) →
      ∃ t, o = .next t ∧ t.mem = a.2.2.mem ∧ t.cmem = a.2.2.cmem ∧
        ((qp a.2.2 q).state = .rts →
          SentOrHeld (qp a.2.2 q).port [hostMessage q 0x80 x.ctx a.1 h.reqId.toNat 0 a.2.1] a.2.2 t)) ∧
    (fld h.ctx 2 0 = x.ctx → qpWaits s q = false → requestFits 3 h body = true → x.control = true →
      ∃ t, exec (.bind q h body) s = .next t ∧ rf t (bindReg x.ctx) 31 31 = 1 ∧ rf t (bindReg x.ctx) 9 0 = q.val ∧
        (tget t.queues HostQueue.empty x.ctx).msgs.map (fun m => (m.seq, m.sentOn)) =
          (tget s.queues HostQueue.empty x.ctx).msgs.map (fun m => (m.seq, some q.val)) ∧
        RegFrame [(pgHep 0).base, (pgRdma x.port).base] s t ∧ SameMemory s t)

/-! ### Health and spares -/

/-- A patrol round that may run tests the cluster's next core and counts the round; a failure is shown in PTRL_FAIL and
counts against the core, which becomes SUSPECT at the limit; it touches no bank of the array and no memory. A pass that
grows too old is reported once. Lane patrol shows a failed lane; the CMEM patrol reads the next word and retires the bank of
one that has an error; a bank that is off or busy is passed over. What may not run now changes nothing (R394 to R399). It
rests on the model's choices in log entries 5 and 36. -/
def Obligations.Health_Patrol : Prop :=
  (∀ (n : Cluster) (k : Nat) (s : State), k = rf s ((pgPtrl n).base + Reg.PTRL_STATUS) 8 0 % 324 →
    isOn s (pgPtrl n) = true → patrolOpen s n = true → bandRetired s n = false →
    (∃ t, exec (.patrolRound n true) s = .next t ∧ rf t ((pgPtrl n).base + Reg.PTRL_STATUS) 8 0 = (k + 1) % 324 ∧
      rf t ((pgPtrl n).base + Reg.PTRL_STATUS) 31 16 = min 65535 (rf s ((pgPtrl n).base + Reg.PTRL_STATUS) 31 16 + 1) ∧
      tget? (clu t n).passMs k = some s.evr.opMs ∧ bankOf t 0 = bankOf s 0 ∧ bankOf t 1 = bankOf s 1 ∧
      RegFrame [(pgPtrl n).base] s t ∧ SameMemory s t) ∧
    (∃ t, exec (.patrolRound n false) s = .next t ∧ rf t ((pgPtrl n).base + Reg.PTRL_FAIL) 8 0 = k ∧
      rf t ((pgPtrl n).base + Reg.PTRL_FAIL) 15 14 = 0 ∧
      rf t ((pgPtrl n).base + Reg.PTRL_FAIL) 31 16 = min 65535 (rf s ((pgPtrl n).base + Reg.PTRL_FAIL) 31 16 + 1) ∧
      (mismatchLimit s = 1 → Unit3.core (Fin.ofNat 324 k) ∈ (clu t n).suspects) ∧ bankOf t 0 = bankOf s 0 ∧
      bankOf t 1 = bankOf s 1 ∧ RegFrame [(pgPtrl n).base] s t ∧ SameMemory s t)) ∧
  (∀ (n : Cluster) (pass : Bool) (s : State), isOn s (pgPtrl n) = false ∨ patrolOpen s n = false ∨ bandRetired s n = true →
    exec (.patrolRound n pass) s = .next s) ∧
  (∀ (n : Cluster) (s : State), (clu s n).lateSent = false → 600000 < oldestPass s n →
    ∃ t, exec (.patrolLate n) s = .next t ∧ (clu t n).lateSent = true ∧ rf t (pgHlth.base + Reg.HLTH_ALERT) 2 2 = 1 ∧
      RegFrame [pgHlth.base, (pgHep 0).base] s t ∧ SameMemory s t) ∧
  (∀ (n : Cluster) (s : State), (clu s n).lateSent = true ∨ oldestPass s n ≤ 600000 → exec (.patrolLate n) s = .next s) ∧
  (∀ (n : Cluster) (lane : Fin 68) (pass : Bool) (s : State), isOn s pgHlth = false ∨ isOn s (pgPtrl n) = false ∨
    nbit (laneMask s n) lane = true ∨
    (4 ≤ (bitsOf 68 (laneMask s n)).length ∧ csActive s n ≠ none) → exec (.lanePatrol n lane pass) s = .next s) ∧
  (∀ (n : Cluster) (lane : Fin 68) (s : State), isOn s pgHlth = true → isOn s (pgPtrl n) = true → nbit (laneMask s n) lane = false →
    (bitsOf 68 (laneMask s n)).length < 4 ∨ csActive s n = none →
    exec (.lanePatrol n lane true) s = .next s ∧
    ∃ t, exec (.lanePatrol n lane false) s = .next t ∧ rf t ((pgPtrl n).base + Reg.PTRL_FAIL) 15 14 = 2 ∧
      rf t ((pgPtrl n).base + Reg.PTRL_FAIL) 8 0 = lane.val ∧ (mismatchLimit s = 1 → Unit3.lane lane ∈ (clu t n).suspects) ∧
      RegFrame [(pgPtrl n).base] s t ∧ SameMemory s t) ∧
  (∀ (n : Cluster) (w : Nat) (s : State), w = (clu s n).patrolWord % 524288 →
    (isOn s (pgPtrl n) = false → exec (.cmemPatrolRead n) s = .next s) ∧
    (isOn s (pgPtrl n) = true →
      ∃ t, exec (.cmemPatrolRead n) s = .next t ∧ (clu t n).patrolWord = (w + 1) % 524288 ∧ SameMemory s t ∧
        (bankCur s n (cmemBank w) = 2 ∨ bankBusy s n (cmemBank w) = true → t.regs = s.regs) ∧
        (bankCur s n (cmemBank w) ≠ 2 → bankBusy s n (cmemBank w) = false →
          (bankCur s n (cmemBank w) = 1 → bankCur t n (cmemBank w) = 0) ∧
          (bankCur s n (cmemBank w) ≠ 1 → (clu s n).poison.contains (wordKey s n w) = false →
            (clu s n).correct.contains (wordKey s n w) = false → t.regs = s.regs) ∧
          ((clu s n).poison.contains (wordKey s n w) = true ∨ (clu s n).correct.contains (wordKey s n w) = true →
            rf t ((pgPtrl n).base + Reg.PTRL_FAIL) 15 14 = 1 ∧
            rf t ((pgPtrl n).base + Reg.PTRL_FAIL) 8 0 = physBank s n (cmemBank w) ∧ cmemBank w ∈ (clu t n).dueBanks))))

/-- A SUSPECT unit whose reruns all fail is failed, and one that passes a rerun is not (R399). LINE_REPAIR, while the array
is idle, fails the line of the dimension with fewer failed lines, rows on a tie, or retires a band when neither has one
left, and the band of a cluster that waits for it (R118, R402, R404); HLTH_CMD retires a band, runs a scan and tests a core,
refuses what it cannot do, and takes no command while BUSY or where its page is not ON (R118, R400, R413, R414). It rests on
the model's choices in log entries 36, 93 and 101. -/
def Obligations.Health_Repair : Prop :=
  (∀ (n : Cluster) (u : Unit3) (l : List Bool) (s : State),
    (isOn s pgHlth = false ∨ (clu s n).suspects.contains u = false ∨ l.length ≠ max 1 (rf s (pgHlth.base + Reg.HLTH_CONFIG) 7 0) ∨
      ((∃ k, u = .core k) ∧ arrayIdle s = false) → exec (.suspectRerun n u l) s = .next s) ∧
    (isOn s pgHlth = true → (clu s n).suspects.contains u = true → l.length = max 1 (rf s (pgHlth.base + Reg.HLTH_CONFIG) 7 0) →
      (∀ k, u = .core k → arrayIdle s = true) →
      (true ∈ l → ∃ t, exec (.suspectRerun n u l) s = .next t ∧ (clu t n).suspects = (clu s n).suspects.filter (fun x => x != u) ∧
        t.regs = s.regs ∧ (clu t n).failedCores = (clu s n).failedCores ∧ (clu t n).dueBanks = (clu s n).dueBanks ∧
        SameMemory s t) ∧
      (true ∉ l → ∃ t, exec (.suspectRerun n u l) s = .next t ∧ u ∉ (clu t n).suspects ∧ SameMemory s t ∧
        (∀ k, u = .core k → k.val ∈ (clu t n).failedCores ∧ t.regs = s.regs) ∧
        (∀ p b, u = .bank p → (List.range 32).find? (fun b => physBank s n b == p.val) = some b →
          b ∈ (clu t n).dueBanks ∧ t.regs = s.regs) ∧
        (∀ p, u = .bank p → (List.range 32).find? (fun b => physBank s n b == p.val) = none → p.val ∈ (clu t n).badBanks) ∧
        (∀ k, u = .lane k → nbit (laneMask t n) k = true) ∧
        (u = .injector → (n.val % 32 = 0 ∨ n.val / 32 = 0 → (clu t n).bandDue = true) ∧ t.regs = s.regs)))) ∧
  (∀ (n : Cluster) (pr pc : Fin 18) (s : State),
    (isOn s pgHlth = false ∨ arrayIdle s = false → exec (.lineRepair n pr pc) s = .next s) ∧
    (isOn s pgHlth = true → arrayIdle s = true → (clu s n).bandDue = true → ∃ t, exec (.lineRepair n pr pc) s = .next t ∧ (clu t n).bandDue = false ∧
      bandRetired t n = true ∧ SameMemory s t) ∧
    ((clu s n).bandDue = false → (clu s n).failedCores.contains (pr.val * 18 + pc.val) = false →
      exec (.lineRepair n pr pc) s = .next s) ∧
    (isOn s pgHlth = true → arrayIdle s = true → (clu s n).bandDue = false →
      (clu s n).failedCores.contains (pr.val * 18 + pc.val) = true →
      (nbit (rowFailed s n) pr = true ∨ nbit (colFailed s n) pc = true ∨ bandRetired s n = true →
        ∃ t, exec (.lineRepair n pr pc) s = .next t ∧ pr.val * 18 + pc.val ∉ (clu t n).failedCores ∧ t.regs = s.regs ∧
          SameMemory s t) ∧
      (nbit (rowFailed s n) pr = false → nbit (colFailed s n) pc = false → bandRetired s n = false →
        ∃ t, exec (.lineRepair n pr pc) s = .next t ∧ pr.val * 18 + pc.val ∉ (clu t n).failedCores ∧ SameMemory s t ∧
          (2 ≤ failCount (rowFailed s n) ∧ 2 ≤ failCount (colFailed s n) →
            bandRetired t n = true ∧ rowFailed t n = rowFailed s n ∧ colFailed t n = colFailed s n) ∧
          (failCount (rowFailed s n) < 2 ∨ failCount (colFailed s n) < 2 →
            (failCount (rowFailed s n) ≤ failCount (colFailed s n) →
              rowFailed t n = rowFailed s n + 2 ^ pr.val ∧ colFailed t n = colFailed s n) ∧
            (failCount (colFailed s n) < failCount (rowFailed s n) →
              colFailed t n = colFailed s n + 2 ^ pc.val ∧ rowFailed t n = rowFailed s n))))) ∧
  (∀ (m : Master) (b : BitVec 10) (x : Option (Unit3 × Nat)) (pass : Bool) (s : State), LetIn m pgHlth Reg.HLTH_CMD s →
    (∀ i ∈ [Instr.retireRowBand m b, .retireColBand m b, .scanCluster m b x, .patrolCore m b pass, .rotateBank m b],
      (isOn s pgHlth = false → exec i s = .next s) ∧
      (isOn s pgHlth = true → rf s (pgHlth.base + Reg.HLTH_CMD) 31 31 = 1 → exec i s = .next (recordError pgHlth 0x20 0 0 s))) ∧
    (isOn s pgHlth = true → rf s (pgHlth.base + Reg.HLTH_CMD) 31 31 = 0 →
      (arrayIdle s = true →
        (∃ t, exec (.retireRowBand m b) s = .next t ∧ SameMemory s t ∧
          rf t (pgAcon.base + Reg.ACON_ROW_BANDS) (b.toNat % 32) (b.toNat % 32) = 0 ∧
          (rf s (pgAcon.base + Reg.ACON_ROW_BANDS) (b.toNat % 32) (b.toNat % 32) = 1 →
            geomM t = 16 * (bitsOf 32 (rf t (pgAcon.base + Reg.ACON_ROW_BANDS) 31 0)).length ∧ geomN t = geomN s)) ∧
        (∃ t, exec (.retireColBand m b) s = .next t ∧ SameMemory s t ∧
          rf t (pgAcon.base + Reg.ACON_COL_BANDS) (b.toNat % 32) (b.toNat % 32) = 0 ∧
          (rf s (pgAcon.base + Reg.ACON_COL_BANDS) (b.toNat % 32) (b.toNat % 32) = 1 →
            geomN t = 16 * (bitsOf 32 (rf t (pgAcon.base + Reg.ACON_COL_BANDS) 31 0)).length ∧ geomM t = geomM s))) ∧
      (arrayIdle s = false → ∀ i ∈ [Instr.retireRowBand m b, .retireColBand m b],
        exec i s = .next (recordError pgHlth 0x21 0 0 s) ∧
        (rf s (pgHlth.base + Hdr.ERR_CODE) 15 8 = 0 →
          ∃ t, exec i s = .next t ∧ rf t (pgHlth.base + Hdr.ERR_CODE) 7 0 = 0x21 ∧
            RegFrame [pgHlth.base, (pgHep 0).base] s t ∧ SameMemory s t)) ∧
      (contextOn s b.toNat = true →
        exec (.scanCluster m b x) s = .next (recordError pgHlth 0x21 0 0 s)) ∧
      (contextOn s b.toNat = false →
        exec (.scanCluster m b none) s = .next s ∧
        (∀ (k : Fin 324) (x : Nat), ∃ t, exec (.scanCluster m b (some (.core k, x))) s = .next t ∧
          k.val ∈ (clu t b.toNat).failedCores ∧ rf t (pgHlth.base + Reg.HLTH_ALERT) 3 3 = 1 ∧
          RegFrame [pgHlth.base, (pgHep 0).base] s t ∧ SameMemory s t) ∧
        (∀ (u : Unit3) (x : Nat), ∃ t, exec (.scanCluster m b (some (u, x))) s = .next t ∧
          (∀ k, u = .lane k → nbit (laneMask t b.toNat) k = true) ∧
          (∀ p k, u = .bank p → (List.range 32).find? (fun k => physBank s b.toNat k == p.val) = some k →
            k ∈ (clu t b.toNat).dueBanks) ∧
          (∀ p, u = .bank p → (List.range 32).find? (fun k => physBank s b.toNat k == p.val) = none →
            p.val ∈ (clu t b.toNat).badBanks) ∧
          (u = .injector → b.toNat % 32 = 0 ∨ b.toNat / 32 = 0 → (clu t b.toNat).bandDue = true) ∧
          rf t (pgHlth.base + Reg.HLTH_ALERT) 3 3 = 1 ∧ SameMemory s t)) ∧
      (patrolOpen s b.toNat = false ∨ bandRetired s b.toNat = true →
        exec (.patrolCore m b pass) s = .next (recordError pgHlth 0x21 0 0 s)) ∧
      (patrolOpen s b.toNat = true → bandRetired s b.toNat = false →
        ∃ t, exec (.patrolCore m b pass) s = .next t ∧ RegFrame [(pgPtrl b.toNat).base] s t ∧ SameMemory s t ∧
          rf t ((pgPtrl b.toNat).base + Reg.PTRL_STATUS) 8 0 =
            (rf s ((pgPtrl b.toNat).base + Reg.PTRL_STATUS) 8 0 % 324 + 1) % 324 ∧
          (pass = false → rf t ((pgPtrl b.toNat).base + Reg.PTRL_FAIL) 15 14 = 0))))

/-- A rotation, periodic or commanded, is set to move the next logical bank onto a spare; when its copy ends the bank lies
on the spare with every byte as it was, but for what the region table denies the copy, and a freed bank whose march fails is
failed. A bank that is due moves off its failed physical bank; with no spare the cluster's VEC is retired and its band is
due; a copy that lost writes is repeated; with no spare or a move under way no rotation starts (R160, R270, R397, R405,
R406). A health datagram carries at most 64 colour changes, 16 bytes each after a 96-byte head, and none goes where there is
nothing to report (R410). It rests on the model's choices in log entries 36 and 102. -/
def Obligations.Bank_Moves_And_Datagram : Prop :=
  (∀ (n : Cluster) (s : State),
    (∀ p, isOn s pgHlth = true → (clu s n).move = none → spareBank s n = some p →
      ∃ t, exec (.bankRotation n) s = .next t ∧ (clu t n).move = some ⟨(clu s n).rotateNext % 32, p, false⟩ ∧ t.regs = s.regs ∧
        SameMemory s t) ∧
    (isOn s pgHlth = false ∨ (clu s n).move ≠ none ∨ spareBank s n = none → exec (.bankRotation n) s = .next s) ∧
    (∀ (m : Master) (b : BitVec 10), b.toNat = n.val → LetIn m pgHlth Reg.HLTH_CMD s → isOn s pgHlth = true →
      rf s (pgHlth.base + Reg.HLTH_CMD) 31 31 = 0 →
      (∀ p, (clu s n).move = none → spareBank s n = some p →
        ∃ t, exec (.rotateBank m b) s = .next t ∧ (clu t n).move = some ⟨(clu s n).rotateNext % 32, p, true⟩ ∧
          rf t (pgHlth.base + Reg.HLTH_CMD) 31 31 = 1 ∧ RegFrame [pgHlth.base] s t ∧ SameMemory s t) ∧
      ((clu s n).move ≠ none ∨ spareBank s n = none →
        exec (.rotateBank m b) s = .next (recordError pgHlth 0x21 0 0 s)))) ∧
  (∀ (n : Cluster) (march : Bool) (lost : Nat) (s : State), isOn s pgHlth = false → exec (.bankCopy n march lost) s = .next s) ∧
  (∀ (n : Cluster) (march : Bool) (lost : Nat) (s : State), isOn s pgHlth = true → s.memoriesWf →
    ((clu s n).move ≠ none ∨ ((clu s n).dueBanks ≠ [] ∧ spareBank s n ≠ none) → 0 < lost →
      exec (.bankCopy n march lost) s = .next (collide n lost s)) ∧
    ((clu s n).move = none → (clu s n).dueBanks = [] → exec (.bankCopy n march lost) s = .next s) ∧
    (∀ x, (clu s n).move = some x → x.logical < 32 → x.spare < 34 → (∀ b, b < 32 → physBank s n b ≠ x.spare) →
      ∃ t, exec (.bankCopy n march 0) s = .next t ∧ physBank t n x.logical = x.spare ∧
        (∀ b, b < 32 → b ≠ x.logical → physBank t n b = physBank s n b) ∧ (clu t n).move = none ∧
        (∀ off, cmemBank (off / 8) = x.logical → rptVerdict s .mgmt true false (cmemPa n (off / 65536 * 65536)) = none →
          cmemByte t n off = cmemByte s n off) ∧
        (march = false → physBank s n x.logical ∈ (clu t n).badBanks) ∧
        (x.byCmd = true → rf t (pgHlth.base + Reg.HLTH_CMD) 31 31 = 0) ∧ CmemOutside (cluFirst n) (cluEnd n) s t ∧
        (∀ a, memGet t.mem a = memGet s.mem a)) ∧
    (∀ b r p, (clu s n).move = none → (clu s n).dueBanks = b :: r → b < 32 → spareBank s n = some p →
      ∃ t, exec (.bankCopy n march 0) s = .next t ∧ physBank t n b = p ∧ physBank s n b ∈ (clu t n).badBanks ∧
        (∀ off, cmemBank (off / 8) = b → rptVerdict s .mgmt true false (cmemPa n (off / 65536 * 65536)) = none →
          cmemByte t n off = cmemByte s n off) ∧ CmemOutside (cluFirst n) (cluEnd n) s t ∧
        (∀ a, memGet t.mem a = memGet s.mem a)) ∧
    (∀ b r, (clu s n).move = none → (clu s n).dueBanks = b :: r → spareBank s n = none →
      ∃ t, exec (.bankCopy n march lost) s = .next t ∧ (clu t n).bandDue = true ∧ retired t (pgVec n) = true ∧
        SameMemory s t)) ∧
  (∀ s : State,
    (s.changes ≠ [] ∨ rf s (pgHlth.base + Reg.HLTH_REPORT) 15 0 ≠ 0 → s.power.standbyUp = true →
      s.sec.recovery = false → rf s (pgMgc.base + 0x104) 0 0 = 0 →
      ∃ t d, exec .healthDatagram s = .next t ∧ t.sent = s.sent ++ [.datagram d] ∧
        d.length = 96 + 16 * min 64 s.changes.length ∧
        d.take 4 = leBytes 2 1 ++ leBytes 2 (if s.changes = [] then 0 else 1) ∧ t.changes = [] ∧
        t.hlthSeq = s.hlthSeq + 1 ∧ t.regs = s.regs ∧ SameMemory s t) ∧
    ((s.changes = [] ∧ rf s (pgHlth.base + Reg.HLTH_REPORT) 15 0 = 0) ∨ s.power.standbyUp = false ∨ s.sec.recovery = true ∨
        rf s (pgMgc.base + 0x104) 0 0 = 1 → exec .healthDatagram s = .next s))

/-! ### Security -/

/-- An enabled tamper source wipes the Vault and every secure bank, ends the sessions and marks the device TAMPERED, and
attestation is refused from then on; a source that is not enabled is only shown (R419 to R423). The wipe's end releases what
it held. A permitted life-cycle transition blows its fuse, leaves no memory and resets the device; any other request is
refused with its code and changes no fuse: LC_DENIED out of order or without certificates, WIPE_BUSY during a wipe,
TOKEN_INVALID for a token that does not verify, name this device and the nonce, which is renewed (R424, R425). Without the
standby supply no tamper is seen. It rests on the model's choices in log entry 39. -/
def Obligations.Tamper_Wipe_And_Life_Cycle : Prop :=
  ((∀ (src : BitVec 4) (s : State), s.pins.vstby = false ∨ src = 0 → exec (.tamper src) s = .next s) ∧
  (∀ (src : BitVec 4) (s : State), s.pins.vstby = true → src ≠ 0 →
    (src.toNat &&& tamperMask s ≠ 0 → ∃ t, exec (.tamper src) s = .next t ∧ t.sec.wiping = true ∧
      rf t (pgSec.base + Reg.SEC_TAMPER_STATUS) 31 31 = 1 ∧ rf t (pgSec.base + Reg.SEC_WIPE) 31 31 = 1 ∧
      rf t (pgSec.base + Reg.SEC_TAMPER_STATUS) 3 0 = (rf s (pgSec.base + Reg.SEC_TAMPER_STATUS) 3 0 ||| src.toNat) ∧
      rf t (pgSec.base + Hdr.IRQ_STATUS) 16 16 = 1 ∧ t.sec.mctp.session = false ∧ t.sec.mailbox.session = false ∧
      attestRefusal t = some 0 ∧ (∀ a, vaultBase ≤ a → memGet t.mem a = 0) ∧
      (∀ a, a < vaultBase → memGet t.mem a = memGet s.mem a) ∧
      (∀ n off, n < 1024 → bankSecure s n (cmemBank (off / 8)) = true → cmemByte t n off = 0)) ∧
    (src.toNat &&& tamperMask s = 0 → ∃ t, exec (.tamper src) s = .next t ∧ t.sec = s.sec ∧
      rf t (pgSec.base + Reg.SEC_TAMPER_STATUS) 3 0 = (rf s (pgSec.base + Reg.SEC_TAMPER_STATUS) 3 0 ||| src.toNat) ∧
      RegsBut [pgSec.base + Reg.SEC_TAMPER_STATUS] s t ∧ SameMemory s t)) ∧
  (∀ s : State, s.sec.wiping = false → exec .wipeDone s = .next s) ∧
  (∀ s : State, s.sec.wiping = true → ∃ t, exec .wipeDone s = .next t ∧ t.sec.wiping = false ∧ t.sec.held = [] ∧
    (s.sec.held = [] → s.sec.wipeAt + 262144 ≤ t.clk.sclk ∧ rf t (pgSec.base + Reg.SEC_WIPE) 31 31 = 0 ∧
      RegFrame [pgSec.base] s t ∧ SameMemory s t))) ∧
  (∀ (m : Master) (certs e l : Bool) (dh : Nat) (nonce : BitVec 32) (s : State) (good : Bool),
    LetIn m pgSec Reg.SEC_LC_CMD s →
    good = (e && l && nonce.toNat == secNonce s && dh == Config.deviceIdHash (Config.trng (s.fuses.uds.getD 0))) →
    (∀ (target : Nat) (o : Host.Outcome State Fault Refusal), s.sec.wiping = false →
      (target = 1 ∧ s.fuses.lifecycle = 0 ∧ certs = true ∧ o = exec (.lcProvisioned m certs) s) ∨
        (target = 2 ∧ s.fuses.lifecycle = 1 ∧ o = exec (.lcField m) s) ∨
        (target = 3 ∧ s.fuses.lifecycle = 2 ∧ good = true ∧ o = exec (.lcReturn m e l dh nonce) s) ∨
        (target = 4 ∧ (s.fuses.lifecycle = 1 ∨ s.fuses.lifecycle = 2 ∨ s.fuses.lifecycle = 3) ∧
          o = exec (.lcScrapped m) s) →
      ∃ t, o = .next t ∧ t.fuses.lifecycle = target ∧ t.fuses.svn = s.fuses.svn ∧ t.power.standbyUp = false ∧
        (3 ≤ target → t.fuses.udsLocked = true) ∧ (target = 1 → t.fuses.uds.isSome = true) ∧
        (∀ a, memGet t.mem a = 0 ∧ memGet t.cmem a = 0)) ∧
    (∀ (code : Nat) (o : Host.Outcome State Fault Refusal),
      (code = 0x23 ∧ s.sec.wiping = true ∧ (o = exec (.lcProvisioned m certs) s ∨ o = exec (.lcField m) s ∨
          o = exec (.lcReturn m e l dh nonce) s ∨ o = exec (.lcScrapped m) s)) ∨
        (s.sec.wiping = false ∧
          ((code = 0x20 ∧ (s.fuses.lifecycle ≠ 0 ∨ certs = false) ∧ o = exec (.lcProvisioned m certs) s) ∨
           (code = 0x20 ∧ s.fuses.lifecycle ≠ 1 ∧ o = exec (.lcField m) s) ∨
           (code = 0x20 ∧ s.fuses.lifecycle ≠ 2 ∧ o = exec (.lcReturn m e l dh nonce) s) ∨
           (code = 0x21 ∧ s.fuses.lifecycle = 2 ∧ good = false ∧ o = exec (.lcReturn m e l dh nonce) s) ∨
           (code = 0x20 ∧ (s.fuses.lifecycle = 0 ∨ 3 < s.fuses.lifecycle) ∧ o = exec (.lcScrapped m) s))) →
      ∃ t, o = .next t ∧ t.fuses = s.fuses ∧
        (rf s (pgSec.base + Hdr.ERR_CODE) 15 8 = 0 → rf t (pgSec.base + Hdr.ERR_CODE) 7 0 = code) ∧
        (code = 0x21 → t.sec.nonceId = s.sec.trngDraws) ∧ RegFrame [pgSec.base, (pgHep 0).base] s t ∧ SameMemory s t))

/-- The requests of an SPDM connection in their order: VERSION, CAPABILITIES, ALGORITHMS, then digests, certificate,
CHALLENGE and measurements, the last two signed over the transcript's hash; KEY_EXCHANGE, FINISH and END_SESSION open and
close a session on MCTP. Out of order, or refused after a tamper, a changed measurement or in a state that may not attest, a
request is answered with an ERROR; while the firmware does not run nothing is answered (R423, R424, R431 to R433). It rests
on the model's choices in log entries 6 and 54. -/
def Obligations.Attestation : Prop :=
  (∀ (tr : Transport) (msg : List Nat) (s : State), mgcUp s = false →
    ∀ i ∈ [Instr.getVersion tr msg, .getCapabilities tr msg, .negotiateAlgorithms tr msg, .getDigests tr msg, .getCertificate tr msg,
      .challenge tr msg, .getMeasurements tr msg, .keyExchange tr msg, .finish tr msg, .endSession tr msg, .lmsSign tr, .lmsCert tr],
      exec i s = .next s) ∧
  ∀ (tr : Transport) (msg : List Nat) (c : Conn) (s : State), c = conn s tr → mgcUp s = true →
    (∃ t, exec (.getVersion tr msg) s = .next t ∧ t.sent = s.sent ++ [.spdm tr 0x04 [0x12]] ∧
      conn t tr = { Conn.fresh with version := true, transcript := msg ++ [0x04, 0x12] } ∧ t.regs = s.regs ∧ SameMemory s t) ∧
    (c.version = true → ∃ t, exec (.getCapabilities tr msg) s = .next t ∧ t.sent = s.sent ++ [.spdm tr 0x61 []] ∧
      conn t tr = { c with caps := true, transcript := c.transcript ++ msg ++ [0x61] } ∧ t.regs = s.regs ∧ SameMemory s t) ∧
    (c.caps = true → ∃ t, exec (.negotiateAlgorithms tr msg) s = .next t ∧ t.sent = s.sent ++ [.spdm tr 0x63 []] ∧
      conn t tr = { c with algs := true, transcript := c.transcript ++ msg ++ [0x63] } ∧ t.regs = s.regs ∧ SameMemory s t) ∧
    (c.session = true → ∃ t, exec (.endSession tr msg) s = .next t ∧ t.sent = s.sent ++ [.spdm tr 0x6C []] ∧
      conn t tr = { c with session := false, transcript := c.transcript ++ msg ++ [0x6C] } ∧ t.regs = s.regs ∧ SameMemory s t) ∧
    (attestRefusal s = none → c.algs = true →
      (∃ t, exec (.getDigests tr msg) s = .next t ∧ t.sent = s.sent ++ [.spdm tr 0x01 [(Config.sha384 (certChain s)).toNat]] ∧
        t.regs = s.regs ∧ SameMemory s t) ∧
      (∃ t, exec (.getCertificate tr msg) s = .next t ∧ t.sent = s.sent ++ [.spdm tr 0x02 (certChain s)] ∧ t.regs = s.regs ∧
        SameMemory s t) ∧
      (∀ h, h = Config.sha384 (c.transcript ++ msg ++ [0x03]) → ∃ t, exec (.challenge tr msg) s = .next t ∧
        (conn t tr).lastH = some h ∧ t.sent = s.sent ++ [.spdm tr 0x03 [Config.ecdsaSign s.sec.aliasId h]] ∧ t.regs = s.regs ∧
        SameMemory s t) ∧
      (∀ h, h = Config.sha384 (c.transcript ++ msg ++ 0x60 :: measurements s) →
        ∃ t, exec (.getMeasurements tr msg) s = .next t ∧ (conn t tr).lastH = some h ∧
        t.sent = s.sent ++ [.spdm tr 0x60 (measurements s ++ [Config.ecdsaSign s.sec.aliasId h])] ∧ t.regs = s.regs ∧
        SameMemory s t) ∧
      (tr = .mctp → ∃ t, exec (.keyExchange tr msg) s = .next t ∧ (conn t tr).handshake = true ∧
        (conn t tr).session = c.session ∧ t.regs = s.regs ∧ SameMemory s t)) ∧
    (tr = .mailbox → ∃ t, exec (.keyExchange tr msg) s = .next t ∧ t.sent = s.sent ++ [.spdm tr 0x7F [0x07]] ∧ t.sec = s.sec) ∧
    (attestRefusal s = none → c.handshake = true → ∃ t, exec (.finish tr msg) s = .next t ∧
      t.sent = s.sent ++ [.spdm tr 0x65 []] ∧ (conn t tr).session = true ∧ (conn t tr).handshake = false ∧ t.regs = s.regs ∧
      SameMemory s t) ∧
    (∀ o : Host.Outcome State Fault Refusal,
      (c.version = false ∧ o = exec (.getCapabilities tr msg) s) ∨ (c.caps = false ∧ o = exec (.negotiateAlgorithms tr msg) s) ∨
        (c.session = false ∧ o = exec (.endSession tr msg) s) ∨
        (attestRefusal s = none ∧ c.algs = false ∧ (o = exec (.getDigests tr msg) s ∨ o = exec (.getCertificate tr msg) s ∨
          o = exec (.challenge tr msg) s ∨ o = exec (.getMeasurements tr msg) s ∨ o = exec (.lmsCert tr) s ∨
          (tr = .mctp ∧ o = exec (.keyExchange tr msg) s))) ∨
        (attestRefusal s = none ∧ c.lastH = none ∧ o = exec (.lmsSign tr) s) ∨
        (attestRefusal s = none ∧ c.handshake = false ∧ o = exec (.finish tr msg) s) →
      ∃ t, o = .next t ∧ t.sent = s.sent ++ [.spdm tr 0x7F [0x04]] ∧ t.sec = s.sec ∧ t.regs = s.regs ∧ SameMemory s t) ∧
    (∀ o : Host.Outcome State Fault Refusal, (attestRefusal s).isSome = true →
      o = exec (.getDigests tr msg) s ∨ o = exec (.getCertificate tr msg) s ∨ o = exec (.challenge tr msg) s ∨
        o = exec (.getMeasurements tr msg) s ∨ o = exec (.finish tr msg) s ∨ o = exec (.lmsSign tr) s ∨
        o = exec (.lmsCert tr) s ∨ (tr = .mctp ∧ o = exec (.keyExchange tr msg) s) →
      ∃ t, o = .next t ∧ t.sent = s.sent ++ [.spdm tr 0x7F [0x05]] ∧ t.sec = s.sec ∧ t.flash = s.flash ∧ t.regs = s.regs ∧
        SameMemory s t)

/-- LMS_SIGN writes the next leaf's number to both flashes and signs with the leaf before it, which no later signature uses
again; an exhausted key signs nothing (R433, R435, R436). A session, and nothing outside one, carries link keys and secure
jobs (R434); SEC polls the mailbox (R432); recovery takes an image that verifies (R428); the watchdog restarts the firmware
when it is late, and no earlier (R437 to R439). It rests on the model's choices in log entries 6 and 39. -/
def Obligations.Signing_And_Supervision : Prop :=
  (∀ (tr : Transport) (s : State), mgcUp s = true → attestRefusal s = none →
    (∀ h b, (conn s tr).lastH = some h → b = lmsNext s → lmsExhausted s = false →
      ∃ t, exec (.lmsSign tr) s = .next t ∧ t.sent = s.sent ++ [.spdm tr 0x7E [1, h.toNat, 32768 * lmsT s + b,
          Config.hssSign (32768 * lmsT s + b) h]] ∧ t.regs = s.regs ∧ SameMemory s t ∧
        t.flash.journal.length = s.flash.journal.length ∧
        (b + 1 < 32768 → t.fuses = s.fuses ∧ ∀ e ∈ t.flash.journal, e = (lmsT s, b + 1)) ∧
        (b + 1 = 32768 → lmsT s < 1023 → 1 ≤ s.fuses.lmsTree → t.fuses.lmsTree = s.fuses.lmsTree + 1 ∧
          ∀ e ∈ t.flash.journal, e = (lmsT s + 1, 0))) ∧
    (∀ h, (conn s tr).lastH = some h → lmsExhausted s = true →
      ∃ t, exec (.lmsSign tr) s = .next t ∧ t.sent.getLast? = some (.spdm tr 0x7F [0xFF]) ∧ t.flash = s.flash ∧
        t.fuses = s.fuses ∧ (rf s (pgSec.base + Hdr.ERR_CODE) 15 8 = 0 → rf t (pgSec.base + Hdr.ERR_CODE) 7 0 = 0x22) ∧
        SameMemory s t) ∧
    ((conn s tr).algs = true → ∃ t, exec (.lmsCert tr) s = .next t ∧
      t.sent = s.sent ++ [.spdm tr 0x7E [2, s.fuses.uds.getD 0]] ∧ t.regs = s.regs ∧ SameMemory s t)) ∧
  (∀ (p : PortNo) (key : BitVec 256) (salt : BitVec 32) (s : State), mgcUp s = true →
    (s.sec.mctp.session = true → pageLive s (pgAtp p) = true → ∃ t, exec (.linkKey p key salt) s = .next t ∧
      (port t p).keyStandby = some ⟨key, salt, 0⟩ ∧ (port t p).keyActive = (port s p).keyActive ∧
      rf t (atpReg p Reg.ATP_KEY_CTRL) 1 1 = 1 ∧ RegFrame [(pgAtp p).base] s t ∧ SameMemory s t) ∧
    (s.sec.mctp.session = true → pageLive s (pgAtp p) = false → ∃ t, exec (.linkKey p key salt) s = .next t ∧
      t.sent = s.sent ++ [.spdm .mctp 0x7F [0x05]] ∧ t.regs = s.regs ∧ t.ports = s.ports ∧ SameMemory s t) ∧
    (s.sec.mctp.session = false → ∃ t, exec (.linkKey p key salt) s = .next t ∧ t.sent = s.sent ++ [.spdm .mctp 0x7F [0x04]] ∧
      t.regs = s.regs ∧ SameMemory s t)) ∧
  (∀ (h : MsgHdr) (body : List Byte) (a : Answer) (s : State), mgcUp s = true → s.sec.mctp.session = true →
    a = secureAnswer h body s →
    ∃ t, exec (.secureJob h body) s = .next t ∧ t.mem = a.2.2.mem ∧ t.cmem = a.2.2.cmem ∧ t.regs = a.2.2.regs ∧
      t.sent = a.2.2.sent ++ [.spdm .mctp 0x7E ([3, fld h.ctx 2 0, a.1, h.reqId.toNat] ++ a.2.1.map (·.toNat))]) ∧
  (∀ (h : MsgHdr) (body : List Byte) (s : State), mgcUp s = true → s.sec.mctp.session = false →
    ∃ t, exec (.secureJob h body) s = .next t ∧ t.sent = s.sent ++ [.spdm .mctp 0x7F [0x04]] ∧ t.regs = s.regs ∧ SameMemory s t) ∧
  (∀ (s : State), mgcUp s = false →
    (∀ p key salt, exec (.linkKey p key salt) s = .next s) ∧ (∀ h body, exec (.secureJob h body) s = .next s) ∧
    (∀ img, exec (.watchdogRestart img) s = .next s)) ∧
  (∀ (s : State), mgcUp s = false ∨ s.power.rails = false → exec .mailboxPoll s = .next s) ∧
  (∀ (e : Fail) (s s1 : State), mgcUp s = true → s.power.rails = true → physRead .mgmt true 0 16 s = (.error e, s1) →
    exec .mailboxPoll s = .next s1) ∧
  (∀ (d : List Byte) (s s1 : State), mgcUp s = true → s.power.rails = true → physRead .mgmt true 0 16 s = (.ok d, s1) →
    (leNat (d.take 4) = s.sec.mailSeq → exec .mailboxPoll s = .next s1) ∧
    (leNat (d.take 4) ≠ s.sec.mailSeq → ∃ t, exec .mailboxPoll s = .next t ∧ t.sec.mailSeq = leNat (d.take 4))) ∧
  (∀ (img : ImageCheck) (s : State), s.pins.vstby = false ∨ s.sec.recovery = false → exec (.firmwareUpdate img) s = .next s) ∧
  (∀ (img : ImageCheck) (s : State), s.pins.vstby = true → s.sec.recovery = true →
    (imageFailure s 1 img = 0 → ∃ t, exec (.firmwareUpdate img) s = .next t ∧ t.sec.recovery = false ∧
      t.power.standbyUp = false ∧ t.fuses = s.fuses) ∧
    (imageFailure s 1 img ≠ 0 → ∃ t, exec (.firmwareUpdate img) s = .next t ∧ t.sec = s.sec ∧ t.power = s.power ∧
      t.evq.length = s.evq.length + (if imageFailure s 1 img = 5 then 2 else 1) ∧ t.regs = s.regs ∧ SameMemory s t)) ∧
  (∀ (m : Master) (v : BitVec 32) (s : State), LetIn m pgMgc 0x100 s →
    ∃ t, exec (.mgcWdog m v) s = .next t ∧ t.sec.wdogAt = msNow s ∧ t.regs = s.regs ∧ SameMemory s t) ∧
  (∀ (img : ImageCheck) (s : State), msNow s < s.sec.wdogAt + wdogMs s → exec (.watchdogRestart img) s = .next s) ∧
  (∀ (img : ImageCheck) (k : Nat) (s : State), mgcUp s = true → s.sec.wdogAt + wdogMs s ≤ msNow s →
    k = (if s.sec.restartWindow = msNow s / 60000 then s.sec.restartCount else 0) →
    ∃ t, exec (.watchdogRestart img) s = .next t ∧ t.sec.wdogAt = msNow s ∧ t.sec.restartCount = k + 1 ∧
      rf t mgcStatus 31 16 = min 65535 (rf s mgcStatus 31 16 + 1) ∧ SameMemory s t ∧
      (2 ≤ k → rf t mgcStatus 0 0 = 1 ∧ t.pins.fwFault = true) ∧
      (k < 2 → imageFailure s 1 img ≠ 0 → t.sec.recovery = true ∧ t.pins.fwFault = true) ∧
      (k < 2 → imageFailure s 1 img = 0 → t.sec.recovery = false ∧
        t.sec.refuse = (s.sec.refuse || decide (¬(img.hash = s.sec.aliasHash ∧ img.svn = s.sec.aliasSvn)))))

/-! ### Power, clocks and supplies -/

/-- The arbiter grants BASE and refresh whole, fabric and host down to their floors, and the highest ACLK and then ECLK
steps that fit, never below the floors nor the ratio of 17/16; a period that cannot meet the floors is UNMET, and patrol
that does not fit is refused (R444 to R447). The budget is held between 600 and 2,400 W (R443). Without the rails nothing is
granted or set. It rests on the model's choices in log entries 52 and 111. -/
def Obligations.Power_Grants : Prop :=
  (∀ (budget : Int) (req : List Nat) (f2 f3 : Nat) (g : Grants) (avail : Int), g = computeGrants budget req f2 f3 →
    avail = 4 * budget - lget req 0 0 - lget req 1 0 - g.fabric - g.host →
    24 ≤ g.a ∧ g.a ≤ 96 ∧ eFloor g.a ≤ g.e ∧ g.e ≤ 120 ∧ 17 * g.a ≤ 16 * g.e ∧ 30 ≤ g.e ∧
    (∀ a, g.a < a → a ≤ 96 → avail < (arrDraw (lget req 4 0) a + engDraw (lget req 5 0) (eFloor a) : Nat)) ∧
    (24 < g.a → ((arrDraw (lget req 4 0) g.a + engDraw (lget req 5 0) (eFloor g.a) : Nat) : Int) ≤ avail) ∧
    (∀ e, g.e < e → e ≤ 120 → avail - (arrDraw (lget req 4 0) g.a : Nat) < (engDraw (lget req 5 0) e : Nat)) ∧
    g.fabric ≤ lget req 2 0 ∧ (min (lget req 2 0) f2 : Nat) ≤ g.fabric ∧ g.host ≤ lget req 3 0 ∧
    (min (lget req 3 0) f3 : Nat) ≤ g.host) ∧
  (∀ (x : PowerSample) (g : Grants) (req : List Nat) (s s1 : State), s.power.rails = true →
    s1 = thermal x (if x.newMs then rfSet (pstReg Reg.PST_MEASURED) 11 0 x.measuredW s else s) → req = requests s1 x →
    g = computeGrants (effectiveBudget s1) req x.fabricMin x.hostMin →
    ∃ t, exec (.grantPeriod x) s = .next t ∧ SameMemory s t ∧
      (s.power.floorHold = false → t.power.wantA = g.a ∧ t.power.wantE = g.e) ∧
      (s.power.floorHold = true → t.power.wantA = s.power.wantA ∧ t.power.wantE = s.power.wantE) ∧
      t.power.pllA = s.power.pllA ∧ t.power.pllE = s.power.pllE ∧ t.power.awaitGrant = false ∧
      (regGet t (pstReg Reg.PST_GRANT + 16)).toNat =
        min (lget req 4 0) 65535 * 65536 + min (arrDraw (lget req 4 0) g.a) 65535 ∧
      (regGet t (pstReg Reg.PST_GRANT + 20)).toNat =
        min (lget req 5 0) 65535 * 65536 + min (engDraw (lget req 5 0) g.e) 65535 ∧
      pstBit t 1 = decide (4 * effectiveBudget s1 < floorSum req x.fabricMin x.hostMin) ∧
      pstBit t 3 = decide (g.patrol < lget req 6 0) ∧ pstBit t 0 = pstBit s 0) ∧
  (∀ (w : Nat) (s : State), s.power.rails = true →
    ∃ t, exec (.budgetSet w) s = .next t ∧ budgetW t = min 2400 (max 600 w) ∧ RegFrame [(pgPst 0).base] s t ∧ SameMemory s t) ∧
  (∀ (x : PowerSample) (w : Nat) (s : State), s.power.rails = false →
    exec (.grantPeriod x) s = .next s ∧ exec (.budgetSet w) s = .next s)

/-- A slew step moves each clock at most one step toward its grant and never breaks the ratio of R447 (R448); rows are
ungated one at a time (R451). THROTTLE_N puts ACLK and ECLK on their standby PLLs at the floors and caps fabric and host,
until it is released (R452). The first reference to be stable for eight windows is selected, the link before REFCLK; when
the selected one is lost the clocks fall to their floors until one returns; the second clock unit follows the reference that
the first forwards (R457 to R459). A failed PLL gives way to the other, ACLK and ECLK at the floor; a domain with none left
takes the compute rails down (R460). Without the rails none of this happens. It rests on the model's choices in log entry
53. -/
def Obligations.Clocks_And_References : Prop :=
  (∀ (s : State),
    (s.power.rails = false → exec .slewStep s = .next s ∧ exec .rowUngate s = .next s ∧ exec .throttleN s = .next s ∧
      (∀ i x, exec (.refCheck i x) s = .next s) ∧ (∀ i x, exec (.refLost i x) s = .next s) ∧
      ∀ i d b, exec (.pllFailed i d b) s = .next s) ∧
    (32 ≤ s.power.rowsOn → exec .rowUngate s = .next s) ∧ (s.pins.throttleLow = true → exec .throttleN s = .next s) ∧
    (s.pins.throttleLow = false → exec .throttleRelease s = .next s) ∧
    (s.pins.throttleLow = true → ∃ t, exec .throttleRelease s = .next t ∧ t.pins.throttleLow = false ∧ pstBit t 0 = false ∧
      RegFrame [(pgPst 0).base] s t ∧ SameMemory s t)) ∧
  (∀ (s : State), s.power.rails = true →
    (∃ t, exec .slewStep s = .next t ∧ SameMemory s t ∧ t.power.wantA = s.power.wantA ∧ t.power.wantE = s.power.wantE ∧
      (eFloor s.power.pllA ≤ s.power.pllE → eFloor t.power.pllA ≤ t.power.pllE) ∧
      (s.power.wantA < s.power.pllA → t.power.pllA = s.power.pllA - 1) ∧
      (s.power.pllA ≤ s.power.wantA → s.power.pllA ≤ t.power.pllA ∧ t.power.pllA ≤ min s.power.wantA (s.power.pllA + 1)) ∧
      (s.power.pllE < s.power.wantE → t.power.pllE = s.power.pllE + 1) ∧
      (s.power.wantE ≤ s.power.pllE → t.power.pllE ≤ s.power.pllE ∧ max s.power.wantE (s.power.pllE - 1) ≤ t.power.pllE) ∧
      RegFrame [(pgPst 0).base, (pgClk 0).base, (pgClk 1).base] s t) ∧
    (s.power.rowsOn < 32 → ∃ t, exec .rowUngate s = .next t ∧ t.power.rowsOn = s.power.rowsOn + 1 ∧ t.regs = s.regs ∧
      SameMemory s t) ∧
    (s.pins.throttleLow = false → ∃ t, exec .throttleN s = .next t ∧ t.pins.throttleLow = true ∧ pstBit t 0 = true ∧
      pstBit t 3 = true ∧ t.power.fabricCap = 1 ∧ t.power.hostCap = 1 ∧ t.power.awaitGrant = true ∧
      rf t ((pgPst 0).base + Hdr.IRQ_STATUS) 16 16 = 1 ∧
      (singlePll s 0 = false → onStandby t 0 = true ∧ rf t (pstReg Reg.PST_FREQ) 7 0 = 24) ∧
      (singlePll s 1 = false → onStandby t 1 = true ∧ rf t (pstReg Reg.PST_FREQ) 15 8 = 30) ∧
      (singlePll s 0 = true → t.power.wantA = 24) ∧ (singlePll s 1 = true → t.power.wantE = 30) ∧
      RegFrame [(pgPst 0).base, (pgClk 0).base, (pgClk 1).base, (pgHep 0).base] s t ∧ SameMemory s t) ∧
    (s.pins.throttleLow = true → ∃ t, exec .throttleRelease s = .next t ∧ t.pins.throttleLow = false ∧ pstBit t 0 = false ∧
      RegFrame [(pgPst 0).base] s t ∧ SameMemory s t)) ∧
  (∀ (x : RefSample) (nl nr best was : Nat) (s : State), s.power.rails = true → was = rf s (clkStatus 0) 2 0 →
    nl = (if rf s ((pgClk 0).base + Reg.CLK_REF_SEL) 7 0 ≠ 0xFF ∧ inRange x.link = true then
      min 8 (lget s.power.refOk 0 0 + 1) else 0) →
    nr = (if inRange x.refclk = true then min 8 (lget s.power.refOk 1 0 + 1) else 0) →
    best = (if nl = 8 then 2 else if nr = 8 then 1 else 0) →
    ∃ t, exec (.refCheck 0 x) s = .next t ∧ rf t (clkStatus 0) 5 5 = (if nl = 8 then 1 else 0) ∧
      rf t (clkStatus 0) 4 4 = (if nr = 8 then 1 else 0) ∧ SameMemory s t ∧
      ((was = 2 ∧ nl < 8) ∨ (was = 1 ∧ nr < 8) → rf t (clkStatus 0) 2 0 = 0 ∧ rf t (clkStatus 0) 3 3 = 1 ∧
        t.power.floorHold = true ∧ (singlePll s 0 = false → onStandby t 0 = true) ∧
        (singlePll s 1 = false → onStandby t 1 = true)) ∧
      ((was = 2 → nl = 8) → (was = 1 → nr = 8) → rf t (clkStatus 0) 2 0 = best ∧
        (best ≠ was → best ≠ 0 → t.power.floorHold = false ∧ t.power.awaitGrant = true ∧
          rf t ((pgClk 0).base + Hdr.IRQ_STATUS) 16 16 = 1) ∧
        (best = was ∨ best = 0 → t.power.floorHold = s.power.floorHold ∧ t.power.awaitGrant = s.power.awaitGrant))) ∧
  (∀ (x : RefSample) (s : State), s.power.rails = true →
    ∃ t, exec (.refCheck 1 x) s = .next t ∧ rf t (clkStatus 1) 2 0 = 3 ∧ t.power.floorHold = s.power.floorHold ∧
      RegFrame [(pgClk 1).base] s t ∧ SameMemory s t) ∧
  (∀ (src : Fin 3) (s : State),
    (s.power.rails = true → src ≠ 0 → rf s (clkStatus 1) 2 0 = 3 → ∃ t, exec (.refLost 1 src) s = .next t ∧
      rf t (clkStatus 1) 2 0 = 0 ∧ rf t (clkStatus 1) 3 3 = 1 ∧ t.power.floorHold = s.power.floorHold ∧
      rf t ((pgClk 1).base + Hdr.IRQ_STATUS) 16 16 = 1 ∧ RegFrame [(pgClk 1).base, (pgHep 0).base] s t ∧ SameMemory s t) ∧
    (src = 0 ∨ rf s (clkStatus 1) 2 0 ≠ 3 → exec (.refLost 1 src) s = .next s) ∧
    (src = 0 ∨ rf s (clkStatus 0) 2 0 ≠ src.val → exec (.refLost 0 src) s = .next s)) ∧
  (∀ (i : Fin 2) (d : ClkDomain) (b : Bool) (s : State),
    (i = 1 ∧ d = .sclk) ∨ pllBit s i (domainNo d) (if b then 2 else 1) = true → exec (.pllFailed i d b) s = .next s) ∧
  ((∀ (x : RefSample) (s : State), s.power.rails = true → rf s (clkStatus 0) 2 0 = 0 →
    (inRange x.link = true → rf s ((pgClk 0).base + Reg.CLK_REF_SEL) 7 0 ≠ 0xFF → 7 ≤ lget s.power.refOk 0 0 →
      ∃ t, exec (.refCheck 0 x) s = .next t ∧ rf t (clkStatus 0) 2 0 = 2 ∧ rf t (clkStatus 0) 5 5 = 1 ∧
        t.power.floorHold = false ∧ t.power.awaitGrant = true ∧ rf t ((pgClk 0).base + Hdr.IRQ_STATUS) 16 16 = 1 ∧
        RegFrame [(pgClk 0).base, (pgHep 0).base] s t ∧ SameMemory s t) ∧
    (inRange x.link = false → inRange x.refclk = true → 7 ≤ lget s.power.refOk 1 0 →
      ∃ t, exec (.refCheck 0 x) s = .next t ∧ rf t (clkStatus 0) 2 0 = 1 ∧ t.power.floorHold = false ∧
        RegFrame [(pgClk 0).base, (pgHep 0).base] s t ∧ SameMemory s t)) ∧
  (∀ (src : Fin 3) (s : State), s.power.rails = true → src ≠ 0 → rf s (clkStatus 0) 2 0 = src.val →
    ∃ t, exec (.refLost 0 src) s = .next t ∧ rf t (clkStatus 0) 2 0 = 0 ∧ rf t (clkStatus 0) 3 3 = 1 ∧
      t.power.floorHold = true ∧ (singlePll s 0 = false → onStandby t 0 = true) ∧
      (singlePll s 1 = false → onStandby t 1 = true) ∧ rf t ((pgClk 0).base + Hdr.IRQ_STATUS) 16 16 = 1 ∧
      RegFrame [(pgPst 0).base, (pgClk 0).base, (pgClk 1).base, (pgHep 0).base] s t ∧ SameMemory s t) ∧
  (∀ (i : Fin 2) (d : ClkDomain) (b : Bool) (k : Nat) (s : State), s.power.rails = true → (i = 1 → d ≠ .sclk) →
    k = (if b then 2 else 1) → pllBit s i (domainNo d) k = false →
    (pllBit s i (domainNo d) (3 - k) = false → ∃ t, exec (.pllFailed i d b) s = .next t ∧
      pllBit t i (domainNo d) k = true ∧ t.power.rails = true ∧
      (pllBit s i (domainNo d) 0 = b → pllBit t i (domainNo d) 0 = !b) ∧
      (d = .aclk → pllBit s i 0 0 = b → t.power.pllA = 24) ∧ (d = .eclk → pllBit s i 1 0 = b → t.power.pllE = 30) ∧
      SameMemory s t) ∧
    (pllBit s i (domainNo d) (3 - k) = true → ∃ t, exec (.pllFailed i d b) s = .next t ∧ t.power.rails = false ∧
      t.pins.clockRed = true ∧ t.power.waitPwrEn = true ∧ ∀ a, memGet t.cmem a = 0)))

/-- Loss of power: a trip, PWR_EN falling and a VMAIN fault take the compute rails down with main memory and cluster memory
lost and the Vault kept, VSTBY loss and RESET_N lose the Vault too; fuses stay (R455, R464, R465). Power-up goes through the
steps of R463 in order, and READY follows the last; what is not due changes nothing. It rests on the model's choices in log
entries 4, 38 and 51. -/
def Obligations.Power_Sequence : Prop :=
  (∀ (s : State) (o : Host.Outcome State Fault Refusal),
    (s.power.rails = true ∧ (∃ (d : Fin 6) (k : Fin 16), o = exec (.thermtrip d k) s)) ∨
      (s.pins.pwrEn = true ∧ o = exec .pwrEnFall s) ∨ (s.pins.pwrEn = true ∧ s.pins.vmain = true ∧ o = exec .vmainFault s) →
    ∃ t, o = .next t ∧ t.power.rails = false ∧ t.power.waitPwrEn = true ∧ t.pins.ready = false ∧ t.pins.pwrGood = false ∧
      t.fuses = s.fuses ∧ (∀ a, memGet t.cmem a = 0) ∧ (∀ a, a < vaultBase → memGet t.mem a = 0) ∧
      (∀ a, vaultBase ≤ a → memGet t.mem a = memGet s.mem a)) ∧
  (∀ (d : Fin 6) (k : Fin 16) (s : State), s.power.rails = true →
    ∃ t, exec (.thermtrip d k) s = .next t ∧ t.pins.tripLatched = true) ∧
  (∀ s : State, (s.pins.pwrEn = true → ∃ t, exec .pwrEnFall s = .next t ∧ t.pins.pwrEn = false) ∧
    (s.pins.pwrEn = true → s.pins.vmain = true →
      ∃ t, exec .vmainFault s = .next t ∧ t.pins.vmain = false ∧ t.pins.supplyFault = true)) ∧
  (∀ (s : State) (o : Host.Outcome State Fault Refusal),
    (s.pins.vstby = true ∧ (o = exec .vstbyLoss s ∨ o = exec .resetN s)) ∨ (s.pins.vstby = false ∧ o = exec .vstbyOn s) →
    ∃ t, o = .next t ∧ t.fuses = s.fuses ∧ t.power.standbyUp = false ∧ t.power.step = 0 ∧ t.pins.ready = false ∧
      t.sec.mctp.session = false ∧ ∀ a, memGet t.mem a = 0 ∧ memGet t.cmem a = 0) ∧
  (∀ s : State, (s.pins.vstby = true → ∃ t, exec .vstbyLoss s = .next t ∧ t.pins.vstby = false ∧ t.power.rails = false) ∧
    (s.pins.vstby = false → ∃ t, exec .vstbyOn s = .next t ∧ t.pins.vstby = true) ∧
    (s.pins.vstby = true → ∃ t, exec .resetN s = .next t ∧ t.power.rails = s.power.rails ∧
      t.pins.slotId = s.pins.slotPin ∧ t.pins.boardId = s.pins.boardPin)) ∧
  (∀ s : State,
    (s.power.rails = false → ∀ d k, exec (.thermtrip d k) s = .next s) ∧
    (s.pins.pwrEn = false → exec .pwrEnFall s = .next s ∧ exec .vmainFault s = .next s) ∧
    (s.pins.vmain = false → exec .vmainFault s = .next s) ∧
    (s.pins.vstby = false → exec .vstbyLoss s = .next s ∧ exec .resetN s = .next s ∧ exec .pwrEnRise s = .next s ∧
      ∀ r, exec (.powerUpStepDone r) s = .next s) ∧
    (s.pins.vstby = true → exec .vstbyOn s = .next s) ∧
    (s.power.rails = true → s.power.waitPwrEn = false → exec .pwrEnRise s = .next s) ∧
    (s.pins.vstby = true → s.power.rails = false ∨ s.power.waitPwrEn = true → ∃ t, exec .pwrEnRise s = .next t ∧
      t.pins.pwrEn = true ∧ t.pins.vmain = true ∧ t.fuses = s.fuses ∧
      (s.pins.tripLatched = true → t.power = s.power ∧ t.regs = s.regs) ∧
      (s.pins.tripLatched = false → t.power.waitPwrEn = false ∧
        t.power.step = (if s.power.standbyUp = true ∧ s.fuses.lifecycle ≠ 4 then 1 else 0)))) ∧
  (∀ s : State, s.pins.vstby = true → s.power.rails = false → s.pins.tripLatched = false → s.power.standbyUp = true →
    s.fuses.lifecycle ≠ 4 → ∃ t, exec .pwrEnRise s = .next t ∧ t.pins.pwrEn = true ∧ t.pins.vmain = true ∧ t.power.step = 1 ∧
      t.pins.pwrGood = false) ∧
  (∀ (r : StepResult) (s : State), s.pins.vstby = true →
    (r.standby = false →
      (s.power.step = 0 → supplied s = true → ∃ t, exec (.powerUpStepDone r) s = .next t ∧ t.power.step = 2 ∧ t.regs = s.regs) ∧
      (s.power.step = 1 → ∃ t, exec (.powerUpStepDone r) s = .next t ∧ t.power.step = 2 ∧ t.regs = s.regs) ∧
      (s.power.step = 2 → r.ok = true → ∃ t, exec (.powerUpStepDone r) s = .next t ∧ t.power.step = 3 ∧
        t.power.rails = true ∧ t.pins.pwrGood = true ∧ t.power.rowsOn = 0 ∧ t.regs = s.regs) ∧
      (s.power.step = 2 ∨ s.power.step = 3 → r.ok = false → ∃ t, exec (.powerUpStepDone r) s = .next t ∧
        t.pins.supplyFault = true ∧ t.power.rails = false ∧ t.pins.ready = false) ∧
      (s.power.step = 3 → r.ok = true → 32 ≤ s.power.rowsOn → s.power.standbyUp = true →
        ∃ t, exec (.powerUpStepDone r) s = .next t ∧ t.power.step = 4 ∧ t.regs = s.regs) ∧
      (s.power.step = 4 → ∃ t, exec (.powerUpStepDone r) s = .next t ∧ t.power.step = 5) ∧
      (s.power.step = 5 → ∃ t, exec (.powerUpStepDone r) s = .next t ∧ t.pins.ready = s.pins.ready ∧
        t.power.step = (if (bootFirmware r s).1 = true then (if r.scanWanted = true ∨ redCluster s = true then 6 else 7) else 9)) ∧
      (s.power.step = 6 → ∃ t, exec (.powerUpStepDone r) s = .next t ∧ t.power.step = 7) ∧
      (s.power.step = 7 → ∃ t, exec (.powerUpStepDone r) s = .next t ∧ t.power.step = 8 ∧ t.pins.ready = true ∧
        t.regs = s.regs ∧ SameMemory s t) ∧
      ((s.power.step = 0 ∧ supplied s = false) ∨ 8 ≤ s.power.step ∨
          (s.power.step = 3 ∧ r.ok = true ∧ (s.power.rowsOn < 32 ∨ s.power.standbyUp = false)) →
        exec (.powerUpStepDone r) s = .next s)) ∧
    (r.standby = true → s.power.standbyUp = true ∨ s.sec.recovery = true → exec (.powerUpStepDone r) s = .next s) ∧
    (r.standby = true → s.power.standbyUp = false → s.fuses.lifecycle = 4 → exec (.powerUpStepDone r) s = .next s) ∧
    (r.standby = true → s.power.standbyUp = false → s.sec.recovery = false → s.fuses.lifecycle ≠ 4 →
      ((verifyClass 1 r s).1 = none → ∃ t, exec (.powerUpStepDone r) s = .next t ∧ t.sec.recovery = true ∧
        t.pins.fwFault = true ∧ t.power.standbyUp = false) ∧
      ((verifyClass 1 r s).1 ≠ none → ∃ t, exec (.powerUpStepDone r) s = .next t ∧ t.power.standbyUp = true ∧
        t.sec.recovery = false)))

/-! ### The Event Recorder and the counters -/

/-- An event that arrives takes the next SEQ with the time, its source, code and payload, or repeats the newest record when
all of these match (R471, R473, R474, R475); several of one cycle are recorded in ascending CODE and SOURCE (R474). The
oldest open record is mirrored once a newer one exists or 60 s after it, records lost to the mirror leave a MIRROR_GAP
record, and a sector that fails gives way to a spare, or leaves the ring (R476); OP_MS is kept in alternating slots (R480).
Clearing needs its KEY, leaves one CLEARED record and ends with the erase (R481). Without the standby supply nothing is
recorded. It rests on the model's choices in log entries 37, 38 and 113. -/
def Obligations.Event_Records : Prop :=
  (∀ (e : Event) (l : List Event) (s : State), s.evq = e :: l → s.pins.vstby = true →
    ((∀ r, newestRec s = some r → mergesInto r e = false) →
      ∃ t, exec (.eventRecord 1) s = .next t ∧ t.evr.head = (s.evr.head + 1) % 2 ^ 40 ∧
        t.evr.tail = max s.evr.tail (s.evr.head + 1 - 16384) ∧ tget? t.evr.ram (s.evr.head % 16384) =
          some ⟨s.evr.head, s.evr.opMs, s.evr.cycles, e.source, e.code, e.sevWorld, 0, 0, e.payload, false⟩ ∧
        t.flash = s.flash ∧ RegFrame [pgEvr.base, (pgHep 0).base] s t ∧ SameMemory s t) ∧
    (∀ r, newestRec s = some r → mergesInto r e = true →
      ∃ t, exec (.eventRecord 1) s = .next t ∧ t.evr.head = s.evr.head ∧
        tget? t.evr.ram (r.seq % 16384) = some { r with
          repeat_ := min 65535 (r.repeat_ + 1), lastDelta := min (2 ^ 32 - 1) (s.evr.opMs - r.opMs) } ∧
        t.evq = l ∧ t.flash = s.flash ∧ t.regs = s.regs ∧ SameMemory s t)) ∧
  (∀ (n : Nat) (s : State), s.pins.vstby = true → exec (.eventRecord n) s =
    .next ((sortEvents (s.evq.take n)).foldl (fun s e => recordEvent e s) { s with evq := s.evq.drop n })) ∧
  (∀ s : State, s.pins.vstby = false → (∀ n, exec (.eventRecord n) s = .next s) ∧ (∀ b, exec (.mirror b) s = .next s) ∧
    exec .opMsPersist s = .next s) ∧
  (∀ (b : Bool) (s : State), s.pins.vstby = true →
    (s.evr.lostN = 0 → oldestOpen s = none → exec (.mirror b) s = .next s) ∧
    (∀ s1, s.evr.lostN ≠ 0 → s1 = mirrorGap s →
      (∃ r, tget? s1.evr.ram (s.evr.head % 16384) = some r ∧ r.code = 0x0C03 ∧ r.seq = s.evr.head ∧
        r.payload = nfld (pack [(40, s.evr.lostFrom), (32, s.evr.lostN)]) 63 0) ∧
      (∀ r, oldestOpen s1 = some r → r.seq + 1 ≠ s1.evr.head ∨ r.opMs + r.lastDelta + 60000 ≤ s.evr.opMs →
        exec (.mirror b) s = .next (mirrorPut r (if b then sectorFailure s1 else s1))) ∧
      (∀ r, oldestOpen s1 = some r → r.seq + 1 = s1.evr.head → s.evr.opMs < r.opMs + r.lastDelta + 60000 →
        exec (.mirror b) s = .next s1) ∧ SameMemory s s1) ∧
    (∀ r, s.evr.lostN = 0 → oldestOpen s = some r → r.seq + 1 ≠ s.evr.head ∨ r.opMs + r.lastDelta + 60000 ≤ s.evr.opMs →
      (0 < rf s evrStatus 15 8 → ∃ t, exec (.mirror true) s = .next t ∧ rf t evrStatus 15 8 = rf s evrStatus 15 8 - 1 ∧
        tget? t.flash.mirror r.seq = some { r with mirrored := true } ∧ SameMemory s t) ∧
      (rf s evrStatus 15 8 = 0 → ∃ t, exec (.mirror true) s = .next t ∧ t.flash.sectors = s.flash.sectors - 1 ∧
        tget? t.flash.mirror r.seq = some { r with mirrored := true } ∧ SameMemory s t))) ∧
  (∀ (r : EvRec) (s : State), s.pins.vstby = true → s.evr.lostN = 0 → oldestOpen s = some r →
    (r.seq + 1 ≠ s.evr.head ∨ r.opMs + r.lastDelta + 60000 ≤ s.evr.opMs →
      ∃ t, exec (.mirror false) s = .next t ∧ tget? t.flash.mirror r.seq = some { r with mirrored := true } ∧
        tget? t.evr.ram (r.seq % 16384) = some { r with mirrored := true } ∧ t.regs = s.regs ∧ SameMemory s t) ∧
    (r.seq + 1 = s.evr.head → s.evr.opMs < r.opMs + r.lastDelta + 60000 → exec (.mirror false) s = .next s)) ∧
  (∀ s : State, s.pins.vstby = true → s.flash.opMsSlots.length = 2 →
    ∃ t, exec .opMsPersist s = .next t ∧ t.evr.slot = !s.evr.slot ∧
      lget t.flash.opMsSlots (if s.evr.slot then 0 else 1) none = some s.evr.opMs ∧
      lget t.flash.opMsSlots (if s.evr.slot then 1 else 0) none = lget s.flash.opMsSlots (if s.evr.slot then 1 else 0) none ∧
      t.regs = s.regs ∧ SameMemory s t) ∧
  (∀ (x : Clearer) (key : BitVec 16) (s : State), (∀ m, x = .master m → LetIn m pgEvr Reg.EVR_CLEAR s) →
    (x = .bmc → mgcUp s = true) →
    (key = 0xC1EA → ∃ t r, exec (.evrClear x key) s = .next t ∧
      t.evr.ram = [(s.evr.head % 16384, r)] ∧ r.code = 0x0C01 ∧ r.seq = s.evr.head ∧ t.flash.mirror = [] ∧
      t.evr.tail = s.evr.head ∧ t.evr.head = (s.evr.head + 1) % 2 ^ 40 ∧ rf t evrStatus 0 0 = 1 ∧
      RegFrame [pgEvr.base, (pgHep 0).base] s t ∧ SameMemory s t) ∧
    (key ≠ 0xC1EA → exec (.evrClear x key) s = .next s)) ∧
  (∀ s : State, ∃ t, exec .eraseDone s = .next t ∧ rf t evrStatus 0 0 = 0 ∧ RegsBut [evrStatus] s t ∧ SameMemory s t)

/-- An NS master reads a record whose WORLD bit is 1 with PAYLOAD as zero and every other field as stored, from RAM and from
the mirror; a secure master reads the payload too (R479). -/
def Obligations.Secure_Payload_Is_Hidden : Prop :=
  ∀ (m : Master) (r : EvRec) (q : Nat) (s : State), LetIn m pgEvr Reg.EVR_REC s → q = fld (view s m).rsel 39 0 →
    (bit (view s m).rsel 63 = false ∧ tget? s.evr.ram (q % 16384) = some r) ∨
      (bit (view s m).rsel 63 = true ∧ tget? s.flash.mirror q = some r) →
    ∃ t, exec (.rec0Read m) s = .next t ∧ (view t m).latched.length = 4 ∧
      (∀ i, i < 3 → lget (view t m).latched i 0 = lget (r.words true) i 0) ∧
      lget (view t m).latched 3 0 =
        (if Master.secure m = false ∧ nbit r.sevWorld 7 = true then 0 else BitVec.ofNat 64 r.payload) ∧
      pageWorld State.reset pgEvr = false ∧ t.evr = s.evr ∧ t.flash = s.flash ∧ t.regs = s.regs ∧ SameMemory s t

/-- A 64-bit read of EVR_REC0 latches the selected record for its master, without the payload of a secure record for the
host (R478, R479); a read of CDE_SAMPLE0 latches a sample (R488). CLEAR sets a page's counters and OVF to 0 (R482). A
snapshot that fits writes a 64-byte header and a 64-byte record for each page that is dumped; one that does not fit is
skipped and counted; a write that fails stops the engine in OFF, and a page that is not ON, or has no ring, takes none
(R266, R486, R487). It rests on the model's choices in log entries 37 and 63. -/
def Obligations.Reads_Counters_And_Snapshots : Prop :=
  (∀ (m : Master) (r : EvRec) (s : State), LetIn m pgEvr Reg.EVR_REC s → selectedRec s (view s m).rsel = some r →
    ∃ t, exec (.rec0Read m) s = .next t ∧ (view t m).latched = r.words (Master.secure m) ∧
      t.sent = s.sent ++ [.regValue m (pgEvr.base + Reg.EVR_REC) 8 (lget (r.words (Master.secure m)) 0 0).toNat] ∧
      (Master.secure m = false → nbit r.sevWorld 7 = true → lget (view t m).latched 3 0 = 0) ∧ t.regs = s.regs ∧
      t.evr = s.evr ∧ SameMemory s t) ∧
  (∀ (m : Master) (s : State), LetIn m pgEvr Reg.EVR_REC s → selectedRec s (view s m).rsel = none →
    ∃ t, exec (.rec0Read m) s = .next t ∧ (view t m).latched = [] ∧
      t.sent = s.sent ++ [.regValue m (pgEvr.base + Reg.EVR_REC) 8 0] ∧ t.regs = s.regs ∧ t.evr = s.evr ∧ SameMemory s t) ∧
  (∀ (m : Master) (s : State), LetIn m pgCde Reg.CDE_SAMPLE s →
    ∃ t, exec (.sample0Read m) s = .next t ∧ (view t m).sample = tget s.rings [] (ringKey (view s m).ssel) ∧
      t.sent = s.sent ++ [.regValue m (pgCde.base + Reg.CDE_SAMPLE) 8 (lget (tget s.rings [] (ringKey (view s m).ssel)) 0 0).toNat] ∧
      t.rings = s.rings ∧ t.regs = s.regs ∧ SameMemory s t) ∧
  (∀ (m : Master) (page : BitVec 48) (p : Page) (s : State), pageBase page = p.base → LetIn m p (Hdr.CNT_CTRL + 4) s →
    ∃ t, exec (.cntClear m page) s = .next t ∧ (∀ i, i < 8 → reg64 t (p.base + Hdr.CNT + 8 * i) = 0) ∧
      rf t (p.base + Hdr.CNT_CTRL) 23 16 = 0 ∧ rf t (p.base + Hdr.CNT_CTRL) 7 0 = rf s (p.base + Hdr.CNT_CTRL) 7 0 ∧
      RegFrame [] s t ∧ SameMemory s t) ∧
  (∀ s : State,
    (isOn s pgCde = false ∨ rf s (pgCde.base + Reg.CDE_RING_SIZE) 31 0 / 4096 * 4096 = 0 →
      exec .snapshot s = .next s ∧ ∀ m, LetIn m pgCde Reg.CDE_CMD s → exec (.snap m) s = .next s) ∧
    (rf s (pgCde.base + Reg.CDE_CONFIG) 31 0 = 0 → exec .snapshot s = .next s)) ∧
  (∀ (o : Host.Outcome State Fault Refusal) (man : Bool) (b size wr rd need : Nat) (pages : List Page) (s : State),
    b = pgCde.base → size = rf s (b + Reg.CDE_RING_SIZE) 31 0 / 4096 * 4096 → isOn s pgCde = true → size ≠ 0 →
    pages = (dumpPages s).filter (fun p => pageLive s p) → need = 64 * (1 + pages.length) →
    wr = rf s (b + Reg.CDE_RING_WR) 31 0 % size → rd = rf s (b + Reg.CDE_RING_RD) 31 0 % size →
    (man = true ∧ (∃ m, LetIn m pgCde Reg.CDE_CMD s ∧ o = exec (.snap m) s)) ∨
      (man = false ∧ rf s (b + Reg.CDE_CONFIG) 31 0 ≠ 0 ∧ o = exec .snapshot s) →
    (size < (wr + size - rd) % size + need → ∃ t, o = .next t ∧
      rf t (b + Reg.CDE_SKIPPED) 31 0 = min (2 ^ 32 - 1) (rf s (b + Reg.CDE_SKIPPED) 31 0 + 1) ∧
      rf t (b + Hdr.IRQ_STATUS) 16 16 = 1 ∧ RegFrame [b, (pgHep 0).base] s t ∧ SameMemory s t) ∧
    (∀ e s2, (wr + size - rd) % size + need ≤ size →
      ringWrite (reg64 s (b + Reg.CDE_RING_PA) / 4096 * 4096) size wr
        ((leBytes 2 0x0C10 ++ leBytes 2 ((if man then 1 else 0) + (if pages.length < (dumpPages s).length then 2 else 0)) ++
          leBytes 4 (rf s (b + Reg.CDE_SNAP_SEQ) 31 0) ++ leBytes 8 (s.evr.opMs % 2 ^ 40 + s.evr.cycles * 2 ^ 40) ++
          leBytes 4 pages.length ++ leBytes 4 (rf s (b + Reg.CDE_SKIPPED) 31 0) ++ leBytes 8 (pageCycle s pgCde) ++
          leBytes 32 0) :: pages.map (dumpRecord s)) s = (.error e, s2) →
      ∃ t, o = .next t ∧ t.mem = s2.mem ∧ t.cmem = s2.cmem ∧ pageState t pgCde = 0) ∧
    (∀ s2, (wr + size - rd) % size + need ≤ size →
      ringWrite (reg64 s (b + Reg.CDE_RING_PA) / 4096 * 4096) size wr
        ((leBytes 2 0x0C10 ++ leBytes 2 ((if man then 1 else 0) + (if pages.length < (dumpPages s).length then 2 else 0)) ++
          leBytes 4 (rf s (b + Reg.CDE_SNAP_SEQ) 31 0) ++ leBytes 8 (s.evr.opMs % 2 ^ 40 + s.evr.cycles * 2 ^ 40) ++
          leBytes 4 pages.length ++ leBytes 4 (rf s (b + Reg.CDE_SKIPPED) 31 0) ++ leBytes 8 (pageCycle s pgCde) ++
          leBytes 32 0) :: pages.map (dumpRecord s)) s = (.ok (), s2) →
      ∃ t, o = .next t ∧ t.mem = s2.mem ∧ t.cmem = s2.cmem ∧ (regGet t (b + Reg.CDE_RING_WR)).toNat = (wr + need) % size ∧
        (regGet t (b + Reg.CDE_SNAP_SEQ)).toNat = (rf s (b + Reg.CDE_SNAP_SEQ) 31 0 + 1) % 2 ^ 32))
end

