-- ==== Sys2Proof/Laws/State.lean ====
section
/-! SUPPORT. What each basic update of State leaves alone: one lemma per field and update, true by definition. -/

namespace Sys2Proof.Machine

/-! ### `regSet` changes `regs` only -/

section regSet
variable (a : Nat) (w : Word) (s : State)
@[simp] theorem regSet_pending : (regSet a w s).pending = s.pending := rfl
@[simp] theorem regSet_mem : (regSet a w s).mem = s.mem := rfl
@[simp] theorem regSet_cmem : (regSet a w s).cmem = s.cmem := rfl
@[simp] theorem regSet_memObs : (regSet a w s).memObs = s.memObs := rfl
@[simp] theorem regSet_markers : (regSet a w s).markers = s.markers := rfl
@[simp] theorem regSet_clk : (regSet a w s).clk = s.clk := rfl
@[simp] theorem regSet_cycOff : (regSet a w s).cycOff = s.cycOff := rfl
@[simp] theorem regSet_irqSent : (regSet a w s).irqSent = s.irqSent := rfl
@[simp] theorem regSet_softDue : (regSet a w s).softDue = s.softDue := rfl
@[simp] theorem regSet_cycStop : (regSet a w s).cycStop = s.cycStop := rfl
@[simp] theorem regSet_fuses : (regSet a w s).fuses = s.fuses := rfl
@[simp] theorem regSet_flash : (regSet a w s).flash = s.flash := rfl
@[simp] theorem regSet_pins : (regSet a w s).pins = s.pins := rfl
@[simp] theorem regSet_array : (regSet a w s).array = s.array := rfl
@[simp] theorem regSet_acon : (regSet a w s).acon = s.acon := rfl
@[simp] theorem regSet_winSerial : (regSet a w s).winSerial = s.winSerial := rfl
@[simp] theorem regSet_flying : (regSet a w s).flying = s.flying := rfl
@[simp] theorem regSet_clusters : (regSet a w s).clusters = s.clusters := rfl
@[simp] theorem regSet_skeep : (regSet a w s).skeep = s.skeep := rfl
@[simp] theorem regSet_statq : (regSet a w s).statq = s.statq := rfl
@[simp] theorem regSet_statNo : (regSet a w s).statNo = s.statNo := rfl
@[simp] theorem regSet_identWin : (regSet a w s).identWin = s.identWin := rfl
@[simp] theorem regSet_evacGroup : (regSet a w s).evacGroup = s.evacGroup := rfl
@[simp] theorem regSet_mr4 : (regSet a w s).mr4 = s.mr4 := rfl
@[simp] theorem regSet_xlat : (regSet a w s).xlat = s.xlat := rfl
@[simp] theorem regSet_inval : (regSet a w s).inval = s.inval := rfl
@[simp] theorem regSet_streams : (regSet a w s).streams = s.streams := rfl
@[simp] theorem regSet_movers : (regSet a w s).movers = s.movers := rfl
@[simp] theorem regSet_moverNext : (regSet a w s).moverNext = s.moverNext := rfl
@[simp] theorem regSet_moverDead : (regSet a w s).moverDead = s.moverDead := rfl
@[simp] theorem regSet_badMovers : (regSet a w s).badMovers = s.badMovers := rfl
@[simp] theorem regSet_ports : (regSet a w s).ports = s.ports := rfl
@[simp] theorem regSet_routes : (regSet a w s).routes = s.routes := rfl
@[simp] theorem regSet_tags : (regSet a w s).tags = s.tags := rfl
@[simp] theorem regSet_xseq : (regSet a w s).xseq = s.xseq := rfl
@[simp] theorem regSet_qps : (regSet a w s).qps = s.qps := rfl
@[simp] theorem regSet_queues : (regSet a w s).queues = s.queues := rfl
@[simp] theorem regSet_jobMovers : (regSet a w s).jobMovers = s.jobMovers := rfl
@[simp] theorem regSet_linkDownAt : (regSet a w s).linkDownAt = s.linkDownAt := rfl
@[simp] theorem regSet_paused : (regSet a w s).paused = s.paused := rfl
@[simp] theorem regSet_heldTx : (regSet a w s).heldTx = s.heldTx := rfl
@[simp] theorem regSet_hostWait : (regSet a w s).hostWait = s.hostWait := rfl
@[simp] theorem regSet_views : (regSet a w s).views = s.views := rfl
@[simp] theorem regSet_evq : (regSet a w s).evq = s.evq := rfl
@[simp] theorem regSet_evr : (regSet a w s).evr = s.evr := rfl
@[simp] theorem regSet_rings : (regSet a w s).rings = s.rings := rfl
@[simp] theorem regSet_sampleCnt : (regSet a w s).sampleCnt = s.sampleCnt := rfl
@[simp] theorem regSet_hlthSeq : (regSet a w s).hlthSeq = s.hlthSeq := rfl
@[simp] theorem regSet_patrolSince : (regSet a w s).patrolSince = s.patrolSince := rfl
@[simp] theorem regSet_changes : (regSet a w s).changes = s.changes := rfl
@[simp] theorem regSet_colours : (regSet a w s).colours = s.colours := rfl
@[simp] theorem regSet_sec : (regSet a w s).sec = s.sec := rfl
@[simp] theorem regSet_power : (regSet a w s).power = s.power := rfl
@[simp] theorem regSet_sent : (regSet a w s).sent = s.sent := rfl
@[simp] theorem regSet_draws : (regSet a w s).draws = s.draws := rfl
end regSet

/-! ### `output` changes `sent` only -/

section output
variable (o : Sent) (s : State)
@[simp] theorem output_pending : (output o s).pending = s.pending := rfl
@[simp] theorem output_regs : (output o s).regs = s.regs := rfl
@[simp] theorem output_mem : (output o s).mem = s.mem := rfl
@[simp] theorem output_cmem : (output o s).cmem = s.cmem := rfl
@[simp] theorem output_memObs : (output o s).memObs = s.memObs := rfl
@[simp] theorem output_markers : (output o s).markers = s.markers := rfl
@[simp] theorem output_clk : (output o s).clk = s.clk := rfl
@[simp] theorem output_cycOff : (output o s).cycOff = s.cycOff := rfl
@[simp] theorem output_irqSent : (output o s).irqSent = s.irqSent := rfl
@[simp] theorem output_softDue : (output o s).softDue = s.softDue := rfl
@[simp] theorem output_cycStop : (output o s).cycStop = s.cycStop := rfl
@[simp] theorem output_fuses : (output o s).fuses = s.fuses := rfl
@[simp] theorem output_flash : (output o s).flash = s.flash := rfl
@[simp] theorem output_pins : (output o s).pins = s.pins := rfl
@[simp] theorem output_array : (output o s).array = s.array := rfl
@[simp] theorem output_acon : (output o s).acon = s.acon := rfl
@[simp] theorem output_winSerial : (output o s).winSerial = s.winSerial := rfl
@[simp] theorem output_flying : (output o s).flying = s.flying := rfl
@[simp] theorem output_clusters : (output o s).clusters = s.clusters := rfl
@[simp] theorem output_skeep : (output o s).skeep = s.skeep := rfl
@[simp] theorem output_statq : (output o s).statq = s.statq := rfl
@[simp] theorem output_statNo : (output o s).statNo = s.statNo := rfl
@[simp] theorem output_identWin : (output o s).identWin = s.identWin := rfl
@[simp] theorem output_evacGroup : (output o s).evacGroup = s.evacGroup := rfl
@[simp] theorem output_mr4 : (output o s).mr4 = s.mr4 := rfl
@[simp] theorem output_xlat : (output o s).xlat = s.xlat := rfl
@[simp] theorem output_inval : (output o s).inval = s.inval := rfl
@[simp] theorem output_streams : (output o s).streams = s.streams := rfl
@[simp] theorem output_movers : (output o s).movers = s.movers := rfl
@[simp] theorem output_moverNext : (output o s).moverNext = s.moverNext := rfl
@[simp] theorem output_moverDead : (output o s).moverDead = s.moverDead := rfl
@[simp] theorem output_badMovers : (output o s).badMovers = s.badMovers := rfl
@[simp] theorem output_ports : (output o s).ports = s.ports := rfl
@[simp] theorem output_routes : (output o s).routes = s.routes := rfl
@[simp] theorem output_tags : (output o s).tags = s.tags := rfl
@[simp] theorem output_xseq : (output o s).xseq = s.xseq := rfl
@[simp] theorem output_qps : (output o s).qps = s.qps := rfl
@[simp] theorem output_queues : (output o s).queues = s.queues := rfl
@[simp] theorem output_jobMovers : (output o s).jobMovers = s.jobMovers := rfl
@[simp] theorem output_linkDownAt : (output o s).linkDownAt = s.linkDownAt := rfl
@[simp] theorem output_paused : (output o s).paused = s.paused := rfl
@[simp] theorem output_heldTx : (output o s).heldTx = s.heldTx := rfl
@[simp] theorem output_hostWait : (output o s).hostWait = s.hostWait := rfl
@[simp] theorem output_views : (output o s).views = s.views := rfl
@[simp] theorem output_evq : (output o s).evq = s.evq := rfl
@[simp] theorem output_evr : (output o s).evr = s.evr := rfl
@[simp] theorem output_rings : (output o s).rings = s.rings := rfl
@[simp] theorem output_sampleCnt : (output o s).sampleCnt = s.sampleCnt := rfl
@[simp] theorem output_hlthSeq : (output o s).hlthSeq = s.hlthSeq := rfl
@[simp] theorem output_patrolSince : (output o s).patrolSince = s.patrolSince := rfl
@[simp] theorem output_changes : (output o s).changes = s.changes := rfl
@[simp] theorem output_colours : (output o s).colours = s.colours := rfl
@[simp] theorem output_sec : (output o s).sec = s.sec := rfl
@[simp] theorem output_power : (output o s).power = s.power := rfl
@[simp] theorem output_draws : (output o s).draws = s.draws := rfl
end output

/-! ### `emit` changes `evq` only -/

section emit
variable (p : Page) (ev payload : Nat) (s : State)
@[simp] theorem emit_pending : (emit p ev payload s).pending = s.pending := rfl
@[simp] theorem emit_regs : (emit p ev payload s).regs = s.regs := rfl
@[simp] theorem emit_mem : (emit p ev payload s).mem = s.mem := rfl
@[simp] theorem emit_cmem : (emit p ev payload s).cmem = s.cmem := rfl
@[simp] theorem emit_memObs : (emit p ev payload s).memObs = s.memObs := rfl
@[simp] theorem emit_markers : (emit p ev payload s).markers = s.markers := rfl
@[simp] theorem emit_clk : (emit p ev payload s).clk = s.clk := rfl
@[simp] theorem emit_cycOff : (emit p ev payload s).cycOff = s.cycOff := rfl
@[simp] theorem emit_irqSent : (emit p ev payload s).irqSent = s.irqSent := rfl
@[simp] theorem emit_softDue : (emit p ev payload s).softDue = s.softDue := rfl
@[simp] theorem emit_cycStop : (emit p ev payload s).cycStop = s.cycStop := rfl
@[simp] theorem emit_fuses : (emit p ev payload s).fuses = s.fuses := rfl
@[simp] theorem emit_flash : (emit p ev payload s).flash = s.flash := rfl
@[simp] theorem emit_pins : (emit p ev payload s).pins = s.pins := rfl
@[simp] theorem emit_array : (emit p ev payload s).array = s.array := rfl
@[simp] theorem emit_acon : (emit p ev payload s).acon = s.acon := rfl
@[simp] theorem emit_winSerial : (emit p ev payload s).winSerial = s.winSerial := rfl
@[simp] theorem emit_flying : (emit p ev payload s).flying = s.flying := rfl
@[simp] theorem emit_clusters : (emit p ev payload s).clusters = s.clusters := rfl
@[simp] theorem emit_skeep : (emit p ev payload s).skeep = s.skeep := rfl
@[simp] theorem emit_statq : (emit p ev payload s).statq = s.statq := rfl
@[simp] theorem emit_statNo : (emit p ev payload s).statNo = s.statNo := rfl
@[simp] theorem emit_identWin : (emit p ev payload s).identWin = s.identWin := rfl
@[simp] theorem emit_evacGroup : (emit p ev payload s).evacGroup = s.evacGroup := rfl
@[simp] theorem emit_mr4 : (emit p ev payload s).mr4 = s.mr4 := rfl
@[simp] theorem emit_xlat : (emit p ev payload s).xlat = s.xlat := rfl
@[simp] theorem emit_inval : (emit p ev payload s).inval = s.inval := rfl
@[simp] theorem emit_streams : (emit p ev payload s).streams = s.streams := rfl
@[simp] theorem emit_movers : (emit p ev payload s).movers = s.movers := rfl
@[simp] theorem emit_moverNext : (emit p ev payload s).moverNext = s.moverNext := rfl
@[simp] theorem emit_moverDead : (emit p ev payload s).moverDead = s.moverDead := rfl
@[simp] theorem emit_badMovers : (emit p ev payload s).badMovers = s.badMovers := rfl
@[simp] theorem emit_ports : (emit p ev payload s).ports = s.ports := rfl
@[simp] theorem emit_routes : (emit p ev payload s).routes = s.routes := rfl
@[simp] theorem emit_tags : (emit p ev payload s).tags = s.tags := rfl
@[simp] theorem emit_xseq : (emit p ev payload s).xseq = s.xseq := rfl
@[simp] theorem emit_qps : (emit p ev payload s).qps = s.qps := rfl
@[simp] theorem emit_queues : (emit p ev payload s).queues = s.queues := rfl
@[simp] theorem emit_jobMovers : (emit p ev payload s).jobMovers = s.jobMovers := rfl
@[simp] theorem emit_linkDownAt : (emit p ev payload s).linkDownAt = s.linkDownAt := rfl
@[simp] theorem emit_paused : (emit p ev payload s).paused = s.paused := rfl
@[simp] theorem emit_heldTx : (emit p ev payload s).heldTx = s.heldTx := rfl
@[simp] theorem emit_hostWait : (emit p ev payload s).hostWait = s.hostWait := rfl
@[simp] theorem emit_views : (emit p ev payload s).views = s.views := rfl
@[simp] theorem emit_evr : (emit p ev payload s).evr = s.evr := rfl
@[simp] theorem emit_rings : (emit p ev payload s).rings = s.rings := rfl
@[simp] theorem emit_sampleCnt : (emit p ev payload s).sampleCnt = s.sampleCnt := rfl
@[simp] theorem emit_hlthSeq : (emit p ev payload s).hlthSeq = s.hlthSeq := rfl
@[simp] theorem emit_patrolSince : (emit p ev payload s).patrolSince = s.patrolSince := rfl
@[simp] theorem emit_changes : (emit p ev payload s).changes = s.changes := rfl
@[simp] theorem emit_colours : (emit p ev payload s).colours = s.colours := rfl
@[simp] theorem emit_sec : (emit p ev payload s).sec = s.sec := rfl
@[simp] theorem emit_power : (emit p ev payload s).power = s.power := rfl
@[simp] theorem emit_sent : (emit p ev payload s).sent = s.sent := rfl
@[simp] theorem emit_draws : (emit p ev payload s).draws = s.draws := rfl
end emit

/-! ### `sendSignal` changes `flying` only -/

section sendSignal
variable (x : Signal) (s : State)
@[simp] theorem sendSignal_pending : (sendSignal x s).pending = s.pending := rfl
@[simp] theorem sendSignal_regs : (sendSignal x s).regs = s.regs := rfl
@[simp] theorem sendSignal_mem : (sendSignal x s).mem = s.mem := rfl
@[simp] theorem sendSignal_cmem : (sendSignal x s).cmem = s.cmem := rfl
@[simp] theorem sendSignal_memObs : (sendSignal x s).memObs = s.memObs := rfl
@[simp] theorem sendSignal_markers : (sendSignal x s).markers = s.markers := rfl
@[simp] theorem sendSignal_clk : (sendSignal x s).clk = s.clk := rfl
@[simp] theorem sendSignal_cycOff : (sendSignal x s).cycOff = s.cycOff := rfl
@[simp] theorem sendSignal_irqSent : (sendSignal x s).irqSent = s.irqSent := rfl
@[simp] theorem sendSignal_softDue : (sendSignal x s).softDue = s.softDue := rfl
@[simp] theorem sendSignal_cycStop : (sendSignal x s).cycStop = s.cycStop := rfl
@[simp] theorem sendSignal_fuses : (sendSignal x s).fuses = s.fuses := rfl
@[simp] theorem sendSignal_flash : (sendSignal x s).flash = s.flash := rfl
@[simp] theorem sendSignal_pins : (sendSignal x s).pins = s.pins := rfl
@[simp] theorem sendSignal_array : (sendSignal x s).array = s.array := rfl
@[simp] theorem sendSignal_acon : (sendSignal x s).acon = s.acon := rfl
@[simp] theorem sendSignal_winSerial : (sendSignal x s).winSerial = s.winSerial := rfl
@[simp] theorem sendSignal_clusters : (sendSignal x s).clusters = s.clusters := rfl
@[simp] theorem sendSignal_skeep : (sendSignal x s).skeep = s.skeep := rfl
@[simp] theorem sendSignal_statq : (sendSignal x s).statq = s.statq := rfl
@[simp] theorem sendSignal_statNo : (sendSignal x s).statNo = s.statNo := rfl
@[simp] theorem sendSignal_identWin : (sendSignal x s).identWin = s.identWin := rfl
@[simp] theorem sendSignal_evacGroup : (sendSignal x s).evacGroup = s.evacGroup := rfl
@[simp] theorem sendSignal_mr4 : (sendSignal x s).mr4 = s.mr4 := rfl
@[simp] theorem sendSignal_xlat : (sendSignal x s).xlat = s.xlat := rfl
@[simp] theorem sendSignal_inval : (sendSignal x s).inval = s.inval := rfl
@[simp] theorem sendSignal_streams : (sendSignal x s).streams = s.streams := rfl
@[simp] theorem sendSignal_movers : (sendSignal x s).movers = s.movers := rfl
@[simp] theorem sendSignal_moverNext : (sendSignal x s).moverNext = s.moverNext := rfl
@[simp] theorem sendSignal_moverDead : (sendSignal x s).moverDead = s.moverDead := rfl
@[simp] theorem sendSignal_badMovers : (sendSignal x s).badMovers = s.badMovers := rfl
@[simp] theorem sendSignal_ports : (sendSignal x s).ports = s.ports := rfl
@[simp] theorem sendSignal_routes : (sendSignal x s).routes = s.routes := rfl
@[simp] theorem sendSignal_tags : (sendSignal x s).tags = s.tags := rfl
@[simp] theorem sendSignal_xseq : (sendSignal x s).xseq = s.xseq := rfl
@[simp] theorem sendSignal_qps : (sendSignal x s).qps = s.qps := rfl
@[simp] theorem sendSignal_queues : (sendSignal x s).queues = s.queues := rfl
@[simp] theorem sendSignal_jobMovers : (sendSignal x s).jobMovers = s.jobMovers := rfl
@[simp] theorem sendSignal_linkDownAt : (sendSignal x s).linkDownAt = s.linkDownAt := rfl
@[simp] theorem sendSignal_paused : (sendSignal x s).paused = s.paused := rfl
@[simp] theorem sendSignal_heldTx : (sendSignal x s).heldTx = s.heldTx := rfl
@[simp] theorem sendSignal_hostWait : (sendSignal x s).hostWait = s.hostWait := rfl
@[simp] theorem sendSignal_views : (sendSignal x s).views = s.views := rfl
@[simp] theorem sendSignal_evq : (sendSignal x s).evq = s.evq := rfl
@[simp] theorem sendSignal_evr : (sendSignal x s).evr = s.evr := rfl
@[simp] theorem sendSignal_rings : (sendSignal x s).rings = s.rings := rfl
@[simp] theorem sendSignal_sampleCnt : (sendSignal x s).sampleCnt = s.sampleCnt := rfl
@[simp] theorem sendSignal_hlthSeq : (sendSignal x s).hlthSeq = s.hlthSeq := rfl
@[simp] theorem sendSignal_patrolSince : (sendSignal x s).patrolSince = s.patrolSince := rfl
@[simp] theorem sendSignal_changes : (sendSignal x s).changes = s.changes := rfl
@[simp] theorem sendSignal_colours : (sendSignal x s).colours = s.colours := rfl
@[simp] theorem sendSignal_sec : (sendSignal x s).sec = s.sec := rfl
@[simp] theorem sendSignal_power : (sendSignal x s).power = s.power := rfl
@[simp] theorem sendSignal_sent : (sendSignal x s).sent = s.sent := rfl
@[simp] theorem sendSignal_draws : (sendSignal x s).draws = s.draws := rfl
end sendSignal

/-! ### `actxMod` changes `acon` only -/

section actxMod
variable (c : Nat) (f : AconCtx → AconCtx) (s : State)
@[simp] theorem actxMod_pending : (actxMod c f s).pending = s.pending := rfl
@[simp] theorem actxMod_regs : (actxMod c f s).regs = s.regs := rfl
@[simp] theorem actxMod_mem : (actxMod c f s).mem = s.mem := rfl
@[simp] theorem actxMod_cmem : (actxMod c f s).cmem = s.cmem := rfl
@[simp] theorem actxMod_memObs : (actxMod c f s).memObs = s.memObs := rfl
@[simp] theorem actxMod_markers : (actxMod c f s).markers = s.markers := rfl
@[simp] theorem actxMod_clk : (actxMod c f s).clk = s.clk := rfl
@[simp] theorem actxMod_cycOff : (actxMod c f s).cycOff = s.cycOff := rfl
@[simp] theorem actxMod_irqSent : (actxMod c f s).irqSent = s.irqSent := rfl
@[simp] theorem actxMod_softDue : (actxMod c f s).softDue = s.softDue := rfl
@[simp] theorem actxMod_cycStop : (actxMod c f s).cycStop = s.cycStop := rfl
@[simp] theorem actxMod_fuses : (actxMod c f s).fuses = s.fuses := rfl
@[simp] theorem actxMod_flash : (actxMod c f s).flash = s.flash := rfl
@[simp] theorem actxMod_pins : (actxMod c f s).pins = s.pins := rfl
@[simp] theorem actxMod_array : (actxMod c f s).array = s.array := rfl
@[simp] theorem actxMod_winSerial : (actxMod c f s).winSerial = s.winSerial := rfl
@[simp] theorem actxMod_flying : (actxMod c f s).flying = s.flying := rfl
@[simp] theorem actxMod_clusters : (actxMod c f s).clusters = s.clusters := rfl
@[simp] theorem actxMod_skeep : (actxMod c f s).skeep = s.skeep := rfl
@[simp] theorem actxMod_statq : (actxMod c f s).statq = s.statq := rfl
@[simp] theorem actxMod_statNo : (actxMod c f s).statNo = s.statNo := rfl
@[simp] theorem actxMod_identWin : (actxMod c f s).identWin = s.identWin := rfl
@[simp] theorem actxMod_evacGroup : (actxMod c f s).evacGroup = s.evacGroup := rfl
@[simp] theorem actxMod_mr4 : (actxMod c f s).mr4 = s.mr4 := rfl
@[simp] theorem actxMod_xlat : (actxMod c f s).xlat = s.xlat := rfl
@[simp] theorem actxMod_inval : (actxMod c f s).inval = s.inval := rfl
@[simp] theorem actxMod_streams : (actxMod c f s).streams = s.streams := rfl
@[simp] theorem actxMod_movers : (actxMod c f s).movers = s.movers := rfl
@[simp] theorem actxMod_moverNext : (actxMod c f s).moverNext = s.moverNext := rfl
@[simp] theorem actxMod_moverDead : (actxMod c f s).moverDead = s.moverDead := rfl
@[simp] theorem actxMod_badMovers : (actxMod c f s).badMovers = s.badMovers := rfl
@[simp] theorem actxMod_ports : (actxMod c f s).ports = s.ports := rfl
@[simp] theorem actxMod_routes : (actxMod c f s).routes = s.routes := rfl
@[simp] theorem actxMod_tags : (actxMod c f s).tags = s.tags := rfl
@[simp] theorem actxMod_xseq : (actxMod c f s).xseq = s.xseq := rfl
@[simp] theorem actxMod_qps : (actxMod c f s).qps = s.qps := rfl
@[simp] theorem actxMod_queues : (actxMod c f s).queues = s.queues := rfl
@[simp] theorem actxMod_jobMovers : (actxMod c f s).jobMovers = s.jobMovers := rfl
@[simp] theorem actxMod_linkDownAt : (actxMod c f s).linkDownAt = s.linkDownAt := rfl
@[simp] theorem actxMod_paused : (actxMod c f s).paused = s.paused := rfl
@[simp] theorem actxMod_heldTx : (actxMod c f s).heldTx = s.heldTx := rfl
@[simp] theorem actxMod_hostWait : (actxMod c f s).hostWait = s.hostWait := rfl
@[simp] theorem actxMod_views : (actxMod c f s).views = s.views := rfl
@[simp] theorem actxMod_evq : (actxMod c f s).evq = s.evq := rfl
@[simp] theorem actxMod_evr : (actxMod c f s).evr = s.evr := rfl
@[simp] theorem actxMod_rings : (actxMod c f s).rings = s.rings := rfl
@[simp] theorem actxMod_sampleCnt : (actxMod c f s).sampleCnt = s.sampleCnt := rfl
@[simp] theorem actxMod_hlthSeq : (actxMod c f s).hlthSeq = s.hlthSeq := rfl
@[simp] theorem actxMod_patrolSince : (actxMod c f s).patrolSince = s.patrolSince := rfl
@[simp] theorem actxMod_changes : (actxMod c f s).changes = s.changes := rfl
@[simp] theorem actxMod_colours : (actxMod c f s).colours = s.colours := rfl
@[simp] theorem actxMod_sec : (actxMod c f s).sec = s.sec := rfl
@[simp] theorem actxMod_power : (actxMod c f s).power = s.power := rfl
@[simp] theorem actxMod_sent : (actxMod c f s).sent = s.sent := rfl
@[simp] theorem actxMod_draws : (actxMod c f s).draws = s.draws := rfl
end actxMod

/-! ### `cluMod` changes `clusters` only -/

section cluMod
variable (n : Nat) (f : ClusterState → ClusterState) (s : State)
@[simp] theorem cluMod_pending : (cluMod n f s).pending = s.pending := rfl
@[simp] theorem cluMod_regs : (cluMod n f s).regs = s.regs := rfl
@[simp] theorem cluMod_mem : (cluMod n f s).mem = s.mem := rfl
@[simp] theorem cluMod_cmem : (cluMod n f s).cmem = s.cmem := rfl
@[simp] theorem cluMod_memObs : (cluMod n f s).memObs = s.memObs := rfl
@[simp] theorem cluMod_markers : (cluMod n f s).markers = s.markers := rfl
@[simp] theorem cluMod_clk : (cluMod n f s).clk = s.clk := rfl
@[simp] theorem cluMod_cycOff : (cluMod n f s).cycOff = s.cycOff := rfl
@[simp] theorem cluMod_irqSent : (cluMod n f s).irqSent = s.irqSent := rfl
@[simp] theorem cluMod_softDue : (cluMod n f s).softDue = s.softDue := rfl
@[simp] theorem cluMod_cycStop : (cluMod n f s).cycStop = s.cycStop := rfl
@[simp] theorem cluMod_fuses : (cluMod n f s).fuses = s.fuses := rfl
@[simp] theorem cluMod_flash : (cluMod n f s).flash = s.flash := rfl
@[simp] theorem cluMod_pins : (cluMod n f s).pins = s.pins := rfl
@[simp] theorem cluMod_array : (cluMod n f s).array = s.array := rfl
@[simp] theorem cluMod_acon : (cluMod n f s).acon = s.acon := rfl
@[simp] theorem cluMod_winSerial : (cluMod n f s).winSerial = s.winSerial := rfl
@[simp] theorem cluMod_flying : (cluMod n f s).flying = s.flying := rfl
@[simp] theorem cluMod_skeep : (cluMod n f s).skeep = s.skeep := rfl
@[simp] theorem cluMod_statq : (cluMod n f s).statq = s.statq := rfl
@[simp] theorem cluMod_statNo : (cluMod n f s).statNo = s.statNo := rfl
@[simp] theorem cluMod_identWin : (cluMod n f s).identWin = s.identWin := rfl
@[simp] theorem cluMod_evacGroup : (cluMod n f s).evacGroup = s.evacGroup := rfl
@[simp] theorem cluMod_mr4 : (cluMod n f s).mr4 = s.mr4 := rfl
@[simp] theorem cluMod_xlat : (cluMod n f s).xlat = s.xlat := rfl
@[simp] theorem cluMod_inval : (cluMod n f s).inval = s.inval := rfl
@[simp] theorem cluMod_streams : (cluMod n f s).streams = s.streams := rfl
@[simp] theorem cluMod_movers : (cluMod n f s).movers = s.movers := rfl
@[simp] theorem cluMod_moverNext : (cluMod n f s).moverNext = s.moverNext := rfl
@[simp] theorem cluMod_moverDead : (cluMod n f s).moverDead = s.moverDead := rfl
@[simp] theorem cluMod_badMovers : (cluMod n f s).badMovers = s.badMovers := rfl
@[simp] theorem cluMod_ports : (cluMod n f s).ports = s.ports := rfl
@[simp] theorem cluMod_routes : (cluMod n f s).routes = s.routes := rfl
@[simp] theorem cluMod_tags : (cluMod n f s).tags = s.tags := rfl
@[simp] theorem cluMod_xseq : (cluMod n f s).xseq = s.xseq := rfl
@[simp] theorem cluMod_qps : (cluMod n f s).qps = s.qps := rfl
@[simp] theorem cluMod_queues : (cluMod n f s).queues = s.queues := rfl
@[simp] theorem cluMod_jobMovers : (cluMod n f s).jobMovers = s.jobMovers := rfl
@[simp] theorem cluMod_linkDownAt : (cluMod n f s).linkDownAt = s.linkDownAt := rfl
@[simp] theorem cluMod_paused : (cluMod n f s).paused = s.paused := rfl
@[simp] theorem cluMod_heldTx : (cluMod n f s).heldTx = s.heldTx := rfl
@[simp] theorem cluMod_hostWait : (cluMod n f s).hostWait = s.hostWait := rfl
@[simp] theorem cluMod_views : (cluMod n f s).views = s.views := rfl
@[simp] theorem cluMod_evq : (cluMod n f s).evq = s.evq := rfl
@[simp] theorem cluMod_evr : (cluMod n f s).evr = s.evr := rfl
@[simp] theorem cluMod_rings : (cluMod n f s).rings = s.rings := rfl
@[simp] theorem cluMod_sampleCnt : (cluMod n f s).sampleCnt = s.sampleCnt := rfl
@[simp] theorem cluMod_hlthSeq : (cluMod n f s).hlthSeq = s.hlthSeq := rfl
@[simp] theorem cluMod_patrolSince : (cluMod n f s).patrolSince = s.patrolSince := rfl
@[simp] theorem cluMod_changes : (cluMod n f s).changes = s.changes := rfl
@[simp] theorem cluMod_colours : (cluMod n f s).colours = s.colours := rfl
@[simp] theorem cluMod_sec : (cluMod n f s).sec = s.sec := rfl
@[simp] theorem cluMod_power : (cluMod n f s).power = s.power := rfl
@[simp] theorem cluMod_sent : (cluMod n f s).sent = s.sent := rfl
@[simp] theorem cluMod_draws : (cluMod n f s).draws = s.draws := rfl
end cluMod

/-! ### `bankPut` changes `array` only -/

section bankPut
variable (p : Nat) (b : Bank) (s : State)
@[simp] theorem bankPut_pending : (bankPut p b s).pending = s.pending := rfl
@[simp] theorem bankPut_regs : (bankPut p b s).regs = s.regs := rfl
@[simp] theorem bankPut_mem : (bankPut p b s).mem = s.mem := rfl
@[simp] theorem bankPut_cmem : (bankPut p b s).cmem = s.cmem := rfl
@[simp] theorem bankPut_memObs : (bankPut p b s).memObs = s.memObs := rfl
@[simp] theorem bankPut_markers : (bankPut p b s).markers = s.markers := rfl
@[simp] theorem bankPut_clk : (bankPut p b s).clk = s.clk := rfl
@[simp] theorem bankPut_cycOff : (bankPut p b s).cycOff = s.cycOff := rfl
@[simp] theorem bankPut_irqSent : (bankPut p b s).irqSent = s.irqSent := rfl
@[simp] theorem bankPut_softDue : (bankPut p b s).softDue = s.softDue := rfl
@[simp] theorem bankPut_cycStop : (bankPut p b s).cycStop = s.cycStop := rfl
@[simp] theorem bankPut_fuses : (bankPut p b s).fuses = s.fuses := rfl
@[simp] theorem bankPut_flash : (bankPut p b s).flash = s.flash := rfl
@[simp] theorem bankPut_pins : (bankPut p b s).pins = s.pins := rfl
@[simp] theorem bankPut_acon : (bankPut p b s).acon = s.acon := rfl
@[simp] theorem bankPut_winSerial : (bankPut p b s).winSerial = s.winSerial := rfl
@[simp] theorem bankPut_flying : (bankPut p b s).flying = s.flying := rfl
@[simp] theorem bankPut_clusters : (bankPut p b s).clusters = s.clusters := rfl
@[simp] theorem bankPut_skeep : (bankPut p b s).skeep = s.skeep := rfl
@[simp] theorem bankPut_statq : (bankPut p b s).statq = s.statq := rfl
@[simp] theorem bankPut_statNo : (bankPut p b s).statNo = s.statNo := rfl
@[simp] theorem bankPut_identWin : (bankPut p b s).identWin = s.identWin := rfl
@[simp] theorem bankPut_evacGroup : (bankPut p b s).evacGroup = s.evacGroup := rfl
@[simp] theorem bankPut_mr4 : (bankPut p b s).mr4 = s.mr4 := rfl
@[simp] theorem bankPut_xlat : (bankPut p b s).xlat = s.xlat := rfl
@[simp] theorem bankPut_inval : (bankPut p b s).inval = s.inval := rfl
@[simp] theorem bankPut_streams : (bankPut p b s).streams = s.streams := rfl
@[simp] theorem bankPut_movers : (bankPut p b s).movers = s.movers := rfl
@[simp] theorem bankPut_moverNext : (bankPut p b s).moverNext = s.moverNext := rfl
@[simp] theorem bankPut_moverDead : (bankPut p b s).moverDead = s.moverDead := rfl
@[simp] theorem bankPut_badMovers : (bankPut p b s).badMovers = s.badMovers := rfl
@[simp] theorem bankPut_ports : (bankPut p b s).ports = s.ports := rfl
@[simp] theorem bankPut_routes : (bankPut p b s).routes = s.routes := rfl
@[simp] theorem bankPut_tags : (bankPut p b s).tags = s.tags := rfl
@[simp] theorem bankPut_xseq : (bankPut p b s).xseq = s.xseq := rfl
@[simp] theorem bankPut_qps : (bankPut p b s).qps = s.qps := rfl
@[simp] theorem bankPut_queues : (bankPut p b s).queues = s.queues := rfl
@[simp] theorem bankPut_jobMovers : (bankPut p b s).jobMovers = s.jobMovers := rfl
@[simp] theorem bankPut_linkDownAt : (bankPut p b s).linkDownAt = s.linkDownAt := rfl
@[simp] theorem bankPut_paused : (bankPut p b s).paused = s.paused := rfl
@[simp] theorem bankPut_heldTx : (bankPut p b s).heldTx = s.heldTx := rfl
@[simp] theorem bankPut_hostWait : (bankPut p b s).hostWait = s.hostWait := rfl
@[simp] theorem bankPut_views : (bankPut p b s).views = s.views := rfl
@[simp] theorem bankPut_evq : (bankPut p b s).evq = s.evq := rfl
@[simp] theorem bankPut_evr : (bankPut p b s).evr = s.evr := rfl
@[simp] theorem bankPut_rings : (bankPut p b s).rings = s.rings := rfl
@[simp] theorem bankPut_sampleCnt : (bankPut p b s).sampleCnt = s.sampleCnt := rfl
@[simp] theorem bankPut_hlthSeq : (bankPut p b s).hlthSeq = s.hlthSeq := rfl
@[simp] theorem bankPut_patrolSince : (bankPut p b s).patrolSince = s.patrolSince := rfl
@[simp] theorem bankPut_changes : (bankPut p b s).changes = s.changes := rfl
@[simp] theorem bankPut_colours : (bankPut p b s).colours = s.colours := rfl
@[simp] theorem bankPut_sec : (bankPut p b s).sec = s.sec := rfl
@[simp] theorem bankPut_power : (bankPut p b s).power = s.power := rfl
@[simp] theorem bankPut_sent : (bankPut p b s).sent = s.sent := rfl
@[simp] theorem bankPut_draws : (bankPut p b s).draws = s.draws := rfl
end bankPut

/-! ### `qpMod` changes `qps` only -/

section qpMod
variable (q : Nat) (f : Qp → Qp) (s : State)
@[simp] theorem qpMod_pending : (qpMod q f s).pending = s.pending := rfl
@[simp] theorem qpMod_regs : (qpMod q f s).regs = s.regs := rfl
@[simp] theorem qpMod_mem : (qpMod q f s).mem = s.mem := rfl
@[simp] theorem qpMod_cmem : (qpMod q f s).cmem = s.cmem := rfl
@[simp] theorem qpMod_memObs : (qpMod q f s).memObs = s.memObs := rfl
@[simp] theorem qpMod_markers : (qpMod q f s).markers = s.markers := rfl
@[simp] theorem qpMod_clk : (qpMod q f s).clk = s.clk := rfl
@[simp] theorem qpMod_cycOff : (qpMod q f s).cycOff = s.cycOff := rfl
@[simp] theorem qpMod_irqSent : (qpMod q f s).irqSent = s.irqSent := rfl
@[simp] theorem qpMod_softDue : (qpMod q f s).softDue = s.softDue := rfl
@[simp] theorem qpMod_cycStop : (qpMod q f s).cycStop = s.cycStop := rfl
@[simp] theorem qpMod_fuses : (qpMod q f s).fuses = s.fuses := rfl
@[simp] theorem qpMod_flash : (qpMod q f s).flash = s.flash := rfl
@[simp] theorem qpMod_pins : (qpMod q f s).pins = s.pins := rfl
@[simp] theorem qpMod_array : (qpMod q f s).array = s.array := rfl
@[simp] theorem qpMod_acon : (qpMod q f s).acon = s.acon := rfl
@[simp] theorem qpMod_winSerial : (qpMod q f s).winSerial = s.winSerial := rfl
@[simp] theorem qpMod_flying : (qpMod q f s).flying = s.flying := rfl
@[simp] theorem qpMod_clusters : (qpMod q f s).clusters = s.clusters := rfl
@[simp] theorem qpMod_skeep : (qpMod q f s).skeep = s.skeep := rfl
@[simp] theorem qpMod_statq : (qpMod q f s).statq = s.statq := rfl
@[simp] theorem qpMod_statNo : (qpMod q f s).statNo = s.statNo := rfl
@[simp] theorem qpMod_identWin : (qpMod q f s).identWin = s.identWin := rfl
@[simp] theorem qpMod_evacGroup : (qpMod q f s).evacGroup = s.evacGroup := rfl
@[simp] theorem qpMod_mr4 : (qpMod q f s).mr4 = s.mr4 := rfl
@[simp] theorem qpMod_xlat : (qpMod q f s).xlat = s.xlat := rfl
@[simp] theorem qpMod_inval : (qpMod q f s).inval = s.inval := rfl
@[simp] theorem qpMod_streams : (qpMod q f s).streams = s.streams := rfl
@[simp] theorem qpMod_movers : (qpMod q f s).movers = s.movers := rfl
@[simp] theorem qpMod_moverNext : (qpMod q f s).moverNext = s.moverNext := rfl
@[simp] theorem qpMod_moverDead : (qpMod q f s).moverDead = s.moverDead := rfl
@[simp] theorem qpMod_badMovers : (qpMod q f s).badMovers = s.badMovers := rfl
@[simp] theorem qpMod_ports : (qpMod q f s).ports = s.ports := rfl
@[simp] theorem qpMod_routes : (qpMod q f s).routes = s.routes := rfl
@[simp] theorem qpMod_tags : (qpMod q f s).tags = s.tags := rfl
@[simp] theorem qpMod_xseq : (qpMod q f s).xseq = s.xseq := rfl
@[simp] theorem qpMod_queues : (qpMod q f s).queues = s.queues := rfl
@[simp] theorem qpMod_jobMovers : (qpMod q f s).jobMovers = s.jobMovers := rfl
@[simp] theorem qpMod_linkDownAt : (qpMod q f s).linkDownAt = s.linkDownAt := rfl
@[simp] theorem qpMod_paused : (qpMod q f s).paused = s.paused := rfl
@[simp] theorem qpMod_heldTx : (qpMod q f s).heldTx = s.heldTx := rfl
@[simp] theorem qpMod_hostWait : (qpMod q f s).hostWait = s.hostWait := rfl
@[simp] theorem qpMod_views : (qpMod q f s).views = s.views := rfl
@[simp] theorem qpMod_evq : (qpMod q f s).evq = s.evq := rfl
@[simp] theorem qpMod_evr : (qpMod q f s).evr = s.evr := rfl
@[simp] theorem qpMod_rings : (qpMod q f s).rings = s.rings := rfl
@[simp] theorem qpMod_sampleCnt : (qpMod q f s).sampleCnt = s.sampleCnt := rfl
@[simp] theorem qpMod_hlthSeq : (qpMod q f s).hlthSeq = s.hlthSeq := rfl
@[simp] theorem qpMod_patrolSince : (qpMod q f s).patrolSince = s.patrolSince := rfl
@[simp] theorem qpMod_changes : (qpMod q f s).changes = s.changes := rfl
@[simp] theorem qpMod_colours : (qpMod q f s).colours = s.colours := rfl
@[simp] theorem qpMod_sec : (qpMod q f s).sec = s.sec := rfl
@[simp] theorem qpMod_power : (qpMod q f s).power = s.power := rfl
@[simp] theorem qpMod_sent : (qpMod q f s).sent = s.sent := rfl
@[simp] theorem qpMod_draws : (qpMod q f s).draws = s.draws := rfl
end qpMod

/-! ### `portMod` changes `ports` only -/

section portMod
variable (p : Nat) (f : Port → Port) (s : State)
@[simp] theorem portMod_pending : (portMod p f s).pending = s.pending := rfl
@[simp] theorem portMod_regs : (portMod p f s).regs = s.regs := rfl
@[simp] theorem portMod_mem : (portMod p f s).mem = s.mem := rfl
@[simp] theorem portMod_cmem : (portMod p f s).cmem = s.cmem := rfl
@[simp] theorem portMod_memObs : (portMod p f s).memObs = s.memObs := rfl
@[simp] theorem portMod_markers : (portMod p f s).markers = s.markers := rfl
@[simp] theorem portMod_clk : (portMod p f s).clk = s.clk := rfl
@[simp] theorem portMod_cycOff : (portMod p f s).cycOff = s.cycOff := rfl
@[simp] theorem portMod_irqSent : (portMod p f s).irqSent = s.irqSent := rfl
@[simp] theorem portMod_softDue : (portMod p f s).softDue = s.softDue := rfl
@[simp] theorem portMod_cycStop : (portMod p f s).cycStop = s.cycStop := rfl
@[simp] theorem portMod_fuses : (portMod p f s).fuses = s.fuses := rfl
@[simp] theorem portMod_flash : (portMod p f s).flash = s.flash := rfl
@[simp] theorem portMod_pins : (portMod p f s).pins = s.pins := rfl
@[simp] theorem portMod_array : (portMod p f s).array = s.array := rfl
@[simp] theorem portMod_acon : (portMod p f s).acon = s.acon := rfl
@[simp] theorem portMod_winSerial : (portMod p f s).winSerial = s.winSerial := rfl
@[simp] theorem portMod_flying : (portMod p f s).flying = s.flying := rfl
@[simp] theorem portMod_clusters : (portMod p f s).clusters = s.clusters := rfl
@[simp] theorem portMod_skeep : (portMod p f s).skeep = s.skeep := rfl
@[simp] theorem portMod_statq : (portMod p f s).statq = s.statq := rfl
@[simp] theorem portMod_statNo : (portMod p f s).statNo = s.statNo := rfl
@[simp] theorem portMod_identWin : (portMod p f s).identWin = s.identWin := rfl
@[simp] theorem portMod_evacGroup : (portMod p f s).evacGroup = s.evacGroup := rfl
@[simp] theorem portMod_mr4 : (portMod p f s).mr4 = s.mr4 := rfl
@[simp] theorem portMod_xlat : (portMod p f s).xlat = s.xlat := rfl
@[simp] theorem portMod_inval : (portMod p f s).inval = s.inval := rfl
@[simp] theorem portMod_streams : (portMod p f s).streams = s.streams := rfl
@[simp] theorem portMod_movers : (portMod p f s).movers = s.movers := rfl
@[simp] theorem portMod_moverNext : (portMod p f s).moverNext = s.moverNext := rfl
@[simp] theorem portMod_moverDead : (portMod p f s).moverDead = s.moverDead := rfl
@[simp] theorem portMod_badMovers : (portMod p f s).badMovers = s.badMovers := rfl
@[simp] theorem portMod_routes : (portMod p f s).routes = s.routes := rfl
@[simp] theorem portMod_tags : (portMod p f s).tags = s.tags := rfl
@[simp] theorem portMod_xseq : (portMod p f s).xseq = s.xseq := rfl
@[simp] theorem portMod_qps : (portMod p f s).qps = s.qps := rfl
@[simp] theorem portMod_queues : (portMod p f s).queues = s.queues := rfl
@[simp] theorem portMod_jobMovers : (portMod p f s).jobMovers = s.jobMovers := rfl
@[simp] theorem portMod_linkDownAt : (portMod p f s).linkDownAt = s.linkDownAt := rfl
@[simp] theorem portMod_paused : (portMod p f s).paused = s.paused := rfl
@[simp] theorem portMod_heldTx : (portMod p f s).heldTx = s.heldTx := rfl
@[simp] theorem portMod_hostWait : (portMod p f s).hostWait = s.hostWait := rfl
@[simp] theorem portMod_views : (portMod p f s).views = s.views := rfl
@[simp] theorem portMod_evq : (portMod p f s).evq = s.evq := rfl
@[simp] theorem portMod_evr : (portMod p f s).evr = s.evr := rfl
@[simp] theorem portMod_rings : (portMod p f s).rings = s.rings := rfl
@[simp] theorem portMod_sampleCnt : (portMod p f s).sampleCnt = s.sampleCnt := rfl
@[simp] theorem portMod_hlthSeq : (portMod p f s).hlthSeq = s.hlthSeq := rfl
@[simp] theorem portMod_patrolSince : (portMod p f s).patrolSince = s.patrolSince := rfl
@[simp] theorem portMod_changes : (portMod p f s).changes = s.changes := rfl
@[simp] theorem portMod_colours : (portMod p f s).colours = s.colours := rfl
@[simp] theorem portMod_sec : (portMod p f s).sec = s.sec := rfl
@[simp] theorem portMod_power : (portMod p f s).power = s.power := rfl
@[simp] theorem portMod_sent : (portMod p f s).sent = s.sent := rfl
@[simp] theorem portMod_draws : (portMod p f s).draws = s.draws := rfl
end portMod

/-! ### `strmMod` changes `streams` only -/

section strmMod
variable (i : Nat) (f : Stream → Stream) (s : State)
@[simp] theorem strmMod_pending : (strmMod i f s).pending = s.pending := rfl
@[simp] theorem strmMod_regs : (strmMod i f s).regs = s.regs := rfl
@[simp] theorem strmMod_mem : (strmMod i f s).mem = s.mem := rfl
@[simp] theorem strmMod_cmem : (strmMod i f s).cmem = s.cmem := rfl
@[simp] theorem strmMod_memObs : (strmMod i f s).memObs = s.memObs := rfl
@[simp] theorem strmMod_markers : (strmMod i f s).markers = s.markers := rfl
@[simp] theorem strmMod_clk : (strmMod i f s).clk = s.clk := rfl
@[simp] theorem strmMod_cycOff : (strmMod i f s).cycOff = s.cycOff := rfl
@[simp] theorem strmMod_irqSent : (strmMod i f s).irqSent = s.irqSent := rfl
@[simp] theorem strmMod_softDue : (strmMod i f s).softDue = s.softDue := rfl
@[simp] theorem strmMod_cycStop : (strmMod i f s).cycStop = s.cycStop := rfl
@[simp] theorem strmMod_fuses : (strmMod i f s).fuses = s.fuses := rfl
@[simp] theorem strmMod_flash : (strmMod i f s).flash = s.flash := rfl
@[simp] theorem strmMod_pins : (strmMod i f s).pins = s.pins := rfl
@[simp] theorem strmMod_array : (strmMod i f s).array = s.array := rfl
@[simp] theorem strmMod_acon : (strmMod i f s).acon = s.acon := rfl
@[simp] theorem strmMod_winSerial : (strmMod i f s).winSerial = s.winSerial := rfl
@[simp] theorem strmMod_flying : (strmMod i f s).flying = s.flying := rfl
@[simp] theorem strmMod_clusters : (strmMod i f s).clusters = s.clusters := rfl
@[simp] theorem strmMod_skeep : (strmMod i f s).skeep = s.skeep := rfl
@[simp] theorem strmMod_statq : (strmMod i f s).statq = s.statq := rfl
@[simp] theorem strmMod_statNo : (strmMod i f s).statNo = s.statNo := rfl
@[simp] theorem strmMod_identWin : (strmMod i f s).identWin = s.identWin := rfl
@[simp] theorem strmMod_evacGroup : (strmMod i f s).evacGroup = s.evacGroup := rfl
@[simp] theorem strmMod_mr4 : (strmMod i f s).mr4 = s.mr4 := rfl
@[simp] theorem strmMod_xlat : (strmMod i f s).xlat = s.xlat := rfl
@[simp] theorem strmMod_inval : (strmMod i f s).inval = s.inval := rfl
@[simp] theorem strmMod_movers : (strmMod i f s).movers = s.movers := rfl
@[simp] theorem strmMod_moverNext : (strmMod i f s).moverNext = s.moverNext := rfl
@[simp] theorem strmMod_moverDead : (strmMod i f s).moverDead = s.moverDead := rfl
@[simp] theorem strmMod_badMovers : (strmMod i f s).badMovers = s.badMovers := rfl
@[simp] theorem strmMod_ports : (strmMod i f s).ports = s.ports := rfl
@[simp] theorem strmMod_routes : (strmMod i f s).routes = s.routes := rfl
@[simp] theorem strmMod_tags : (strmMod i f s).tags = s.tags := rfl
@[simp] theorem strmMod_xseq : (strmMod i f s).xseq = s.xseq := rfl
@[simp] theorem strmMod_qps : (strmMod i f s).qps = s.qps := rfl
@[simp] theorem strmMod_queues : (strmMod i f s).queues = s.queues := rfl
@[simp] theorem strmMod_jobMovers : (strmMod i f s).jobMovers = s.jobMovers := rfl
@[simp] theorem strmMod_linkDownAt : (strmMod i f s).linkDownAt = s.linkDownAt := rfl
@[simp] theorem strmMod_paused : (strmMod i f s).paused = s.paused := rfl
@[simp] theorem strmMod_heldTx : (strmMod i f s).heldTx = s.heldTx := rfl
@[simp] theorem strmMod_hostWait : (strmMod i f s).hostWait = s.hostWait := rfl
@[simp] theorem strmMod_views : (strmMod i f s).views = s.views := rfl
@[simp] theorem strmMod_evq : (strmMod i f s).evq = s.evq := rfl
@[simp] theorem strmMod_evr : (strmMod i f s).evr = s.evr := rfl
@[simp] theorem strmMod_rings : (strmMod i f s).rings = s.rings := rfl
@[simp] theorem strmMod_sampleCnt : (strmMod i f s).sampleCnt = s.sampleCnt := rfl
@[simp] theorem strmMod_hlthSeq : (strmMod i f s).hlthSeq = s.hlthSeq := rfl
@[simp] theorem strmMod_patrolSince : (strmMod i f s).patrolSince = s.patrolSince := rfl
@[simp] theorem strmMod_changes : (strmMod i f s).changes = s.changes := rfl
@[simp] theorem strmMod_colours : (strmMod i f s).colours = s.colours := rfl
@[simp] theorem strmMod_sec : (strmMod i f s).sec = s.sec := rfl
@[simp] theorem strmMod_power : (strmMod i f s).power = s.power := rfl
@[simp] theorem strmMod_sent : (strmMod i f s).sent = s.sent := rfl
@[simp] theorem strmMod_draws : (strmMod i f s).draws = s.draws := rfl
end strmMod

/-! ### `viewMod` changes `views` only -/

section viewMod
variable (m : Sys2Proof.Master) (f : MasterView → MasterView) (s : State)
@[simp] theorem viewMod_pending : (viewMod m f s).pending = s.pending := rfl
@[simp] theorem viewMod_regs : (viewMod m f s).regs = s.regs := rfl
@[simp] theorem viewMod_mem : (viewMod m f s).mem = s.mem := rfl
@[simp] theorem viewMod_cmem : (viewMod m f s).cmem = s.cmem := rfl
@[simp] theorem viewMod_memObs : (viewMod m f s).memObs = s.memObs := rfl
@[simp] theorem viewMod_markers : (viewMod m f s).markers = s.markers := rfl
@[simp] theorem viewMod_clk : (viewMod m f s).clk = s.clk := rfl
@[simp] theorem viewMod_cycOff : (viewMod m f s).cycOff = s.cycOff := rfl
@[simp] theorem viewMod_irqSent : (viewMod m f s).irqSent = s.irqSent := rfl
@[simp] theorem viewMod_softDue : (viewMod m f s).softDue = s.softDue := rfl
@[simp] theorem viewMod_cycStop : (viewMod m f s).cycStop = s.cycStop := rfl
@[simp] theorem viewMod_fuses : (viewMod m f s).fuses = s.fuses := rfl
@[simp] theorem viewMod_flash : (viewMod m f s).flash = s.flash := rfl
@[simp] theorem viewMod_pins : (viewMod m f s).pins = s.pins := rfl
@[simp] theorem viewMod_array : (viewMod m f s).array = s.array := rfl
@[simp] theorem viewMod_acon : (viewMod m f s).acon = s.acon := rfl
@[simp] theorem viewMod_winSerial : (viewMod m f s).winSerial = s.winSerial := rfl
@[simp] theorem viewMod_flying : (viewMod m f s).flying = s.flying := rfl
@[simp] theorem viewMod_clusters : (viewMod m f s).clusters = s.clusters := rfl
@[simp] theorem viewMod_skeep : (viewMod m f s).skeep = s.skeep := rfl
@[simp] theorem viewMod_statq : (viewMod m f s).statq = s.statq := rfl
@[simp] theorem viewMod_statNo : (viewMod m f s).statNo = s.statNo := rfl
@[simp] theorem viewMod_identWin : (viewMod m f s).identWin = s.identWin := rfl
@[simp] theorem viewMod_evacGroup : (viewMod m f s).evacGroup = s.evacGroup := rfl
@[simp] theorem viewMod_mr4 : (viewMod m f s).mr4 = s.mr4 := rfl
@[simp] theorem viewMod_xlat : (viewMod m f s).xlat = s.xlat := rfl
@[simp] theorem viewMod_inval : (viewMod m f s).inval = s.inval := rfl
@[simp] theorem viewMod_streams : (viewMod m f s).streams = s.streams := rfl
@[simp] theorem viewMod_movers : (viewMod m f s).movers = s.movers := rfl
@[simp] theorem viewMod_moverNext : (viewMod m f s).moverNext = s.moverNext := rfl
@[simp] theorem viewMod_moverDead : (viewMod m f s).moverDead = s.moverDead := rfl
@[simp] theorem viewMod_badMovers : (viewMod m f s).badMovers = s.badMovers := rfl
@[simp] theorem viewMod_ports : (viewMod m f s).ports = s.ports := rfl
@[simp] theorem viewMod_routes : (viewMod m f s).routes = s.routes := rfl
@[simp] theorem viewMod_tags : (viewMod m f s).tags = s.tags := rfl
@[simp] theorem viewMod_xseq : (viewMod m f s).xseq = s.xseq := rfl
@[simp] theorem viewMod_qps : (viewMod m f s).qps = s.qps := rfl
@[simp] theorem viewMod_queues : (viewMod m f s).queues = s.queues := rfl
@[simp] theorem viewMod_jobMovers : (viewMod m f s).jobMovers = s.jobMovers := rfl
@[simp] theorem viewMod_linkDownAt : (viewMod m f s).linkDownAt = s.linkDownAt := rfl
@[simp] theorem viewMod_paused : (viewMod m f s).paused = s.paused := rfl
@[simp] theorem viewMod_heldTx : (viewMod m f s).heldTx = s.heldTx := rfl
@[simp] theorem viewMod_hostWait : (viewMod m f s).hostWait = s.hostWait := rfl
@[simp] theorem viewMod_evq : (viewMod m f s).evq = s.evq := rfl
@[simp] theorem viewMod_evr : (viewMod m f s).evr = s.evr := rfl
@[simp] theorem viewMod_rings : (viewMod m f s).rings = s.rings := rfl
@[simp] theorem viewMod_sampleCnt : (viewMod m f s).sampleCnt = s.sampleCnt := rfl
@[simp] theorem viewMod_hlthSeq : (viewMod m f s).hlthSeq = s.hlthSeq := rfl
@[simp] theorem viewMod_patrolSince : (viewMod m f s).patrolSince = s.patrolSince := rfl
@[simp] theorem viewMod_changes : (viewMod m f s).changes = s.changes := rfl
@[simp] theorem viewMod_colours : (viewMod m f s).colours = s.colours := rfl
@[simp] theorem viewMod_sec : (viewMod m f s).sec = s.sec := rfl
@[simp] theorem viewMod_power : (viewMod m f s).power = s.power := rfl
@[simp] theorem viewMod_sent : (viewMod m f s).sent = s.sent := rfl
@[simp] theorem viewMod_draws : (viewMod m f s).draws = s.draws := rfl
end viewMod

/-! ### `xcMod` changes `xseq` only -/

section xcMod
variable (c : Nat) (f : XCtx → XCtx) (s : State)
@[simp] theorem xcMod_pending : (xcMod c f s).pending = s.pending := rfl
@[simp] theorem xcMod_regs : (xcMod c f s).regs = s.regs := rfl
@[simp] theorem xcMod_mem : (xcMod c f s).mem = s.mem := rfl
@[simp] theorem xcMod_cmem : (xcMod c f s).cmem = s.cmem := rfl
@[simp] theorem xcMod_memObs : (xcMod c f s).memObs = s.memObs := rfl
@[simp] theorem xcMod_markers : (xcMod c f s).markers = s.markers := rfl
@[simp] theorem xcMod_clk : (xcMod c f s).clk = s.clk := rfl
@[simp] theorem xcMod_cycOff : (xcMod c f s).cycOff = s.cycOff := rfl
@[simp] theorem xcMod_irqSent : (xcMod c f s).irqSent = s.irqSent := rfl
@[simp] theorem xcMod_softDue : (xcMod c f s).softDue = s.softDue := rfl
@[simp] theorem xcMod_cycStop : (xcMod c f s).cycStop = s.cycStop := rfl
@[simp] theorem xcMod_fuses : (xcMod c f s).fuses = s.fuses := rfl
@[simp] theorem xcMod_flash : (xcMod c f s).flash = s.flash := rfl
@[simp] theorem xcMod_pins : (xcMod c f s).pins = s.pins := rfl
@[simp] theorem xcMod_array : (xcMod c f s).array = s.array := rfl
@[simp] theorem xcMod_acon : (xcMod c f s).acon = s.acon := rfl
@[simp] theorem xcMod_winSerial : (xcMod c f s).winSerial = s.winSerial := rfl
@[simp] theorem xcMod_flying : (xcMod c f s).flying = s.flying := rfl
@[simp] theorem xcMod_clusters : (xcMod c f s).clusters = s.clusters := rfl
@[simp] theorem xcMod_skeep : (xcMod c f s).skeep = s.skeep := rfl
@[simp] theorem xcMod_statq : (xcMod c f s).statq = s.statq := rfl
@[simp] theorem xcMod_statNo : (xcMod c f s).statNo = s.statNo := rfl
@[simp] theorem xcMod_identWin : (xcMod c f s).identWin = s.identWin := rfl
@[simp] theorem xcMod_evacGroup : (xcMod c f s).evacGroup = s.evacGroup := rfl
@[simp] theorem xcMod_mr4 : (xcMod c f s).mr4 = s.mr4 := rfl
@[simp] theorem xcMod_xlat : (xcMod c f s).xlat = s.xlat := rfl
@[simp] theorem xcMod_inval : (xcMod c f s).inval = s.inval := rfl
@[simp] theorem xcMod_streams : (xcMod c f s).streams = s.streams := rfl
@[simp] theorem xcMod_movers : (xcMod c f s).movers = s.movers := rfl
@[simp] theorem xcMod_moverNext : (xcMod c f s).moverNext = s.moverNext := rfl
@[simp] theorem xcMod_moverDead : (xcMod c f s).moverDead = s.moverDead := rfl
@[simp] theorem xcMod_badMovers : (xcMod c f s).badMovers = s.badMovers := rfl
@[simp] theorem xcMod_ports : (xcMod c f s).ports = s.ports := rfl
@[simp] theorem xcMod_routes : (xcMod c f s).routes = s.routes := rfl
@[simp] theorem xcMod_tags : (xcMod c f s).tags = s.tags := rfl
@[simp] theorem xcMod_qps : (xcMod c f s).qps = s.qps := rfl
@[simp] theorem xcMod_queues : (xcMod c f s).queues = s.queues := rfl
@[simp] theorem xcMod_jobMovers : (xcMod c f s).jobMovers = s.jobMovers := rfl
@[simp] theorem xcMod_linkDownAt : (xcMod c f s).linkDownAt = s.linkDownAt := rfl
@[simp] theorem xcMod_paused : (xcMod c f s).paused = s.paused := rfl
@[simp] theorem xcMod_heldTx : (xcMod c f s).heldTx = s.heldTx := rfl
@[simp] theorem xcMod_hostWait : (xcMod c f s).hostWait = s.hostWait := rfl
@[simp] theorem xcMod_views : (xcMod c f s).views = s.views := rfl
@[simp] theorem xcMod_evq : (xcMod c f s).evq = s.evq := rfl
@[simp] theorem xcMod_evr : (xcMod c f s).evr = s.evr := rfl
@[simp] theorem xcMod_rings : (xcMod c f s).rings = s.rings := rfl
@[simp] theorem xcMod_sampleCnt : (xcMod c f s).sampleCnt = s.sampleCnt := rfl
@[simp] theorem xcMod_hlthSeq : (xcMod c f s).hlthSeq = s.hlthSeq := rfl
@[simp] theorem xcMod_patrolSince : (xcMod c f s).patrolSince = s.patrolSince := rfl
@[simp] theorem xcMod_changes : (xcMod c f s).changes = s.changes := rfl
@[simp] theorem xcMod_colours : (xcMod c f s).colours = s.colours := rfl
@[simp] theorem xcMod_sec : (xcMod c f s).sec = s.sec := rfl
@[simp] theorem xcMod_power : (xcMod c f s).power = s.power := rfl
@[simp] theorem xcMod_sent : (xcMod c f s).sent = s.sent := rfl
@[simp] theorem xcMod_draws : (xcMod c f s).draws = s.draws := rfl
end xcMod

end Sys2Proof.Machine
end

