-- ==== Sys2Proof/Laws/Tables.lean ====
section
/-! SUPPORT. Laws of sparse tables, of the memory form and of bit fields. -/

namespace Sys2Proof.Machine

variable {α : Type}

/-! ### Sparse tables -/

@[simp] theorem tget?_tput_same (t : Table α) (k : Nat) (v : α) : tget? (tput t k v) k = some v := by
  induction t with
  | nil => simp [tput, tget?]
  | cons e t ih =>
    obtain ⟨j, u⟩ := e
    simp only [tput]
    split
    · simp [tget?]
    · split
      · simp [tget?]
      · rename_i h1 h2
        simp only [tget?]
        rw [if_neg (fun h => h2 h.symm)]
        exact ih

theorem tget?_tput_ne (t : Table α) {k j : Nat} (v : α) (h : j ≠ k) : tget? (tput t k v) j = tget? t j := by
  induction t with
  | nil => simp [tput, tget?, Ne.symm h]
  | cons e t ih =>
    obtain ⟨i, u⟩ := e
    simp only [tput]
    split
    · simp [tget?, Ne.symm h]
    · split
      · rename_i h1 h2
        subst h2
        simp [tget?, Ne.symm h]
      · simp only [tget?, ih]

@[simp] theorem tget_tput_same (t : Table α) (d : α) (k : Nat) (v : α) : tget (tput t k v) d k = v := by simp [tget]

theorem tget_tput_ne (t : Table α) (d : α) {k j : Nat} (v : α) (h : j ≠ k) : tget (tput t k v) d j = tget t d j := by
  simp [tget, tget?_tput_ne t v h]

/-- A table in ascending order of keys. -/
theorem tsortedFrom_mono {lo lo' : Option Nat} (t : Table α) (h : ∀ i, lo' = some i → ∃ k, lo = some k ∧ i ≤ k)
    (s : tsortedFrom lo t = true) : tsortedFrom lo' t = true := by
  cases t with
  | nil => cases lo' <;> simp [tsortedFrom]
  | cons e t =>
    obtain ⟨j, v⟩ := e
    cases lo' with
    | none => cases lo with
      | none => exact s
      | some k => simp only [tsortedFrom, Bool.and_eq_true, decide_eq_true_eq] at s ⊢; exact s.2
    | some i =>
      obtain ⟨k, rfl, hk⟩ := h i rfl
      simp only [tsortedFrom, Bool.and_eq_true, decide_eq_true_eq] at s ⊢
      exact ⟨by omega, s.2⟩

theorem tsortedFrom_tput (t : Table α) (lo : Option Nat) (k : Nat) (v : α) (hk : ∀ i, lo = some i → i < k)
    (h : tsortedFrom lo t = true) : tsortedFrom lo (tput t k v) = true := by
  induction t generalizing lo with
  | nil => cases lo with
    | none => simp [tput, tsortedFrom]
    | some i => simp [tput, tsortedFrom, hk i rfl]
  | cons e t ih =>
    obtain ⟨j, u⟩ := e
    have tail : tsortedFrom (some j) t = true := by
      cases lo with
      | none => exact h
      | some i => simp only [tsortedFrom, Bool.and_eq_true] at h; exact h.2
    simp only [tput]
    split
    · rename_i hlt
      have : tsortedFrom (some k) ((j, u) :: t) = true := by
        simp only [tsortedFrom, Bool.and_eq_true, decide_eq_true_eq]; exact ⟨hlt, tail⟩
      cases lo with
      | none => exact this
      | some i => simp only [tsortedFrom, Bool.and_eq_true, decide_eq_true_eq] at this ⊢; exact ⟨hk i rfl, this⟩
    · split
      · rename_i _ heq
        subst heq
        cases lo with
        | none => exact tail
        | some i => simp only [tsortedFrom, Bool.and_eq_true, decide_eq_true_eq]; exact ⟨hk i rfl, tail⟩
      · have step := ih (some j) (by intro i hi; cases hi; omega) tail
        cases lo with
        | none => exact step
        | some i =>
          simp only [tsortedFrom, Bool.and_eq_true, decide_eq_true_eq] at h ⊢
          exact ⟨h.1, step⟩

theorem tsortedFrom_tdel (t : Table α) (lo : Option Nat) (k : Nat) (h : tsortedFrom lo t = true) :
    tsortedFrom lo (tdel t k) = true := by
  induction t generalizing lo with
  | nil => exact h
  | cons e t ih =>
    obtain ⟨j, u⟩ := e
    have tail : tsortedFrom (some j) t = true := by
      cases lo with
      | none => exact h
      | some i => simp only [tsortedFrom, Bool.and_eq_true] at h; exact h.2
    simp only [tdel]
    split
    · refine tsortedFrom_mono (lo := some j) t ?_ tail
      intro i hi
      subst hi
      simp only [tsortedFrom, Bool.and_eq_true, decide_eq_true_eq] at h
      exact ⟨j, rfl, by omega⟩
    · cases lo with
      | none => exact ih (some j) tail
      | some i =>
        simp only [tsortedFrom, Bool.and_eq_true, decide_eq_true_eq] at h ⊢
        exact ⟨h.1, ih (some j) tail⟩

theorem tsortedFrom_filter (t : Table α) (lo : Option Nat) (f : Nat × α → Bool) (h : tsortedFrom lo t = true) :
    tsortedFrom lo (t.filter f) = true := by
  induction t generalizing lo with
  | nil => exact h
  | cons e t ih =>
    obtain ⟨j, u⟩ := e
    have tail : tsortedFrom (some j) t = true := by
      cases lo with
      | none => exact h
      | some i => simp only [tsortedFrom, Bool.and_eq_true] at h; exact h.2
    simp only [List.filter]
    split
    · cases lo with
      | none => exact ih (some j) tail
      | some i =>
        simp only [tsortedFrom, Bool.and_eq_true, decide_eq_true_eq] at h ⊢
        exact ⟨h.1, ih (some j) tail⟩
    · refine tsortedFrom_mono (lo := some j) _ ?_ (ih (some j) tail)
      intro i hi
      subst hi
      simp only [tsortedFrom, Bool.and_eq_true, decide_eq_true_eq] at h
      exact ⟨j, rfl, by omega⟩

/-! ### The memory form: every operation on a memory keeps it -/

theorem tput_all (t : Table α) (k : Nat) (v : α) (f : Nat × α → Bool) (hv : f (k, v) = true) (h : t.all f = true) :
    (tput t k v).all f = true := by
  induction t with
  | nil => simp [tput, hv]
  | cons e t ih =>
    obtain ⟨j, u⟩ := e
    simp only [List.all_cons, Bool.and_eq_true] at h
    simp only [tput]
    split
    · simp [hv, h.1, h.2]
    · split
      · simp [hv, h.2]
      · simp [h.1, ih h.2]

theorem tdel_all (t : Table α) (k : Nat) (f : Nat × α → Bool) (h : t.all f = true) : (tdel t k).all f = true := by
  induction t with
  | nil => exact h
  | cons e t ih =>
    obtain ⟨j, u⟩ := e
    simp only [List.all_cons, Bool.and_eq_true] at h
    simp only [tdel]
    split
    · exact h.2
    · simp [h.1, ih h.2]

theorem wf_nil : Memory.wf [] = true := rfl

theorem wf_memPut (m : List (Nat × Byte)) (a : Nat) (b : Byte) (h : Memory.wf m = true) : Memory.wf (memPut m a b) = true := by
  simp only [Memory.wf, Bool.and_eq_true] at h ⊢
  unfold memPut
  split
  · exact ⟨tsortedFrom_tdel m none a h.1, tdel_all m a _ h.2⟩
  · rename_i hb
    exact ⟨tsortedFrom_tput m none a b (by intro i hi; cases hi) h.1, tput_all m a b _ (by simpa using hb) h.2⟩

theorem wf_memPutBytes (bs : List Byte) (m : List (Nat × Byte)) (a : Nat) (h : Memory.wf m = true) :
    Memory.wf (memPutBytes m a bs) = true := by
  induction bs generalizing m a with
  | nil => exact h
  | cons b bs ih => exact ih (memPut m a b) (a + 1) (wf_memPut m a b h)

theorem wf_filter (m : List (Nat × Byte)) (f : Nat × Byte → Bool) (h : Memory.wf m = true) :
    Memory.wf (m.filter f) = true := by
  simp only [Memory.wf, Bool.and_eq_true] at h ⊢
  refine ⟨tsortedFrom_filter m none f h.1, ?_⟩
  rw [List.all_eq_true] at h ⊢
  intro x hx
  exact h.2 x (List.mem_filter.mp hx).1

/-! ### Reading after writing -/

theorem tget?_above (t : Table α) {lo k : Nat} (hk : k ≤ lo) (h : tsortedFrom (some lo) t = true) : tget? t k = none := by
  induction t generalizing lo with
  | nil => rfl
  | cons e t ih =>
    obtain ⟨j, u⟩ := e
    simp only [tsortedFrom, Bool.and_eq_true, decide_eq_true_eq] at h
    simp only [tget?]
    rw [if_neg (by omega)]
    exact ih (lo := j) (by omega) h.2

theorem tget?_tdel_same (t : Table α) (k : Nat) (lo : Option Nat) (h : tsortedFrom lo t = true) : tget? (tdel t k) k = none := by
  induction t generalizing lo with
  | nil => rfl
  | cons e t ih =>
    obtain ⟨j, u⟩ := e
    have tail : tsortedFrom (some j) t = true := by
      cases lo with
      | none => exact h
      | some i => simp only [tsortedFrom, Bool.and_eq_true] at h; exact h.2
    simp only [tdel]
    split
    · rename_i heq
      exact tget?_above t (by omega) tail
    · rename_i hne
      simp only [tget?]
      rw [if_neg hne]
      exact ih (some j) tail

theorem tget?_tdel_ne (t : Table α) {k j : Nat} (h : j ≠ k) : tget? (tdel t k) j = tget? t j := by
  induction t with
  | nil => rfl
  | cons e t ih =>
    obtain ⟨i, u⟩ := e
    simp only [tdel]
    split
    · rename_i heq
      subst heq
      simp [tget?, Ne.symm h]
    · simp only [tget?, ih]

theorem memGet_memPut_same (m : List (Nat × Byte)) (a : Nat) (b : Byte) (h : Memory.wf m = true) :
    memGet (memPut m a b) a = b := by
  simp only [Memory.wf, Bool.and_eq_true] at h
  unfold memPut memGet
  split
  · rename_i hb
    simp [tget, tget?_tdel_same m a none h.1, hb]
  · simp

theorem memGet_memPut_ne (m : List (Nat × Byte)) {a c : Nat} (b : Byte) (h : c ≠ a) :
    memGet (memPut m a b) c = memGet m c := by
  unfold memPut memGet
  split
  · simp [tget, tget?_tdel_ne m h]
  · exact tget_tput_ne m unwritten b h

/-- A store leaves every byte outside it alone. -/
theorem memGet_memPutBytes_outside (bs : List Byte) (m : List (Nat × Byte)) {a c : Nat} (h : c < a ∨ a + bs.length ≤ c) :
    memGet (memPutBytes m a bs) c = memGet m c := by
  induction bs generalizing m a with
  | nil => rfl
  | cons b bs ih =>
    simp only [List.length_cons] at h
    rw [memPutBytes, ih (memPut m a b) (by omega), memGet_memPut_ne m b (by omega)]

/-- A store is read back. -/
theorem memGetBytes_memPutBytes (bs : List Byte) (m : List (Nat × Byte)) (a : Nat) (h : Memory.wf m = true) :
    memGetBytes (memPutBytes m a bs) a bs.length = bs := by
  induction bs generalizing m a with
  | nil => rfl
  | cons b bs ih =>
    simp only [memPutBytes, List.length_cons, memGetBytes]
    rw [ih (memPut m a b) (a + 1) (wf_memPut m a b h),
      memGet_memPutBytes_outside bs _ (by omega), memGet_memPut_same m a b h]

/-! ### Bit fields -/

theorem nfld_lt (v hi lo : Nat) : nfld v hi lo < 2 ^ (hi + 1 - lo) := Nat.mod_lt _ (Nat.two_pow_pos _)

/-- Bit i of a field, by bits of the number. -/
theorem testBit_nfld (v hi lo i : Nat) : (nfld v hi lo).testBit i = (decide (i < hi + 1 - lo) && v.testBit (lo + i)) := by
  simp [nfld, Nat.testBit_mod_two_pow, Nat.testBit_shiftRight]

theorem nset_split (v hi lo x : Nat) (hl : lo ≤ hi + 1) :
    nset v hi lo x = v / 2 ^ (hi + 1) * 2 ^ (hi + 1) + (x % 2 ^ (hi + 1 - lo)) * 2 ^ lo + v % 2 ^ lo := by
  have e1 : v = v / 2 ^ (hi + 1) * 2 ^ (hi + 1) + nfld v hi lo * 2 ^ lo + v % 2 ^ lo := by
    have h1 := Nat.div_add_mod v (2 ^ lo)
    have h2 := Nat.div_add_mod (v / 2 ^ lo) (2 ^ (hi + 1 - lo))
    have h3 : v / 2 ^ lo / 2 ^ (hi + 1 - lo) = v / 2 ^ (hi + 1) := by
      rw [Nat.div_div_eq_div_mul, ← Nat.pow_add]; congr 2; omega
    have h4 : (2:Nat) ^ lo * 2 ^ (hi + 1 - lo) = 2 ^ (hi + 1) := by rw [← Nat.pow_add]; congr 1; omega
    unfold nfld
    rw [Nat.shiftRight_eq_div_pow]
    rw [h3] at h2
    calc v = 2 ^ lo * (v / 2 ^ lo) + v % 2 ^ lo := h1.symm
      _ = 2 ^ lo * (2 ^ (hi + 1 - lo) * (v / 2 ^ (hi + 1)) + v / 2 ^ lo % 2 ^ (hi + 1 - lo)) + v % 2 ^ lo := by rw [h2]
      _ = _ := by rw [Nat.mul_add, ← Nat.mul_assoc, h4, Nat.mul_comm (2 ^ (hi + 1)), Nat.mul_comm (2 ^ lo)]
  have : nset v hi lo x = v - nfld v hi lo * 2 ^ lo + (x % 2 ^ (hi + 1 - lo)) * 2 ^ lo := by
    simp [nset, Nat.shiftLeft_eq]
  rw [this]
  omega

/-- The field that was set. -/
theorem nfld_nset_same (v hi lo x : Nat) (hl : lo ≤ hi) : nfld (nset v hi lo x) hi lo = x % 2 ^ (hi + 1 - lo) := by
  rw [nset_split v hi lo x (by omega)]
  unfold nfld
  rw [Nat.shiftRight_eq_div_pow]
  have h4 : (2:Nat) ^ (hi + 1) = 2 ^ (hi + 1 - lo) * 2 ^ lo := by rw [← Nat.pow_add]; congr 1; omega
  rw [h4, ← Nat.mul_assoc, ← Nat.add_mul, Nat.add_comm _ (v % 2 ^ lo), Nat.add_mul_div_right _ _ (Nat.two_pow_pos lo),
    Nat.div_eq_of_lt (Nat.mod_lt _ (Nat.two_pow_pos lo)), Nat.zero_add, Nat.add_comm, Nat.add_mul_mod_self_right, Nat.mod_mod]

/-- A field above the one that was set. -/
theorem nfld_nset_above (v hi lo x h2 l2 : Nat) (hl : lo ≤ hi) (hd : hi < l2) : nfld (nset v hi lo x) h2 l2 = nfld v h2 l2 := by
  rw [nset_split v hi lo x (by omega)]
  unfold nfld
  rw [Nat.shiftRight_eq_div_pow, Nat.shiftRight_eq_div_pow]
  have hlt : (x % 2 ^ (hi + 1 - lo)) * 2 ^ lo + v % 2 ^ lo < 2 ^ (hi + 1) := by
    have a := Nat.mod_lt x (Nat.two_pow_pos (hi + 1 - lo))
    have b := Nat.mod_lt v (Nat.two_pow_pos lo)
    have h4 : (2:Nat) ^ (hi + 1) = 2 ^ (hi + 1 - lo) * 2 ^ lo := by rw [← Nat.pow_add]; congr 1; omega
    have : (x % 2 ^ (hi + 1 - lo) + 1) * 2 ^ lo ≤ 2 ^ (hi + 1 - lo) * 2 ^ lo := Nat.mul_le_mul_right _ a
    rw [Nat.add_mul, Nat.one_mul, ← h4] at this
    omega
  have hdiv : ∀ y, (v / 2 ^ (hi + 1) * 2 ^ (hi + 1) + y) / 2 ^ (hi + 1) = v / 2 ^ (hi + 1) + y / 2 ^ (hi + 1) := by
    intro y; rw [Nat.add_comm, Nat.add_mul_div_right _ _ (Nat.two_pow_pos _), Nat.add_comm]
  have hp : (2:Nat) ^ l2 = 2 ^ (hi + 1) * 2 ^ (l2 - (hi + 1)) := by rw [← Nat.pow_add]; congr 1; omega
  rw [hp, ← Nat.div_div_eq_div_mul, ← Nat.div_div_eq_div_mul, Nat.add_assoc, hdiv, Nat.div_eq_of_lt hlt, Nat.add_zero]

/-- A field below the one that was set. -/
theorem nfld_nset_below (v hi lo x h2 l2 : Nat) (hl : lo ≤ hi) (hd : h2 < lo) : nfld (nset v hi lo x) h2 l2 = nfld v h2 l2 := by
  have key : ∀ w : Nat, nfld w h2 l2 = nfld (w % 2 ^ lo) h2 l2 := by
    intro w
    apply Nat.eq_of_testBit_eq
    intro i
    rw [testBit_nfld, testBit_nfld, Nat.testBit_mod_two_pow]
    by_cases hi2 : i < h2 + 1 - l2
    · have : l2 + i < lo := by omega
      simp [hi2, this]
    · simp [hi2]
  rw [key (nset v hi lo x), key v, nset_split v hi lo x (by omega)]
  congr 1
  have h4 : (2:Nat) ^ (hi + 1) = 2 ^ (hi + 1 - lo) * 2 ^ lo := by rw [← Nat.pow_add]; congr 1; omega
  rw [h4, ← Nat.mul_assoc, ← Nat.add_mul, Nat.add_comm, Nat.add_mul_mod_self_right, Nat.mod_mod]

/-- Setting a field of a number of `n` bits leaves a number of `n` bits. -/
theorem nset_lt (v hi lo x n : Nat) (hl : lo ≤ hi) (hn : hi < n) (hv : v < 2 ^ n) : nset v hi lo x < 2 ^ n := by
  rw [nset_split v hi lo x (by omega)]
  have a := Nat.mod_lt x (Nat.two_pow_pos (hi + 1 - lo))
  have b := Nat.mod_lt v (Nat.two_pow_pos lo)
  have h4 : (2:Nat) ^ (hi + 1) = 2 ^ (hi + 1 - lo) * 2 ^ lo := by rw [← Nat.pow_add]; congr 1; omega
  have h5 : (x % 2 ^ (hi + 1 - lo) + 1) * 2 ^ lo ≤ 2 ^ (hi + 1 - lo) * 2 ^ lo := Nat.mul_le_mul_right _ a
  rw [Nat.add_mul, Nat.one_mul, ← h4] at h5
  have h6 : v / 2 ^ (hi + 1) < 2 ^ (n - (hi + 1)) := by
    rw [Nat.div_lt_iff_lt_mul (Nat.two_pow_pos _), ← Nat.pow_add]
    have : n - (hi + 1) + (hi + 1) = n := by omega
    rw [this]; exact hv
  have h7 : (v / 2 ^ (hi + 1) + 1) * 2 ^ (hi + 1) ≤ 2 ^ (n - (hi + 1)) * 2 ^ (hi + 1) := Nat.mul_le_mul_right _ h6
  rw [Nat.add_mul, Nat.one_mul, ← Nat.pow_add] at h7
  have : n - (hi + 1) + (hi + 1) = n := by omega
  rw [this] at h7
  omega

end Sys2Proof.Machine
end

