-- ==== Sys2Proof/Laws/Regs.lean ====
section
/-! SUPPORT. What the register operations and the counters do, said once: which words they change and what they leave
there. -/

namespace Sys2Proof.Machine

/-! ### Words -/

@[simp] theorem regGet_regSet_same (s : State) (a : Nat) (w : Word) : regGet (regSet a w s) a = w := by
  simp [regGet, regSet]

theorem regGet_regSet_ne (s : State) {a b : Nat} (w : Word) (h : b ≠ a) : regGet (regSet a w s) b = regGet s b := by
  simp [regGet, regSet, tget_tput_ne _ _ w h]

/-- Two states with the same registers and the same grade read the same words. -/
theorem regGet_congr {s t : State} (h : t.regs = s.regs) (g : t.fuses = s.fuses) (a : Nat) : regGet t a = regGet s a := by
  simp [regGet, h, g]

theorem rf_congr {s t : State} (h : t.regs = s.regs) (g : t.fuses = s.fuses) (a hi lo : Nat) : rf t a hi lo = rf s a hi lo := by
  simp [rf, regGet_congr h g]

/-! ### Fields -/

theorem rfSet_eq (a hi lo x : Nat) (s : State) : rfSet a hi lo x s = regSet a (setFld (regGet s a) hi lo x) s := rfl

theorem fld_setFld_same {n : Nat} (w : BitVec n) (hi lo x : Nat) (hl : lo ≤ hi) (hn : hi < n) :
    fld (setFld w hi lo x) hi lo = x % 2 ^ (hi + 1 - lo) := by
  unfold fld setFld
  rw [BitVec.toNat_ofNat, Nat.mod_eq_of_lt (nset_lt _ _ _ _ _ hl hn w.isLt), nfld_nset_same _ _ _ _ hl]

theorem fld_setFld_above {n : Nat} (w : BitVec n) (hi lo x h2 l2 : Nat) (hl : lo ≤ hi) (hn : hi < n) (hd : hi < l2) :
    fld (setFld w hi lo x) h2 l2 = fld w h2 l2 := by
  unfold fld setFld
  rw [BitVec.toNat_ofNat, Nat.mod_eq_of_lt (nset_lt _ _ _ _ _ hl hn w.isLt), nfld_nset_above _ _ _ _ _ _ hl hd]

theorem fld_setFld_below {n : Nat} (w : BitVec n) (hi lo x h2 l2 : Nat) (hl : lo ≤ hi) (hn : hi < n) (hd : h2 < lo) :
    fld (setFld w hi lo x) h2 l2 = fld w h2 l2 := by
  unfold fld setFld
  rw [BitVec.toNat_ofNat, Nat.mod_eq_of_lt (nset_lt _ _ _ _ _ hl hn w.isLt), nfld_nset_below _ _ _ _ _ _ hl hd]

/-- The field that was set. -/
theorem rf_rfSet_same (s : State) (a hi lo x : Nat) (hl : lo ≤ hi) (hn : hi < 32) :
    rf (rfSet a hi lo x s) a hi lo = x % 2 ^ (hi + 1 - lo) := by
  simp [rf, rfSet, fld_setFld_same _ _ _ _ hl hn]

/-- Another word. -/
theorem rf_rfSet_ne (s : State) {a b : Nat} (hi lo x h2 l2 : Nat) (h : b ≠ a) : rf (rfSet a hi lo x s) b h2 l2 = rf s b h2 l2 := by
  simp [rf, rfSet, regGet_regSet_ne _ _ h]

/-- A field of the same word above the one that was set. -/
theorem rf_rfSet_above (s : State) (a hi lo x h2 l2 : Nat) (hl : lo ≤ hi) (hn : hi < 32) (hd : hi < l2) :
    rf (rfSet a hi lo x s) a h2 l2 = rf s a h2 l2 := by
  simp [rf, rfSet, fld_setFld_above _ _ _ _ _ _ hl hn hd]

/-- A field of the same word below the one that was set. -/
theorem rf_rfSet_below (s : State) (a hi lo x h2 l2 : Nat) (hl : lo ≤ hi) (hn : hi < 32) (hd : h2 < lo) :
    rf (rfSet a hi lo x s) a h2 l2 = rf s a h2 l2 := by
  simp [rf, rfSet, fld_setFld_below _ _ _ _ _ _ hl hn hd]

theorem rf_regSet_same (s : State) (a : Nat) (w : Word) (hi lo : Nat) : rf (regSet a w s) a hi lo = fld w hi lo := by
  simp [rf]

theorem rf_regSet_ne (s : State) {a b : Nat} (w : Word) (hi lo : Nat) (h : b ≠ a) : rf (regSet a w s) b hi lo = rf s b hi lo := by
  simp [rf, regGet_regSet_ne _ _ h]

/-! ### Operations that change registers only -/

/-- `t` differs from `s` in its registers at most. -/
def RegsOnly (s t : State) : Prop := t = { s with regs := t.regs }

theorem RegsOnly.rfl' (s : State) : RegsOnly s s := rfl

theorem RegsOnly.trans {s t u : State} (h : RegsOnly s t) (k : RegsOnly t u) : RegsOnly s u := by
  unfold RegsOnly at *
  rw [k, h]

theorem regsOnly_regSet (a : Nat) (w : Word) (s : State) : RegsOnly s (regSet a w s) := rfl

theorem regsOnly_rfSet (a hi lo x : Nat) (s : State) : RegsOnly s (rfSet a hi lo x s) := rfl

theorem regsOnly_reg64Set (a v : Nat) (s : State) : RegsOnly s (reg64Set a v s) := rfl

theorem regsOnly_rfAdd (a hi lo n : Nat) (s : State) : RegsOnly s (rfAdd a hi lo n s) := rfl

theorem regsOnly_halfSet (a g v : Nat) (s : State) : RegsOnly s (halfSet a g v s) := rfl

theorem regsOnly_foldl {β : Type} (l : List β) (f : State → β → State) (h : ∀ s x, RegsOnly s (f s x)) (s : State) :
    RegsOnly s (l.foldl f s) := by
  induction l generalizing s with
  | nil => exact RegsOnly.rfl' s
  | cons x l ih => exact (h s x).trans (ih (f s x))

theorem regsOnly_cntAdd (p : Page) (n fuel i : Nat) (s : State) : RegsOnly s (cntAdd p n fuel i s) := by
  induction fuel generalizing n i s with
  | zero => exact RegsOnly.rfl' s
  | succ k ih =>
    simp only [cntAdd]
    split
    · exact regsOnly_reg64Set _ _ _
    · split
      · exact ((regsOnly_reg64Set _ _ _).trans (regsOnly_rfSet _ _ _ _ _)).trans (ih _ _ _)
      · exact (regsOnly_reg64Set _ _ _).trans (regsOnly_rfSet _ _ _ _ _)

theorem regsOnly_tally (p : Page) (ev n : Nat) (x : Attrs) (s : State) : RegsOnly s (tally p ev n x s) := by
  simp only [tally]
  split
  · exact RegsOnly.rfl' s
  · apply regsOnly_foldl
    intro s i
    split
    · exact regsOnly_cntAdd _ _ _ _ _
    · exact RegsOnly.rfl' s

theorem regsOnly_tallyHeld (p : Page) (ev n : Nat) (x : Attrs) (s : State) : RegsOnly s (tallyHeld p ev n x s) := by
  simp only [tallyHeld]
  split
  · exact RegsOnly.rfl' s
  · apply regsOnly_foldl
    intro s i
    split
    · exact regsOnly_cntAdd _ _ _ _ _
    · exact RegsOnly.rfl' s

theorem regsOnly_countCycles (n : Nat) (p : Page) (s : State) : RegsOnly s (countCycles n p s) := by
  simp only [countCycles]
  split
  · exact (regsOnly_tallyHeld _ _ _ _ _).trans (regsOnly_tallyHeld _ _ _ _ _)
  · exact regsOnly_tallyHeld _ _ _ _ _

/-- Moving the clocks changes the clocks and the counters of pages. -/
theorem clocksTo_only (k : Clocks) (s : State) :
    clocksTo k s = { s with clk := k, regs := (clocksTo k s).regs } := by
  have h : RegsOnly { s with clk := k } (clocksTo k s) := by
    simp only [clocksTo]
    apply regsOnly_foldl
    intro t p
    split
    · exact RegsOnly.rfl' t
    · exact regsOnly_countCycles _ _ _
  exact h

/-- A sample changes the rings of the Counter Dump Engine. -/
theorem sample_only (agent every va opcode ctx : Nat) (halted replay : Bool) (cycle latency at_ : Nat) (s : State) :
    sample agent every va opcode ctx halted replay cycle latency at_ s =
      { s with sampleCnt := (sample agent every va opcode ctx halted replay cycle latency at_ s).sampleCnt
               rings := (sample agent every va opcode ctx halted replay cycle latency at_ s).rings } := by
  simp only [sample]
  split
  · rfl
  · split <;> rfl

end Sys2Proof.Machine
end

