-- ==== Sys2Proof/Tests/Slice0.lean ====
section
/-! SUPPORT. The model's own tests: ill-formed commands are refused by the check, and for each statement of Obligations.lean a
concrete state and operands that meet its hypotheses, with what the command then answers. Helpers of all test files come first.
Each state is State.reset with the few fields that the command reads. -/

namespace Sys2Proof.Tests

set_option Elab.async false

open Sys2Proof Sys2Proof.Machine

/-! ### Helpers -/

/-- The outcome is a next state of which `f` holds. -/
def nextAnd (o : Host.Outcome State Fault Refusal) (f : State → Bool) : Bool :=
  match o with
  | .next t => f t
  | _ => false

/-- The outcome is exactly this next state. -/
def nextIs (o : Host.Outcome State Fault Refusal) (t : State) : Bool := nextAnd o (fun u => u == t)

/-- Pages ON. -/
def onPages (l : List Page) (s : State) : State := l.foldl (fun s p => rfSet (p.base + Hdr.STATE) 1 0 2 s) s

/-- The machine after power-up, every block still OFF. -/
def powered : State :=
  { State.reset with
    power := { State.reset.power with standbyUp := true, step := 8, rowsOn := 32, rails := true } }

/-- A page address as an operand. -/
def pg (p : Page) : BitVec 48 := BitVec.ofNat 48 p.base

/-! ### Ill-formed commands -/

theorem test_wf_register_value : (Instr.registerWrite .mgc 0 4 (2 ^ 32)).wellFormed = false ∧
    (Instr.registerWrite .mgc 0 4 (2 ^ 32 - 1)).wellFormed = true := by decide

theorem test_wf_page_addresses : (Instr.enable .mgc 4 true).wellFormed = false ∧ (Instr.softReset .mgc 4 true).wellFormed = false ∧
    (Instr.stopComplete 8).wellFormed = false ∧ (Instr.startComplete 8).wellFormed = false ∧
    (Instr.errCodeClear .mgc 1).wellFormed = false ∧ (Instr.lock .mgc 1).wellFormed = false ∧
    (Instr.pstateReq .mgc 1 0).wellFormed = false ∧ (Instr.cntClear .mgc 1).wellFormed = false ∧
    (Instr.enable .mgc 4096 true).wellFormed = true := by decide

theorem test_wf_memory_lines : (Instr.memoryRead .onDie true 1 ⟨[], [], [], []⟩).wellFormed = false ∧
    (Instr.memoryWrite .onDie true 255 [0, 0] ⟨[], [], [], []⟩).wellFormed = false ∧
    (Instr.memoryWrite .onDie true 255 [] ⟨[], [], [], []⟩).wellFormed = false ∧
    (Instr.memoryWrite .onDie true 255 [0] ⟨[], [], [], []⟩).wellFormed = true := by decide

theorem test_wf_lists : (Instr.chunkComplete 0 1).wellFormed = false ∧
    (Instr.drainComplete 0 (List.replicate 1025 ⟨0, 0, 0⟩)).wellFormed = false ∧
    (Instr.packetReceive 0 ⟨0, 0, true, 0, [], true⟩ ⟨0, 0, 0, 0, 0, false, 0, 0, 0, 0, 0, 0, 0, List.replicate 513 0⟩).wellFormed = false ∧
    (Instr.reqSend 0 0 false 0 0 (.wr 0 [])).wellFormed = false ∧ (Instr.getVersion .mctp [256]).wellFormed = false ∧
    (Instr.getCapabilities .mctp [256]).wellFormed = false ∧ (Instr.negotiateAlgorithms .mctp [256]).wellFormed = false ∧
    (Instr.getDigests .mctp [256]).wellFormed = false ∧ (Instr.getCertificate .mctp [256]).wellFormed = false ∧
    (Instr.challenge .mctp [256]).wellFormed = false ∧ (Instr.getMeasurements .mctp [256]).wellFormed = false ∧
    (Instr.keyExchange .mctp [256]).wellFormed = false ∧ (Instr.finish .mctp [256]).wellFormed = false ∧
    (Instr.endSession .mctp [256]).wellFormed = false ∧
    (Instr.powerUpStepDone ⟨true, true, [], List.replicate 5 ⟨true, true, true, true, 0, 0⟩, [], false, []⟩).wellFormed = false := by
  decide +kernel

theorem test_wf_host_bodies : ∀ (h : MsgHdr) (l : List Byte), l.length = 8177 → (Instr.jobLoad 0 h l).wellFormed = false ∧
    (Instr.doorbell 0 h l).wellFormed = false ∧ (Instr.bind 0 h l).wellFormed = false ∧
    (Instr.regAccess 0 h l).wellFormed = false ∧ (Instr.memWrite 0 h l).wellFormed = false ∧
    (Instr.memRead 0 h l).wellFormed = false ∧ (Instr.nop 0 h l).wellFormed = false ∧
    (Instr.secureJob h l).wellFormed = false := by
  intro h l hl
  simp [Instr.wellFormed, hl]

/-- A WRITE of 4 GiB or more is no RDMA message (R363). -/
theorem test_wf_rdma_write : ∀ l : List Byte, l.length = 2 ^ 32 → (Instr.rdmaWrite 0 0 0 0 false [] l).wellFormed = false := by
  intro l hl
  simp [Instr.wellFormed, hl]

/-- A period cannot show more busy engine cycles than cycles. -/
theorem test_wf_power_sample : (Instr.grantPeriod ⟨0, 0, 0, 0, 0, 0, 2, 1, false, 0, 0, 0, 0, false⟩).wellFormed = false ∧
    (Instr.grantPeriod ⟨0, 0, 0, 1, 0, 0, 1, 1, false, 0, 0, 0, 0, false⟩).wellFormed = false ∧
    (Instr.grantPeriod ⟨0, 0, 0, 0, 0, 1, 1, 1, false, 0, 0, 0, 0, false⟩).wellFormed = false := by decide

/-! ### The queue, and a word of the table -/

/-- Step_Executes_Front: REFRESH in front of the queue runs with the queue's rest. -/
theorem test_step_front : nextIs (step { State.reset with pending := [.refresh 0 0 0, .invalDone] })
    { State.reset with pending := [.invalDone] } = true := by decide +kernel

/-- Idle_Step: reset has nothing waiting, and 80 ns pass. -/
theorem test_idle : State.reset.pending = [] ∧ nextAnd (step State.reset) (fun t => t.clk.sclk == 64) = true := by decide +kernel

/-- Memories_Stay_Canonical and Fuses_Only_Blow: reset meets both invariants and steps. -/
theorem test_invariants_hold_at_reset : (Memory.wf State.reset.mem = true ∧ Memory.wf State.reset.cmem = true) ∧
    State.reset.fuses.lifecycle ≤ 4 ∧ State.reset.fuses.svn = [0, 0, 0, 0] ∧ State.reset.fuses.lmsTree ≤ 1024 ∧
    nextAnd (step State.reset) (fun _ => true) = true := by decide +kernel

/-- The table gives no row bits, so no word spells a command. -/
theorem test_no_words : decodeTableWord 16 0 = none ∧ State.reset.withFetchWord 16 0 = State.reset := by decide +kernel

/-! ### Register pages -/

/-- Registers_Write_Read_And_Clear: each access is let in and completes. -/
theorem test_register_access :
    (pageBase (pg pgAcon) = pgAcon.base ∧ LetIn .mgc pgAcon Hdr.ERR_CODE powered ∧ LetIn .mgc pgAcon Hdr.LOCK powered) ∧
    (LetIn .mgc pgAcon (acReg 7 Reg.ACON_CTX_TOKEN + 60 - pgAcon.base) powered ∧
      nextAnd (exec (.registerWrite .mgc (BitVec.ofNat 48 (acReg 7 Reg.ACON_CTX_TOKEN + 60)) 4 0xFFFF0001) powered)
        (fun t => regGet t (acReg 7 Reg.ACON_CTX_TOKEN + 60) == 0xFFFF0001) = true) ∧
    LetIn .mgc pgAcon (acReg 7 Reg.ACON_CTX_PROG_VA - pgAcon.base) powered := by
  unfold LetIn; decide +kernel

/-- Locked_Fields_Keep_Their_Value: a locked RPT page, whose regions are RWL (R278). -/
theorem test_locked_page :
    (let s := rfSet (pgRpt.base + Hdr.LOCK) 0 0 1 powered
     LetIn .mgc pgRpt 0x800 s ∧ locked s pgRpt = true ∧ fieldsAt pgRpt.type 0x800 ≠ [] ∧
     (∀ r ∈ fieldsAt pgRpt.type 0x800, r.acc = .rwl) ∧ nextIs (exec (.registerWrite .mgc (BitVec.ofNat 48 (pgRpt.base + 0x800)) 4 5) s) s = true) := by
  unfold LetIn; decide +kernel

/-- Page_States: a page in each state, and the command that R52 lets act on it; a retired page and a locked one that stays GATED. -/
theorem test_page_states :
    (LetIn .mgc pgAcon Hdr.CTRL powered ∧ pageState powered pgAcon = 0 ∧ pstate powered pgAcon = 0 ∧ retired powered pgAcon = false ∧
      locked powered pgAcon = false ∧ nextAnd (exec (.enable .mgc (pg pgAcon) true) powered) (fun t => pageState t pgAcon == 1)) ∧
    (let s := onPages [pgAcon] powered
     LetIn .mgc pgAcon Hdr.CTRL s ∧ pageState s pgAcon = 2 ∧
      nextAnd (exec (.enable .mgc (pg pgAcon) false) s) (fun t => pageState t pgAcon == 3) ∧
      nextAnd (exec (.softReset .mgc (pg pgAcon) false) s) (fun t => pageState t pgAcon == 3)) ∧
    (let s := rfSet (pgAcon.base + Hdr.STATE) 1 0 3 powered
     LetIn .mgc pgAcon Hdr.CTRL s ∧ pageState s pgAcon = 3 ∧ retired s pgAcon = false ∧ locked s pgAcon = false ∧
      nextAnd (exec (.enable .mgc (pg pgAcon) true) s) (fun t => restartPending t pgAcon) ∧
      nextAnd (exec (.softReset .mgc (pg pgAcon) true) s) (fun t => restartPending t pgAcon && t.softDue.contains pgAcon.base) ∧
      nextAnd (exec (.softReset .mgc (pg pgAcon) false) s) (fun t => !restartPending t pgAcon)) ∧
    (nextAnd (exec (.softReset .mgc (pg pgAcon) true) powered) (fun t => pageState t pgAcon == 1) ∧
      nextAnd (exec (.softReset .mgc (pg pgAcon) false) powered) (fun t => pageState t pgAcon == 0)) ∧
    (let s := rfSet ((pgMov 3).base + Hdr.CAPS) 1 1 1 powered
     LetIn .mgc (pgMov 3) Hdr.CTRL s ∧ retired s (pgMov 3) = true ∧ nextIs (exec (.enable .mgc (pg (pgMov 3)) true) s) s = true) ∧
    (let s := rfSet (pgAcon.base + Hdr.POWER) 1 0 2 (rfSet (pgAcon.base + Hdr.LOCK) 0 0 1 powered)
     locked s pgAcon = true ∧ pstateWanted s pgAcon = 2 ∧ nextIs (exec (.enable .mgc (pg pgAcon) true) s) s = true) := by
  unfold LetIn; decide +kernel

/-- Page_States: the ends of a start and of a stop. -/
theorem test_page_ends :
    (let s := rfSet (pgAcon.base + Hdr.STATE) 1 0 1 powered
     pageAt (pg pgAcon).toNat = some pgAcon ∧ pageLive s pgAcon = true ∧ pageState s pgAcon = 1 ∧ pgAcon.type ≠ 0x0501 ∧
      nextAnd (exec (.startComplete (pg pgAcon)) s) (fun t => pageState t pgAcon == 2)) ∧
    (let s := rfSet (pgAcon.base + Hdr.STATE) 1 0 3 powered
     pageLive s pgAcon = true ∧ pageState s pgAcon = 3 ∧ stopWaits s pgAcon = false ∧
      restartPending s pgAcon = false ∧ nextAnd (exec (.stopComplete (pg pgAcon)) s) (fun t => pageState t pgAcon == 0)) ∧
    (let s := rfSet (pgAcon.base + Hdr.STATE) 4 4 1 (rfSet (pgAcon.base + Hdr.STATE) 1 0 3 powered)
     pageLive s pgAcon = true ∧ stopWaits s pgAcon = false ∧ restartPending s pgAcon = true ∧
      nextAnd (exec (.stopComplete (pg pgAcon)) s) (fun t => pageState t pgAcon == 1)) := by
  decide +kernel

/-- Page_States: XLAT reaches ON; a stop with an array wave in flight waits; neither end comes to a page in another state. -/
theorem test_page_ends_wait :
    (let s := rfSet (pgXlat.base + Hdr.STATE) 1 0 1 powered
     pageAt (pg pgXlat).toNat = some pgXlat ∧ pgXlat.type = 0x0501 ∧ pageLive s pgXlat = true ∧
      nextAnd (exec (.startComplete (pg pgXlat)) s) (fun t => xlatOn t)) ∧
    (let s := rfSet (pgAcon.base + Hdr.STATE) 1 0 3 { powered with array := { powered.array with jobs := [DrainJob.blank] } }
     pageLive s pgAcon = true ∧ pageState s pgAcon = 3 ∧ stopWaits s pgAcon = true ∧
      nextIs (exec (.stopComplete (pg pgAcon)) s) s = true) ∧
    nextIs (exec (.startComplete (pg pgAcon)) powered) powered = true ∧
    nextIs (exec (.stopComplete (pg pgAcon)) powered) powered = true := by
  decide +kernel

/-- Page_States: PSTATE_REQ of a running page and of one at OFF. -/
theorem test_pstate :
    (let s := onPages [pgAcon] powered
     LetIn .mgc pgAcon Hdr.POWER s ∧ locked s pgAcon = false ∧ pageState s pgAcon ≠ 0 ∧
      nextIs (exec (.pstateReq .mgc (pg pgAcon) 1) s) (rfSet (pgAcon.base + Hdr.POWER) 1 0 1 s)) ∧
    (LetIn .mgc pgAcon Hdr.POWER powered ∧ pageState powered pgAcon = 0 ∧ pstate powered pgAcon = 0 ∧
      tget? powered.cycStop pgAcon.base = none ∧
      nextAnd (exec (.pstateReq .mgc (pg pgAcon) 2) powered) (fun t => pstate t pgAcon == 2)) := by
  unfold LetIn; decide +kernel

/-- Signal_Arrival_Counts: a signal for a gate counter of context 7, one for a token counter of cluster 1023, one for a stream and
one for XSEQ; one for a block that is OFF, and one that is not sent yet. -/
theorem test_signal_arrival :
    (let x : Signal := ⟨3, 7, 0, 31, 255, 0, 0, [], []⟩
     let s := { onPages [pgAcon] powered with flying := [x] }
     s.flying[0]? = some x ∧ s.flying.findIdx (fun y => y.sameWay x) = 0 ∧ x.isSent s = true ∧ pageState s pgAcon ≠ 0 ∧
      nextAnd (exec (.signalArrival 0) s) (fun t => gateCtr t 7 31 == 255)) ∧
    (let x : Signal := ⟨0, 0, 1023, 31, 9, 0, 0, [], []⟩
     let s := { onPages [pgCseq 1023] powered with flying := [x] }
     s.flying[0]? = some x ∧ s.flying.findIdx (fun y => y.sameWay x) = 0 ∧ x.isSent s = true ∧ pageState s (pgCseq 1023) ≠ 0 ∧
      nextAnd (exec (.signalArrival 0) s) (fun t => csToken t 1023 0 31 == 9) ∧
      nextAnd (exec (.signalArrival 0) (onPages [] { powered with flying := [x] })) (fun t => t.flying.isEmpty)) ∧
    (let x : Signal := ⟨2, 7, 0, 31, 255, 0, 0, [], []⟩
     let s := { onPages [pgXseq 0] powered with flying := [x] }
     s.flying.findIdx (fun y => y.sameWay x) = 0 ∧ xToken s 7 31 + 255 ≤ 65535 ∧
      nextAnd (exec (.signalArrival 0) s) (fun t => xToken t 7 31 == 255)) ∧
    (let x : Signal := ⟨1, 0, 16383, 3, 255, 0, 0, [], []⟩
     let s := { onPages [pgMov (moverOf 16383)] powered with flying := [x] }
     s.flying.findIdx (fun y => y.sameWay x) = 0 ∧ (strm s 16383).state ≠ .waiting ∧ (strm s 16383).tokens.length = 4 ∧
      nextAnd (exec (.signalArrival 0) s) (fun t => lget (strm t 16383).tokens 3 0 == 255)) ∧
    (let x : Signal := ⟨3, 7, 0, 31, 255, 0, 1, [], []⟩
     let s := { onPages [pgAcon] powered with flying := [x] }
     x.isSent s = false ∧ nextIs (exec (.signalArrival 0) s) s = true) := by
  decide +kernel

end Sys2Proof.Tests
end

