-- ==== Sys2Proof/Tests/Acon.lean ====
section
/-! SUPPORT. Tests of the Array Conductor and the Great Array: a witness for each statement of Obligations.lean about contexts,
windows, timed and control instructions. -/

namespace Sys2Proof.Tests

set_option Elab.async false

open Sys2Proof Sys2Proof.Machine

/-- The value is there and `f` holds of it. -/
def okAnd {ε α : Type} (r : Except ε α) (f : α → Bool) : Bool :=
  match r with
  | .ok a => f a
  | .error _ => false

/-- A region that lets every access in, over all of PA[40:16]. -/
def openRegion : Nat := 0x3C3D + (2 ^ 25 - 1) <<< 39

/-- Powered, with translation ON: contexts 0 and 1 have 1 GiB at VA 0 mapped one to one, and the RPT lets all in. -/
def mapped : State :=
  { reg64Set (pgRpt.base + Reg.RPT_REGION) openRegion
      (reg64Set (pgXlat.base + Reg.XLAT_CTX_ROOT + 8) 1
      (reg64Set (pgXlat.base + Reg.XLAT_CTX_ROOT) 1 (onPages [pgXlat] powered))) with
    xlat := [⟨0, 0, 2 ^ 30, 0, true, true, true⟩, ⟨1, 0, 2 ^ 30, 0, true, true, true⟩] }

/-- Bytes placed in main memory. -/
def withMem (a : Nat) (d : List Byte) (s : State) : State := { s with mem := memPutBytes s.mem a d }

/-- A program header of R122 for the whole array. -/
def progHeader (count entry vcnt voff : Nat) : List Byte :=
  leBytes 64 (1 + count <<< 32 + 512 <<< 64 + 512 <<< 80 + 0xFFFFFFFF <<< 96 + 0xFFFFFFFF <<< 128 + voff <<< 160 + vcnt <<< 192 +
    entry <<< 224)

/-- A 16-byte instruction or slot from its fields: OPCODE, AT and the rest. -/
def ins (op at_ rest : Nat) : Nat := op <<< 120 + at_ <<< 104 + rest

/-- ACON ON with the program of context 0 at 0x10000. -/
def withProg (l : List Nat) : State :=
  withMem 0x10000 (progHeader l.length 0 0 0 ++ l.flatMap (leBytes 16))
    (reg64Set (acReg 0 Reg.ACON_CTX_PROG_VA) 0x10000 (onPages [pgAcon] mapped))

/-- Context c holds the array and runs a program of `count` instructions. -/
def runs (c count : Nat) (s : State) : State :=
  actxMod c (fun a => { a with instrCount := count }) (acStateSet c stRunning (regSet activeReg (BitVec.ofNat 32 (0x80 + c)) s))

/-- A window of context 0 in a phase, with its instructions. -/
def window (ph : WinPhase) (l : List Timed) : Window where
  serial := 1
  winIndex := 0
  next := 1
  len := 4096
  gateMask := 0
  gateCount := 0
  pclass := 0
  quiet := false
  carry := 0
  audited := false
  second := false
  phase := ph
  instrs := l
  all := l
  gaps := []
  cycle0 := 0
  endAclk := 0
  restores := false
  tokensTaken := false
  zeroed0 := false
  zeroed1 := false
  startState := ⟨false, [0, 0, 0, 0], [false, false, false, false], BankRec.empty, BankRec.empty, 0⟩
  held := []
  drains := 0
  withheld := false
  replays := 0
  begun := false
  after := []

/-- Context 0 with that window. -/
def withWin (w : Window) (s : State) : State := actxMod 0 (fun a => { a with win := some w }) s

/-- A drain of context 0 that every cluster has still to write. -/
def oneJob (s : State) : State :=
  { s with array := { s.array with jobs := [{ DrainJob.blank with window := 1, left := [0] }] } }

/-! ### Contexts -/

/-- A program of one END. -/
def endOnly : State := withProg [ins 0x0F 0 0]

/-- Context_Commands: START, PREEMPT of a READY and of a RUNNING context. -/
theorem test_start_preempt :
    (LetIn .mgc pgAcon (Reg.ACON_CTX_CMD + 0 * 0x100) endOnly ∧ isOn endOnly pgAcon = true ∧ acState endOnly 0 = stIdle ∧
      okAnd (checkHeader 0 endOnly).1 (fun h => h == ⟨1, 0, 0, 0⟩) ∧
      nextAnd (exec (.start .mgc 0) endOnly) (fun t => acState t 0 == stReady && (actx t 0).notice && t.mem == endOnly.mem)) ∧
    (let s := acStateSet 0 stReady endOnly
     acState s 0 = stReady ∧ (actx s 0).abortReq = false ∧
      nextAnd (exec (.preempt .mgc 0) s) (fun t => acState t 0 == stPreempted)) ∧
    (let s := runs 0 1 endOnly
     acState s 0 = stRunning ∧ (actx s 0).abortReq = false ∧
      nextIs (exec (.preempt .mgc 0) s) (actxMod 0 (fun a => { a with preemptReq := true }) s)) := by
  unfold LetIn; decide +kernel

/-- Context_Commands: RESUME of a PREEMPTED context and of one that a control instruction halted. -/
theorem test_resume :
    (let s := acStateSet 0 stPreempted endOnly
     LetIn .mgc pgAcon (Reg.ACON_CTX_CMD + 0 * 0x100) s ∧ isOn s pgAcon = true ∧ (actx s 0).abortReq = false ∧
      acState s 0 = stPreempted ∧ nextAnd (exec (.resume .mgc 0) s) (fun t => acState t 0 == stReady)) ∧
    (let s := actxMod 0 (fun a => { a with haltKind := .control }) (acStateSet 0 stHalted endOnly)
     acState s 0 = stHalted ∧ (actx s 0).haltKind = .control ∧ nextAnd (exec (.resume .mgc 0) s) (fun t => acState t 0 == stReady)) := by
  unfold LetIn; decide +kernel

/-- Context_Commands: ABORT without and with a reader busy, and its end. -/
theorem test_abort :
    (let s := runs 0 1 endOnly
     LetIn .mgc pgAcon (Reg.ACON_CTX_CMD + 0 * 0x100) s ∧ isOn s pgAcon = true ∧ acState s 0 ≠ stIdle ∧ ctxBusy s 0 = false ∧
      nextAnd (exec (.abort .mgc 0) s) (fun t => acState t 0 == stIdle && running t == none)) ∧
    (let s := oneJob (runs 0 1 endOnly)
     acState s 0 ≠ stIdle ∧ ctxBusy s 0 = true ∧ nextAnd (exec (.abort .mgc 0) s) (fun t => (actx t 0).abortReq)) ∧
    (let s := actxMod 0 (fun a => { a with abortReq := true }) (runs 0 1 endOnly)
     (actx s 0).abortReq = true ∧ ctxBusy s 0 = false ∧ nextAnd (exec (.abortDone 0) s) (fun t => acState t 0 == stIdle)) := by
  unfold LetIn; decide +kernel

/-- Array_Is_Granted_And_Switched: the grant, the end of a context, and a switch at an END for a waiting PREEMPT. -/
theorem test_grant_done_switch :
    (let s := acStateSet 0 stReady endOnly
     isOn s pgAcon = true ∧ running s = none ∧ bestReady s = some 0 ∧ rf s (statusReg 0) 8 8 = 0 ∧ (actx s 0).haltKind = .none ∧
      (actx s 0).agentHalt = false ∧ nextAnd (exec .arrayGrant s) (fun t => running t == some 0 && acState t 0 == stRunning)) ∧
    (let s := actxMod 0 (fun a => { a with ending := true }) (runs 0 1 endOnly)
     (actx s 0).ending = true ∧ (actx s 0).ended = [] ∧ ctxBusy s 0 = false ∧ acState s 0 = stRunning ∧
      nextAnd (exec (.contextDone 0) s) (fun t => acState t 0 == stIdle && running t == none)) ∧
    (let s := actxMod 0 (fun a => { a with preemptReq := true, windowed := true }) (runs 0 1 endOnly)
     let r0 := (bitsOf 2 (boundaryBanks s 0).toNat).foldl (fun r p => saveNow 0 p r) (none, s)
     let s1 := actxMod 0 (fun a => { a with savedBanks := boundaryBanks s 0 }) r0.2
     r0.1 = none ∧
     running s = some 0 ∧ switchWaits s 0 = true ∧ atBoundary s 0 = true ∧ (actx s 0).agentHalt = false ∧ (actx s 0).ending = false ∧
      ctxBusy s 0 = false ∧ acState s 0 = stRunning ∧
      (let r := copyOut (viaCtx s1 0) (ctxSecure s1 0) (savedImages s1 0 (boundaryBanks s 0)) (saveVa s1 0 + 0x100) s1
       r.1 = none ∧ okAnd (virtWrite (viaCtx s1 0) (saveVa s1 0) (stateRecord r.2 0) r.2).1 (fun _ => true)) ∧
      nextAnd (exec .contextSwitch s) (fun t => acState t 0 == stPreempted && rf t (statusReg 0) 8 8 == 1)) := by
  decide +kernel

/-! ### Windows -/

/-- A WIN of LEN 4,096 with gate counter 0, count 1, then a SWAP at cycle 70 and END. -/
def winProg : State := runs 0 3 (withProg [ins 0x01 4095 (1 <<< 72 + 1 <<< 64), ins 0x05 70 0, ins 0x0F 0 0])

/-- Window_Comes_In: WIN, the load, a slot of the prologue, the start. -/
theorem test_window_comes_in :
    (atControl winProg = some 0 ∧ okAnd (controlAt 0 winProg).1 (fun w => opOf w == 1) ∧ boundaryWaits winProg 0 = false ∧
      (actx winProg 0).overrun = none ∧ okAnd (controlAt 0 winProg).1 (fun w => winCheck 0 w winProg == none) ∧
      nextAnd (exec .win winProg) (fun t => (actx t 0).win.map (·.len) == some 4096)) ∧
    (let s := withWin (window .opened []) winProg
     running s = some 0 ∧ xlatOn s = true ∧ acState s 0 = stRunning ∧
      okAnd (loadTimed 0 4096 1025 1 0 [] s).1 (fun r => r.1.length == 1 && r.2 == 2) ∧
      nextAnd (exec .windowLoad s) (fun t => (actx t 0).win.map (·.phase) == some .loaded)) ∧
    (let w := { window .loaded [] with carry := 1 }
     let s := withWin w winProg
     carried w = [0] ∧ w.restores = false ∧ (geometryAgain 0 s).1 = none) ∧
    (let w := { window .loaded [] with gateMask := 1, gateCount := 1 }
     let s := gateCtrSet 0 0 3 (withWin w winProg)
     atGate w = true ∧ shortGates s 0 w = [] ∧ acState s 0 = stRunning ∧ s.power.rowsOn = 32 ∧ (geometryAgain 0 s).1 = none ∧
      (actx s 0).overrun = none ∧
      nextAnd (exec .windowStart s) (fun t => (actx t 0).win.map (·.phase) == some .running && gateCtr t 0 0 == 2)) := by
  decide +kernel

/-- Window_Ends_And_Replays: the timeout at a short gate, the end of a window, the delivery of a signal, a replay. -/
theorem test_window_ends :
    (let w := { window .loaded [] with gateMask := 1, gateCount := 1 }
     let s := rfSet (pgAcon.base + Reg.ACON_CONFIG) 31 16 1 (withWin w winProg)
     running s = some 0 ∧ atGate w = true ∧ shortGates s 0 w = [0] ∧ rf s (pgAcon.base + Reg.ACON_CONFIG) 31 16 ≠ 0 ∧
      nextAnd (exec .tokenTimeout s) (fun t => acState t 0 == stHalted && rf t (acReg 0 Reg.ACON_CTX_HALT) 7 0 == 0x0B)) ∧
    (let s := withWin (window .running []) winProg
     (actx s 0).win = some (window .running []) ∧
      nextAnd (exec .windowEnd s) (fun t => (actx t 0).win == none && (actx t 0).pc == 1 && t.clk.aclk == 4096)) ∧
    (let e : EndedWin := ⟨1, [⟨3, 0, 0, 5, 1, 0, 0, [], []⟩], window .running []⟩
     let s := actxMod 0 (fun a => { a with ended := [e] }) winProg
     (List.range 8).findSome? (fun c => (deliverable s c).map (fun e => (c, e))) = some (0, e) ∧ e.window.withheld = false ∧
      nextAnd (exec .signalDelivery s) (fun t => t.flying == e.held)) ∧
    (let s := actxMod 0 (fun a => { a with haltKind := .window }) (withWin (window .halted [⟨1, 0, none, none, none⟩]) winProg)
     acState s 0 = stRunning ∧ (actx s 0).haltKind = .window ∧ (actx s 0).abortReq = false ∧
      s.array.jobs.any (fun j => j.ctx == 0 && j.window == 1) = false ∧
      nextAnd (exec .replay s) (fun t => (actx t 0).win.map (·.restores) == some true && rf t (statusReg 0) 7 4 == 1)) := by
  decide +kernel

/-! ### Timed instructions -/

/-- Context 0 runs a window whose next instruction is `w`. -/
def issues (w : Nat) (a b o : Option Tensor) (s : State) : State :=
  withWin (window .running [⟨1, BitVec.ofNat 128 w, a, b, o⟩]) s

/-- A one-element tensor of INT8 (format 6) at CMEM offset `base`, cluster-resident. -/
def tiny (base : Nat) : Tensor :=
  ⟨base, 6, 2, true, true, false, false, false, 0, 0, 1, 0, [1, 1, 1, 1, 1], [1, 1, 1, 1], true⟩

/-- An array of the one cluster 0. -/
def oneCluster (s : State) : State :=
  regSet (pgAcon.base + Reg.ACON_GEOMETRY) (16 + 16 * 65536)
    (regSet (pgAcon.base + Reg.ACON_COL_BANDS) 1 (regSet (pgAcon.base + Reg.ACON_ROW_BANDS) 1 s))

/-- Timed_Without_Data: FRAME sets a frame, SWAP swaps, QUIET is taken, SIG is held. -/
theorem test_timed :
    (let s := issues (ins 0x02 70 (6 <<< 96 + 6 <<< 91 + 5 <<< 79)) none none none winProg
     (nextIssue s 0x02).isSome ∧ nextAnd (exec .frame s) (fun t =>
        ((actx t 0).win.map (fun v => v.after.map (·.1)) == some [70]) && !(actx t 0).rec0.frameSet)) ∧
    (let s := issues (ins 0x05 70 0) none none none winProg
     (nextIssue s 0x05).isSome ∧ nextAnd (exec .swap s) (fun t =>
        ((actx t 0).win.map (fun v => v.after.map (·.1)) == some [70]) && !(actx t 0).swap)) ∧
    (let s := issues (ins 0x07 70 0) none none none winProg
     (nextIssue s 0x07).isSome ∧ nextAnd (exec .quiet s) (fun t => (actx t 0).win.map (·.instrs) == some [])) ∧
    (let s := issues (ins 0x06 70 (3 <<< 102 + 1 <<< 70)) none none none winProg
     (nextIssue s 0x06).map (·.win.second) = some false ∧
      nextAnd (exec .sig s) (fun t => (actx t 0).win.map (·.held) == some [⟨3, 0, 0, 0, 1, 0, 0, [], []⟩])) := by
  decide +kernel

/-- Timed_Without_Data: a SWAP and a FRAME at cycle 70 stand for an instruction at cycle 71 and not for one at cycle 70 (R111). -/
theorem test_after :
    (let w : Window := { window .running [] with after := [(70, 0, BitVec.ofNat 128 (ins 0x05 70 0))] }
     let s := withWin w winProg
     let at_ (n : Nat) : Issue := ⟨0, w, ⟨1, BitVec.ofNat 128 (ins 0x07 n 0), none, none, none⟩⟩
     (actx (issueAdvance (at_ 70) s) 0).swap = false ∧ (actx (issueAdvance (at_ 71) s) 0).swap = true) ∧
    (let w : Window := { window .running [] with after := [(70, 1, BitVec.ofNat 128 (ins 0x02 70 (6 <<< 96 + 6 <<< 91 + 5 <<< 79)))] }
     let s := withWin w winProg
     let at_ (n : Nat) : Issue := ⟨0, w, ⟨1, BitVec.ofNat 128 (ins 0x07 n 0), none, none, none⟩⟩
     (actx (issueAdvance (at_ 70) s) 0).rec1.frameSet = false ∧ (actx (issueAdvance (at_ 71) s) 0).rec1.f = 5) := by
  decide +kernel

/-- Mma_Accumulates: an MMA with ZERO of one step of INT8 into bank 0. -/
theorem test_mma_checks :
    (let s := recPut 0 0 { BankRec.empty with frameSet := true, fmtA := 6, fmtB := 6 }
      (issues (ins 0x03 70 (1 <<< 57 + 1 <<< 5)) (some (tiny 0)) (some (tiny 64)) none (oneCluster winProg))
     (nextIssue s 0x03).isSome ∧
      (nextIssue s 0x03).map (fun i => mmaChecks (issueAdvance i s) i (physOf s i.ctx (fld i.ins.word 8 8)) (tiny 0) (tiny 64)) =
        some none) := by
  decide +kernel

/-- Drains_And_Saves: a DRAIN and a SAVE that the window's own ZERO made legal, and a job that a cluster has still to write. -/
theorem test_drain_save :
    (let s := withWin { window .running [⟨1, BitVec.ofNat 128 (ins 0x04 400 (6 <<< 83)), none, none, some (tiny 128)⟩] with
        zeroed0 := true } (oneCluster winProg)
     (nextIssue s 0x04).map (fun i => drainChecks (issueAdvance i s) i (physOf s i.ctx (fld i.ins.word 103 103)) false) = some none ∧
      nextAnd (exec .drain s) (fun t => t.array.jobs.map (·.left) == [[0]] && t.array.lastDrain == some 400)) ∧
    (let s := rfSet (acReg 0 Reg.ACON_CTX_CTRL) 0 0 1
      (withWin { window .running [⟨1, BitVec.ofNat 128 (ins 0x0C 400 (2 <<< 87)), none, none, none⟩] with zeroed0 := true }
        (oneCluster winProg))
     (nextIssue s 0x0C).map (fun i => drainChecks (issueAdvance i s) i (physOf s i.ctx (fld i.ins.word 103 103))
        (rf (issueAdvance i s) (acReg i.ctx Reg.ACON_CTX_CTRL) 0 0 == 0)) = some none ∧
      nextAnd (exec .save s) (fun t => t.array.jobs.map (fun j => (j.isSave, j.imageOff)) == [(true, 128)])) ∧
    ((oneJob winProg).array.jobs.find? (fun j => j.left.contains (0 : Cluster).val)).map (·.audited) = some false := by
  decide +kernel

/-- Restore_Loads_Bank: every check of a RESTORE by a context with PRIV, from an image of zeros in the one cluster. -/
theorem test_restore_checks :
    (let s := rfSet (acReg 0 Reg.ACON_CTX_CTRL) 0 0 1 (issues (ins 0x0D 70 0) none none none (oneCluster winProg))
     (nextIssue s 0x0D).isSome ∧ (nextIssue s 0x0D).map (fun i => restoreChecks (issueAdvance i s) i 0) = some none ∧
      arrayClusters s = [(0, 0, 0)] ∧ spanBad s 0 false 40960 64 = none ∧ recCheck s.fuses.grade (leNat (cmemGetRaw s 0 40960 64)) = none) := by
  decide +kernel

/-- An empty cluster memory reads 0 everywhere. -/
theorem cmemGetRaw_of_empty (s : State) (n : Nat) (h : s.cmem = []) (k : Nat) :
    ∀ off, cmemGetRaw s n off k = List.replicate k 0 := by
  induction k with
  | zero => intro off; rfl
  | succ k ih =>
    intro off
    rw [cmemGetRaw, ih (off + 1), List.replicate_succ]
    congr 1
    unfold cmemByte
    rw [h]
    rfl

/-- The state of test_restore_checks. -/
def restoring : State :=
  rfSet (acReg 0 Reg.ACON_CTX_CTRL) 0 0 1 (issues (ins 0x0D 70 0) none none none (oneCluster winProg))

/-- Restore_Loads_Bank: the images read and the bank loads. -/
theorem test_restore_loads : ∃ s3, restoreBank 0 0 0 70 BankRec.empty restoring = .ok s3 := by
  have h : (arrayClusters restoring).map (fun e => e.2.2) = [0] := by decide +kernel
  have hs : ctxSecure restoring 0 = false := by decide +kernel
  have hb : imageTouch false 0 [0] restoring = (none, restoring) := by
    have hc : cmemClean restoring 0 false = true := by decide +kernel
    simp [imageTouch, hc]
  have hr : imageReserved restoring 0 [0] = false := by
    have h0 : rawReserved (leNat (List.replicate 40 (0 : Byte))) = false := by decide +kernel
    unfold imageReserved
    simp only [cmemGetRaw_of_empty restoring _ rfl, h0]
    simp
  unfold restoreBank
  simp only [h, hs, hb, hr]
  exact ⟨_, rfl⟩

/-! ### Control instructions -/

/-- Context 0 at the control instruction `w`, in a program of four. -/
def atCtl (w : Nat) : State := runs 0 4 (withProg [w, ins 0x0F 0 0, ins 0x0F 0 0, ins 0x0F 0 0])

/-- Control_Instructions: AUDIT in mode 1, END, and a VSEL whose length 5 picks the second variant. -/
theorem test_control :
    (let s := rfSet (acReg 0 Reg.ACON_CTX_CTRL) 2 1 1 (atCtl (ins 0x08 0 (1 <<< 119)))
     atControl s = some 0 ∧ okAnd (controlAt 0 s).1 (fun w => opOf w == 0x08 && fld w 118 0 == 0) ∧
      nextAnd (exec .audit s) (fun t => (actx t 0).pc == 1 && auditOpen t 0)) ∧
    (let s := atCtl (ins 0x0F 0 0)
     atControl s = some 0 ∧ boundaryWaits s 0 = false ∧ okAnd (controlAt 0 s).1 (fun w => opOf w == 0x0F && fld w 119 0 == 0) ∧
      nextAnd (exec .endProg s) (fun t => (actx t 0).ending)) ∧
    (let s := withMem 0x20000 [5, 0, 0, 0] (withMem 0x10800 (leBytes 16 (4 + 1 <<< 32 + 7 <<< 64) ++ leBytes 16 (8 + 2 <<< 32 + 9 <<< 64))
        (actxMod 0 (fun a => { a with vtabCount := 2, vtabOff := 0x800 }) (atCtl (ins 0x09 0 (0x20000 <<< 72)))))
     atControl s = some 0 ∧ boundaryWaits s 0 = false ∧ (actx s 0).overrun = none ∧
      okAnd (controlAt 0 s).1 (fun w => opOf w == 0x09 && !bit w 63 && fld w 57 0 == 0 && fld w 119 72 % 4 == 0) ∧
      (actx s 0).vtabCount ≠ 0 ∧
      nextAnd (exec .vsel s) (fun t => (actx t 0).pc == 2 && rf t (statusReg 0) 23 16 == 9)) := by
  decide +kernel

/-- Loop_Counters: the first pass of a LOOP of three, its last pass, and a JMP. -/
theorem test_loops :
    (let s := atCtl (ins 0x0A 0 (1 <<< 118 + 2 <<< 94 + 1 <<< 62))
     atControl s = some 0 ∧ okAnd (controlAt 0 s).1 (fun w => opOf w == 0x0A && branchCheck (fld w 61 0 != 0) (actx s 0) w == none &&
        fld w 119 118 == 1 && fld w 117 94 == 2) ∧
      nextAnd (exec .loop s) (fun t => (actx t 0).lc == [0, 2, 0, 0] && (actx t 0).pc == 1 && (actx t 0).active == [false, true, false, false])) ∧
    (let s := actxMod 0 (fun a => { a with lc := [0, 1, 0, 0], active := [false, true, false, false] })
        (atCtl (ins 0x0A 0 (1 <<< 118 + 2 <<< 94 + 1 <<< 62)))
     atControl s = some 0 ∧ nextAnd (exec .loop s) (fun t => (actx t 0).active == [false, false, false, false] && (actx t 0).pc == 1)) ∧
    (let s := atCtl (ins 0x0B 0 (3 <<< 62))
     atControl s = some 0 ∧ okAnd (controlAt 0 s).1 (fun w => opOf w == 0x0B &&
        branchCheck (fld w 119 94 != 0 || fld w 61 0 != 0) (actx s 0) w == none) ∧
      nextAnd (exec .jmp s) (fun t => (actx t 0).pc == 3)) := by
  decide +kernel

end Sys2Proof.Tests
end

