-- ==== Sys2Proof/Tests/Cseq.lean ====
section
/-! SUPPORT. Tests of the cluster sequencer and the cluster engines. -/

namespace Sys2Proof.Tests

set_option Elab.async false

open Sys2Proof Sys2Proof.Machine

/-! ### Streams -/

/-- A fetched slot. -/
def slot (w : Nat) : QSlot := ⟨1, BitVec.ofNat 128 w, none, none⟩

/-- Cluster 0 runs the stream of context 0, whose view is `k`. -/
def streams (st : Nat) (k : CseqCtx) : State :=
  cctxMod 0 0 (fun _ => k) (csStateSet 0 0 st (csActiveSet 0 (some 0) (onPages [pgCseq 0] mapped)))

/-- A stream of 8 slots at a boundary command. -/
def atSlot (w : Nat) : State := streams 1 { CseqCtx.fresh with slotCount := 8, queue := [slot w] }

/-- A phase that has these slots still to issue. -/
def phaseWith (l : List QSlot) : Phase := ⟨0, 0, true, l, l, 0, 0, [0, 0, 0, 0], [false, false, false, false]⟩

/-- Cluster 0 in a phase. -/
def inPhase (l : List QSlot) : State := streams 1 { CseqCtx.fresh with slotCount := 8, phase := some (phaseWith l) }

/-- WAIT for 3 on counter 5 with REPLAY_OK. -/
def wait5 : Nat := 1 <<< 120 + 5 <<< 98 + 3 <<< 90 + 1 <<< 89

/-- Cseq_Start_Fetch_And_Wait: a WAIT begins to test, its phase starts, and it times out. -/
theorem test_wait :
    (let s := atSlot wait5
     (boundary s 0).isSome ∧ switchDue s 0 = false ∧ fld (slot wait5).word 127 120 = 1 ∧
      (boundary s 0).map (fun b => (boundaryStop 0 b.1 b.2.1 b.2.2 true s).isNone) = some true ∧
      nextAnd (exec (.wait 0) s) (fun t => csState t 0 0 == 2 && (cctx t 0 0).testing == some 0)) ∧
    (let s := csTokenSet 0 0 5 4 (streams 2 { CseqCtx.fresh with slotCount := 8, queue := [slot wait5], testing := some 0 })
     csRuns s 0 = some 0 ∧ csState s 0 0 = 2 ∧ fld (slot wait5).word 97 90 ≤ csToken s 0 0 5 ∧ switchDue s 0 = false ∧
      nextAnd (exec (.phaseStart 0) s) (fun t => csState t 0 0 == 1 && csToken t 0 0 5 == 1)) ∧
    (let s := rfSet ((pgCseq 0).base + Reg.CSEQ_CONFIG) 31 16 1 (csTokenSet 0 0 5 2
        (streams 2 { CseqCtx.fresh with slotCount := 8, queue := [slot wait5], testing := some 0 }))
     csToken s 0 0 5 < fld (slot wait5).word 97 90 ∧ rf s ((pgCseq 0).base + Reg.CSEQ_CONFIG) 31 16 ≠ 0 ∧
      nextAnd (exec (.cseqWaitTimeout 0) s) (fun t => csState t 0 0 == 3 && rf t (csReg 0 0 Reg.CSEQ_CTX_HALT) 7 0 == 0x0B)) := by
  decide +kernel

/-- A stream header of R167: 8 slots, entry 2, one variant entry at offset 0x100. -/
def streamHeader (vcnt voff : Nat) : List Byte :=
  leBytes 64 (1 + 0 <<< 16 + 8 <<< 32 + 2 <<< 64 + voff <<< 96 + vcnt <<< 128)

/-- Cseq_Start_Fetch_And_Wait: a start notice with and without a variant table, and a fetch of an END. -/
theorem test_stream_start_fetch :
    (let s := reg64Set (csReg 0 0 Reg.CSEQ_CTX_STREAM_VA) 0x30000 (actxMod 0 (fun a => { a with notice := true })
        (withMem 0x30000 (streamHeader 0 0) (onPages [pgCseq 0] mapped)))
     (actx s 0).notice = true ∧ (actx s 0).noticed.contains 0 = false ∧ csState s 0 0 = 0 ∧ xlatOn s = true ∧ isOn s (pgCseq 0) = true ∧
      reg64 s (csReg 0 0 Reg.CSEQ_CTX_STREAM_VA) % 2 ^ 48 = 0x30000 ∧
      okAnd (virtRead (viaCtx s 0) 0x30000 64 s).1 (fun d => d == streamHeader 0 0) ∧
      nextAnd (exec (.streamStart 0 0) s) (fun t => csState t 0 0 == 5 && (cctx t 0 0).pc == 2)) ∧
    (let s := reg64Set (csReg 0 0 Reg.CSEQ_CTX_STREAM_VA) 0x30000 (actxMod 0 (fun a => { a with notice := true })
        (withMem 0x30100 (leBytes 8 (9 + 3 <<< 32)) (withMem 0x30000 (streamHeader 1 0x100) (onPages [pgCseq 0] mapped))))
     okAnd (virtRead (viaCtx s 0) 0x30100 8 s).1 (fun d => parseVtab 1 d == [(9, 3, false)]) ∧
      nextAnd (exec (.streamStart 0 0) s) (fun t => csState t 0 0 == 5 && (cctx t 0 0).vtab == [(9, 3)])) ∧
    (let s := withMem 0x30040 (leBytes 16 (0x0F <<< 120)) (reg64Set (csReg 0 0 Reg.CSEQ_CTX_STREAM_VA) 0x30000
        (streams 1 { CseqCtx.fresh with slotCount := 8 }))
     csRuns s 0 = some 0 ∧ (cctx s 0 0).queue = [] ∧ xlatOn s = true ∧ csState s 0 0 = 1 ∧
      nextAnd (exec (.streamFetch 0) s) (fun t => (cctx t 0 0).queue.map (·.word) == [BitVec.ofNat 128 (0x0F <<< 120)])) := by
  decide +kernel

/-- Cseq_Slots_Replay_And_Switch: SIGNAL, VARJ before and at its mailbox. -/
theorem test_signal_varj :
    (let s := inPhase [slot (2 <<< 120 + 3 <<< 101 + 1 <<< 69)]
     (phaseHead s 0).map (fun h => (fld h.2.2.2.word 127 120, h.2.1.nextError.isNone)) = some (2, true) ∧ cseqBusy s 0 0 = false ∧
      nextAnd (exec (.signal 0) s) (fun t => t.flying == [⟨3, 0, 0, 0, 1, masterId 1 0, 0, [], []⟩])) ∧
    (let s := atSlot (3 <<< 120)
     (boundary s 0).map (fun b => ((boundaryStop 0 b.1 b.2.1 b.2.2 true s).isNone, b.2.1.testing)) = some (true, none) ∧
      switchDue s 0 = false ∧ rf s (csReg 0 0 Reg.CSEQ_CTX_STATUS) 23 23 = 0 ∧
      nextAnd (exec (.varj 0) s) (fun t => csState t 0 0 == 2)) ∧
    (let s := mailboxPut 0 0 9 (streams 2 { CseqCtx.fresh with
        slotCount := 8, queue := [slot (3 <<< 120)], testing := some 0, vtab := [(9, 3)] })
     csState s 0 0 = 2 ∧ rf s (csReg 0 0 Reg.CSEQ_CTX_STATUS) 23 23 = 1 ∧ switchDue s 0 = false ∧
      (cctx s 0 0).vtab.find? (fun e => e.1 == rf s (csReg 0 0 Reg.CSEQ_CTX_STATUS) 31 24) = some (9, 3) ∧
      nextAnd (exec (.varj 0) s) (fun t => (cctx t 0 0).pc == 3 && csState t 0 0 == 1)) := by
  decide +kernel

/-- Cseq_Slots_Replay_And_Switch: LOOP, JMP and END of a stream. -/
theorem test_cseq_control :
    (let s := atSlot (4 <<< 120 + 1 <<< 77 + 2 <<< 45)
     (boundary s 0).map (fun b => (boundaryStop 0 b.1 b.2.1 b.2.2 false s).isNone) = some true ∧
      nextAnd (exec (.cseqLoop 0) s) (fun t => (cctx t 0 0).lc == [1, 0, 0, 0] && (cctx t 0 0).pc == 3)) ∧
    (let s := atSlot (5 <<< 120 + 4 <<< 45)
     (boundary s 0).map (fun b => (boundaryStop 0 b.1 b.2.1 b.2.2 false s).isNone) = some true ∧
      nextAnd (exec (.cseqJmp 0) s) (fun t => (cctx t 0 0).pc == 5)) ∧
    (let s := atSlot (0x0F <<< 120)
     (boundary s 0).map (fun b => (boundaryStop 0 b.1 b.2.1 b.2.2 false s).isNone) = some true ∧ cseqBusy s 0 0 = false ∧
      nextAnd (exec (.cseqEnd 0) s) (fun t => csState t 0 0 == 0 && csActive t 0 == none)) := by
  decide +kernel

/-- Cseq_Slots_Replay_And_Switch: an automatic replay, and a switch to the context that holds the array. -/
theorem test_cseq_replay_switch :
    (let p := phaseWith [slot (2 <<< 120)]
     let s := streams 1 { CseqCtx.fresh with slotCount := 8, phase := some { p with todo := [] }, replayDue := true }
     csRuns s 0 = some 0 ∧ (cctx s 0 0).replayDue = true ∧ cseqBusy s 0 0 = false ∧
      nextAnd (exec (.cseqReplay 0) s) (fun t => (cctx t 0 0).phase == some p && rf t (csReg 0 0 Reg.CSEQ_CTX_STATUS) 7 4 == 1)) ∧
    (let s := regSet activeReg 0x81 (csStateSet 0 1 5 (atSlot wait5))
     running s = some 1 ∧ csActive s 0 ≠ some 1 ∧ isOn s (pgCseq 0) = true ∧ csState s 0 1 = 5 ∧ csActive s 0 = some 0 ∧ canLeave s 0 0 = true ∧
      nextAnd (exec (.cseqSwitch 0) s) (fun t => csActive t 0 == some 1 && csState t 0 0 == 5 && csState t 0 1 == 1)) := by
  decide +kernel

/-! ### Engines -/

/-- The command at the head of cluster n's phase issues: EngineIssues as a test. -/
def readyFor (n eng : Nat) (isIt : Slot → Bool) (plan : EngArg → State → EngPlan) (s : State) : Bool :=
  match phaseHead s n with
  | none => false
  | some (c, k, p, q) =>
    let s1 := wavesAt n (eclkTo (p.cycle0 + fld q.word 119 104) s)
    let pl := plan ⟨n, c, q.word, q.ext.getD 0, q.ext.isSome, ctxSecure s1 c, none⟩ s1
    q.eng == eng && isIt q.word && k.nextError.isNone && csState s1 n c == 1 && pl.issue.isNone && (guardJudge s1 n eng pl.ranges == .enter) &&
      decide (tget (clu s1 n).engFree 0 eng ≤ s1.clk.eclk)

/-- So the hypothesis of Engine_Commands_Issue holds. -/
theorem engineIssues_of_readyFor (n eng : Nat) (isIt : Slot → Bool) (plan : EngArg → State → EngPlan) (s : State)
    (h : readyFor n eng isIt plan s = true) : ∃ c p q pl s1, EngineIssues n eng isIt plan c p q pl s s1 := by
  unfold readyFor at h
  split at h
  · exact absurd h (by decide)
  · rename_i c k p q hq
    simp only [Bool.and_eq_true, decide_eq_true_eq, beq_iff_eq, Option.isNone_iff_eq_none] at h
    obtain ⟨⟨⟨⟨⟨⟨h1, h2⟩, h3⟩, h0⟩, h4⟩, h5⟩, h6⟩ := h
    exact ⟨c, p, q, _, _, k, hq, h1, h2, h3, rfl, h0, rfl, h4, h5, h6⟩

/-- CMEM of cluster 0: FP32 1.0, 2.0, 4.0, 0.0 at 0x100, and G64 5 and -3 at 0x200; a zero index at 0x300. -/
def withData (s : State) : State :=
  cmemPutRaw 0 0x200 (leBytes 8 5 ++ leBytes 8 (2 ^ 64 - 3))
    (cmemPutRaw 0 0x100 (leBytes 4 0x3F800000 ++ leBytes 4 0x40000000 ++ leBytes 4 0x40800000 ++ leBytes 4 0) s)

/-- An engine command alone in its phase, with its extension if it has one: destination 0x400. -/
def engAt (eng func : Nat) (rest : Nat) (x : Option Nat) : State :=
  withData (inPhase [⟨1, BitVec.ofNat 128 (eng <<< 124 + func <<< 120 + rest), x.map (BitVec.ofNat 128), none⟩])

/-- Its outcome leaves these bytes at 0x400 of cluster 0. -/
def leaves (o : Host.Outcome State Fault Refusal) (d : List Byte) : Bool :=
  nextAnd o (fun t => cmemGetRaw t 0 0x400 d.length == d)

/-- Destination 0x400, source 0 and source 1, columns less one. -/
def body (src0 src1 cm1 : Nat) : Nat := 0x400 <<< 80 + src0 <<< 58 + src1 <<< 36 + cm1 <<< 20

/-- VEC: PARAM, EW ADD of 1.0 and 2.0, CVT to BF16 (format 8), WIDE_ADD of 5 and -3. -/
theorem test_vec_1 :
    (let s := engAt 1 0 (7 <<< 70) none
     readyFor 0 1 (funcIs 0) (audited none vecParamPlan) s ∧ nextAnd (exec (.vecParam 0 ⟨0, none⟩) s) (fun t => (latchOf (clu t 0).vecLatch 0).tensorId == 7)) ∧
    (let s := engAt 1 1 (body 0x100 0x104 0 + 0x0A <<< 10) none
     readyFor 0 1 (funcIs 1) (audited none ewPlan) s ∧ leaves (exec (.ew 0 ⟨0, none⟩) s) (leBytes 4 0x40400000)) ∧
    (let s := engAt 1 2 (body 0x104 0 0 + 0x0A <<< 15 + 9 <<< 10) none
     readyFor 0 1 (funcIs 2) (audited none (cvtPlan false)) s ∧ leaves (exec (.vecCvt 0 ⟨3, none⟩) s) (leBytes 2 0x4000)) ∧
    (let s := engAt 1 3 (body 0x200 0x208 0 + 0x0E <<< 15) none
     readyFor 0 1 (funcIs 3) (audited none wideAddPlan) s ∧ leaves (exec (.wideAdd 0 ⟨0, none⟩) s) (leBytes 8 2)) := by
  decide +kernel

/-- R393: the two runs of an EW of an audited context differ at element 0: the CSEQ halts with 0x09 and nothing is written. -/
theorem test_vec_audit_differs :
    (let s := rfSet (acReg 0 Reg.ACON_CTX_CTRL) 2 1 2 (engAt 1 1 (body 0x100 0x104 0 + 0x0A <<< 10) none)
     auditMode s 0 = 2 ∧ nextAnd (exec (.ew 0 ⟨0, some 0⟩) s) (fun t =>
      csState t 0 0 == 3 && rf t (csReg 0 0 Reg.CSEQ_CTX_HALT) 7 0 == 0x09 && t.cmem == s.cmem)) := by
  decide +kernel

/-- VEC: DOT_EXACT of a pair of BF16 ones, ACC_DRAIN of its set to G64, ACC_LOAD, KLOAD, and KRUN of one NOP. -/
theorem test_vec_2 :
    (let s := cmemPutRaw 0 0 (leBytes 2 0x3F80 ++ leBytes 6 0 ++ leBytes 2 0x4000)
        (engAt 1 4 (0 <<< 80 + 8 <<< 58 + 9 <<< 25 + 9 <<< 20 + 1 <<< 19) (some 0))
     readyFor 0 1 (funcIs 4) (audited none dotExactPlan) s ∧ nextAnd (exec (.dotExact 0 ⟨0, none⟩) s) (fun t => (tget (accSet t 0 0).accs accEmpty 0).value == 2)) ∧
    (let s := accSetPut 0 0 { AccSet.empty with accs := [(0, { accEmpty with value := 6 })], frameSet := true }
        (engAt 1 5 (0x400 <<< 80 + 0x440 <<< 58 + 0x0E <<< 47) none)
     readyFor 0 1 (funcIs 5) (audited none accDrainPlan) s ∧ leaves (exec (.accDrain 0 ⟨0, none⟩) s) (leBytes 8 6)) ∧
    (let s := engAt 1 6 (0x500 <<< 80 + 0x0E <<< 69 + 0x0E <<< 64) none
     readyFor 0 1 (funcIs 6) (audited none accLoadPlan) s ∧ nextAnd (exec (.accLoad 0 ⟨0, none⟩) s) (fun t => (accSet t 0 0).frameSet)) ∧
    (let s := engAt 1 7 (0x200 <<< 80) none
     readyFor 0 1 (funcIs 7) (audited none kloadPlan) s ∧ nextAnd (exec (.kload 0 ⟨0, none⟩) s) (fun t => tget (clu t 0).kstore 0 0 == 5)) ∧
    (let s := engAt 1 8 0 (some 0)
     readyFor 0 1 (funcIs 8) (audited none krunPlan) s ∧ nextAnd (exec (.krun 0 ⟨0, none⟩) s) (fun t => tget (clu t 0).engFree 0 1 != 0)) := by
  decide +kernel

/-- XPOSE: both commands on two 4-byte elements. -/
theorem test_xpose :
    (let s := engAt 2 0 (body 0x100 0 1 + 2 <<< 18) none
     readyFor 0 2 (funcIs 0) transposePlan s ∧ leaves (exec (.transpose 0 0) s) (leBytes 4 0x3F800000 ++ leBytes 4 0x40000000)) ∧
    (let s := engAt 2 1 (body 0x100 0 1 + 2 <<< 18) none
     readyFor 0 2 (funcIs 1) xposeCopyPlan s ∧ leaves (exec (.xposeCopy 0 0) s) (leBytes 4 0x3F800000 ++ leBytes 4 0x40000000)) := by
  decide +kernel

/-- REDU over 1.0, 2.0, 4.0, 0.0: the sum 7.0, the largest and the smallest and their places, and Σ exp(x − 0) of one 0.0. -/
theorem test_redu :
    (let s := engAt 3 0 (0x400 <<< 80 + 0x100 <<< 58 + 3 <<< 20 + 0x0A <<< 12 + 0x0A <<< 7) none
     readyFor 0 3 (fun w => fld w 19 17 == 0) (reduPlan 0) s ∧ leaves (exec (.sum 0 0) s) (leBytes 4 0x40E00000)) ∧
    (let s := engAt 3 0 (0x400 <<< 80 + 0x100 <<< 58 + 3 <<< 20 + 1 <<< 17 + 0x0A <<< 12 + 0x0A <<< 7) none
     readyFor 0 3 (fun w => fld w 19 17 == 1) (reduPlan 1) s ∧ leaves (exec (.max 0 0) s) (leBytes 4 0x40800000)) ∧
    (let s := engAt 3 0 (0x400 <<< 80 + 0x100 <<< 58 + 3 <<< 20 + 2 <<< 17 + 0x0A <<< 12 + 0x0A <<< 7) none
     readyFor 0 3 (fun w => fld w 19 17 == 2) (reduPlan 2) s ∧ leaves (exec (.min 0 0) s) (leBytes 4 0)) ∧
    (let s := engAt 3 0 (0x400 <<< 80 + 0x100 <<< 58 + 3 <<< 20 + 3 <<< 17 + 0x0A <<< 12 + 0x0C <<< 7) none
     readyFor 0 3 (fun w => fld w 19 17 == 3) (reduPlan 3) s ∧ leaves (exec (.argmax 0 0) s) (leBytes 4 2)) ∧
    (let s := engAt 3 0 (0x400 <<< 80 + 0x100 <<< 58 + 3 <<< 20 + 4 <<< 17 + 0x0A <<< 12 + 0x0C <<< 7) none
     readyFor 0 3 (fun w => fld w 19 17 == 4) (reduPlan 4) s ∧ leaves (exec (.argmin 0 0) s) (leBytes 4 3)) ∧
    (let s := engAt 3 0 (0x400 <<< 80 + 0x10C <<< 58 + 0x300 <<< 36 + 5 <<< 17 + 0x0A <<< 12 + 0x0A <<< 7) none
     readyFor 0 3 (fun w => fld w 19 17 == 5) (reduPlan 5) s ∧ leaves (exec (.sumexp 0 0) s) (leBytes 4 0x3F800000)) := by
  decide +kernel

/-- CONV: PARAM, CVT to BF16 and STAT_POST. -/
theorem test_conv :
    (let s := engAt 4 0 (7 <<< 70) none
     readyFor 0 4 (funcIs 0) convParamPlan s ∧ nextAnd (exec (.convParam 0 0) s) (fun t => (latchOf (clu t 0).convLatch 0).tensorId == 7)) ∧
    (let s := engAt 4 1 (body 0x104 0 0 + 0x0A <<< 15 + 9 <<< 10) none
     readyFor 0 4 (funcIs 1) (cvtPlan true) s ∧ leaves (exec (.convCvt 0 0) s) (leBytes 2 0x4000)) ∧
    (let s := engAt 4 4 (0x600 <<< 80 + 77 <<< 66) none
     readyFor 0 4 (funcIs 4) statPostPlan s ∧ nextAnd (exec (.statPost 0 0) s) (fun t => t.statq.map (·.entry) == [77])) := by
  decide +kernel

/-- WENC of the G64 pair 5 and -3, and WDEC of what it wrote: the length word at 0x800. -/
theorem test_wire :
    (let s := engAt 4 2 (0x400 <<< 80 + 0x200 <<< 58 + 0x800 <<< 36 + 1 <<< 20 + 0x0E <<< 15) none
     readyFor 0 4 (funcIs 2) wencPlan s ∧ nextAnd (exec (.wenc 0 0) s) (fun t =>
       let k := leNat (cmemGetRaw t 0 0x800 4)
       let u := cmemPutRaw 0 0x800 (leBytes 4 k) (cmemPutRaw 0 0x900 (cmemGetRaw t 0 0x400 k)
         (engAt 4 3 (0x400 <<< 80 + 0x900 <<< 58 + 0x800 <<< 36 + 1 <<< 20 + 0x0E <<< 15) none))
       readyFor 0 4 (funcIs 3) wdecPlan u && leaves (exec (.wdec 0 0) u) (leBytes 8 5 ++ leBytes 8 (2 ^ 64 - 3)))) := by
  decide +kernel

/-- An SFUN command on the FP32 at `src`. -/
def sfunAt (func src : Nat) : State := engAt 5 func (body src 0 0 + 0x0A <<< 15 + 0x0A <<< 10) none

/-- SFUN where the result is exact: exp 0, exp2 1, log 1, log2 2, tanh 0, sigmoid 0. -/
theorem test_sfun_1 :
    (readyFor 0 5 (funcIs 0) (sfunPlan 0) (sfunAt 0 0x10C) ∧ leaves (exec (.exp 0 0) (sfunAt 0 0x10C)) (leBytes 4 0x3F800000)) ∧
    (readyFor 0 5 (funcIs 1) (sfunPlan 1) (sfunAt 1 0x100) ∧ leaves (exec (.exp2 0 0) (sfunAt 1 0x100)) (leBytes 4 0x40000000)) ∧
    (readyFor 0 5 (funcIs 2) (sfunPlan 2) (sfunAt 2 0x100) ∧ leaves (exec (.log 0 0) (sfunAt 2 0x100)) (leBytes 4 0)) ∧
    (readyFor 0 5 (funcIs 3) (sfunPlan 3) (sfunAt 3 0x104) ∧ leaves (exec (.log2 0 0) (sfunAt 3 0x104)) (leBytes 4 0x3F800000)) ∧
    (readyFor 0 5 (funcIs 4) (sfunPlan 4) (sfunAt 4 0x10C) ∧ leaves (exec (.tanh 0 0) (sfunAt 4 0x10C)) (leBytes 4 0)) ∧
    (readyFor 0 5 (funcIs 5) (sfunPlan 5) (sfunAt 5 0x10C) ∧ leaves (exec (.sigmoid 0 0) (sfunAt 5 0x10C)) (leBytes 4 0x3F000000)) := by
  decide +kernel

/-- SFUN where the result is exact: gelu 0, sin 0, cos 0, 1/2, the square root of 4 and its reciprocal. -/
theorem test_sfun_2 :
    (readyFor 0 5 (funcIs 6) (sfunPlan 6) (sfunAt 6 0x10C) ∧ leaves (exec (.gelu 0 0) (sfunAt 6 0x10C)) (leBytes 4 0)) ∧
    (readyFor 0 5 (funcIs 7) (sfunPlan 7) (sfunAt 7 0x10C) ∧ leaves (exec (.sin 0 0) (sfunAt 7 0x10C)) (leBytes 4 0)) ∧
    (readyFor 0 5 (funcIs 8) (sfunPlan 8) (sfunAt 8 0x10C) ∧ leaves (exec (.cos 0 0) (sfunAt 8 0x10C)) (leBytes 4 0x3F800000)) ∧
    (readyFor 0 5 (funcIs 9) (sfunPlan 9) (sfunAt 9 0x104) ∧ leaves (exec (.rcp 0 0) (sfunAt 9 0x104)) (leBytes 4 0x3F000000)) ∧
    (readyFor 0 5 (funcIs 10) (sfunPlan 10) (sfunAt 10 0x108) ∧ leaves (exec (.sqrt 0 0) (sfunAt 10 0x108)) (leBytes 4 0x40000000)) ∧
    (readyFor 0 5 (funcIs 11) (sfunPlan 11) (sfunAt 11 0x108) ∧ leaves (exec (.rsqrt 0 0) (sfunAt 11 0x108)) (leBytes 4 0x3F000000)) := by
  decide +kernel

/-- A GATH command: rows at 0x400, the index at 0x300, the table at 0x100, one row of 8 bytes in a table of 2 rows. -/
def gathAt (func table tableVa : Nat) : State :=
  engAt 6 func (0x400 <<< 80 + 0x300 <<< 58 + table <<< 36 + 7 <<< 8) (some (tableVa <<< 80 + 2 <<< 48 + 16 <<< 26 + 8 <<< 4))

/-- GATH: each of the five commands moves or adds the row that index 0 names. -/
theorem test_gath :
    (readyFor 0 6 (funcIs 0) (gathCPlan (fun a k => gatherRow a k false) true false) (gathAt 0 0x100 0) ∧
      leaves (exec (.gatherC 0 0) (gathAt 0 0x100 0)) (leBytes 4 0x3F800000 ++ leBytes 4 0x40000000)) ∧
    (readyFor 0 6 (funcIs 1) (gathMPlan (fun a k => gatherRow a k true) true false) (gathAt 1 0 0x40000) ∧
      leaves (exec (.gatherM 0 0) (withMem 0x40000 [1, 2, 3] (gathAt 1 0 0x40000))) [1, 2, 3, 0]) ∧
    (readyFor 0 6 (funcIs 2) (gathCPlan (fun a k => scatterRow a k false false) false false) (gathAt 2 0x500 0) ∧
      nextAnd (exec (.scatterC 0 0) (cmemPutRaw 0 0x400 [9] (gathAt 2 0x500 0))) (fun t => cmemGetRaw t 0 0x500 2 == [9, 0])) ∧
    (readyFor 0 6 (funcIs 3) (gathCPlan (fun a k => scatterRow a k false true) false true) (gathAt 3 0x500 0) ∧
      nextAnd (exec (.scatterAddC 0 0) (cmemPutRaw 0 0x400 [9] (gathAt 3 0x500 0))) (fun t => cmemGetRaw t 0 0x500 2 == [9, 0])) ∧
    (readyFor 0 6 (funcIs 4) (gathMPlan (fun a k => scatterRow a k true true) false true) (gathAt 4 0 0x40000) ∧
      nextAnd (exec (.scatterAddM 0 0) (cmemPutRaw 0 0x400 [9] (gathAt 4 0 0x40000))) (fun t => memGetBytes t.mem 0x40000 2 == [9, 0])) := by
  decide +kernel

/-- GATH_M_DONE of a command that did its work, and of one that failed. -/
theorem test_gath_done :
    (let s := cluMod 0 (fun k => { k with gath := [⟨0, 5, 0, none, none⟩] }) (inPhase [])
     (clu s 0).gath[0]? = some ⟨0, 5, 0, none, none⟩ ∧
      nextAnd (exec (.gathMDone 0 0) s) (fun t => t.flying == [⟨0, 0, 0, 5, 1, masterId 1 0, 0, [], []⟩])) ∧
    (let s := cluMod 0 (fun k => { k with gath := [⟨0, 5, 0, some (8, 1, 2), none⟩] }) (inPhase [])
     (clu s 0).gath[0]? = some ⟨0, 5, 0, some (8, 1, 2), none⟩ ∧
      nextAnd (exec (.gathMDone 0 0) s) (fun t => t.flying == [] && (cctx t 0 0).nextError.map (·.1) == some 8)) := by
  decide +kernel

/-- The Exact Wire block of one integer 5 on frame 0 is decoded as it was written. -/
theorem test_exact_wire :
    okAnd (wireDecode false 0 0 0 1 (wireBlock false 0 [wireElem false 5]).length true (wireBlock false 0 [wireElem false 5]))
      (fun r => r == ([wireElem false 5], (wireBlock false 0 [wireElem false 5]).length)) = true := by
  decide +kernel

end Sys2Proof.Tests
end

