-- ==== Sys2Proof/Tests/Examples.lean ====
section
/-! SUPPORT. The spec's own worked examples, section by section: each expected number is printed in the section that the theorem
names. -/

namespace Sys2Proof.Tests

set_option Elab.async false

open Sys2Proof Sys2Proof.Machine

/-- 02 register pages: the ATP page of port 12. -/
theorem test_example_page : (pgAtp 12).base = 0x0201000CC000 ∧ pageAt 0x0201000CC000 = some (pgAtp 12) := by decide +kernel

/-- 03 number formats: Pepper's three examples (R72). -/
theorem test_example_pepper : pepper 0 0 0 0 = 0x88ED98 ∧ pepper 0 0 1 0 = 0x30A476 ∧
    pepper 0x0123456789ABCDEF 0x2A 0x0100000003 7 = 0x88EC80 := by decide +kernel

/-- 03 number formats: stochastic rounding of two elements to BF16 gives 0x3F81 twice. -/
theorem test_example_sr :
    (roundFmt 9 0 ⟨5, false, pepper 0 0 0 0⟩ (decodeFmt 0x0A 0 0x3F809000)).1 = 0x3F81 ∧
    (roundFmt 9 0 ⟨5, false, pepper 0 0 1 0⟩ (decodeFmt 0x0A 0 0x3F808000)).1 = 0x3F81 := by decide +kernel

/-- The sum of the products of two rows of codes of one format. -/
def dot (fmt n : Nat) (f : Int) (a b : List Nat) : Acc :=
  accPairs n f 0 ((a.map (decodeFmt fmt 0)).zip (b.map (decodeFmt fmt 0))) accEmpty

/-- 04 long accumulator: four Saffron products, and the FP16 cancellation. -/
theorem test_example_sums :
    (let s := dot 1 1 (-18) [0x40, 0x33, 0xB8, 0x01] [0x38, 0x44, 0x3C, 0x01]
     s.value = 671745 ∧ (drainElem 0x0A 0 (-18) ⟨0, false, 0⟩ s).code = 0x40240010 ∧
     (drainElem 9 0 (-18) ⟨0, false, 0⟩ s).code = 0x4024) := by decide +kernel

/-- 04 long accumulator: an FP32 product in limb mode, rounded to nearest and toward zero. -/
theorem test_example_limbs :
    (let s := dot 0x0A 3 (-60) [0x3F800001] [0x40400000]
     s.value = 0x3000006000000000 ∧ (drainElem 0x0A 0 (-60) ⟨0, false, 0⟩ s).code = 0x40400002 ∧
     (drainElem 0x0A 0 (-60) ⟨1, false, 0⟩ s).code = 0x40400001) := by decide +kernel

/-- 07 cluster memory: line and bank of the tile at 0x1_0400. -/
theorem test_example_banks : cmemLine (0x10400 / 8) = 260 ∧
    (List.range 8).map (fun r => cmemBank ((0x10400 + 32 * r + 8) / 8)) = [5, 9, 13, 17, 21, 25, 29, 1] ∧
    cmemBank ((0x10400 + 32 * 8 + 8) / 8) = 6 := by decide +kernel

/-- 08 cluster engines: the Exact Wire block of 16 G64 integers. -/
theorem test_example_wire_block :
    wireBlock false (-40) (([0x12340, -248, 16, 0x7FF8] ++ List.replicate 12 0).map (fun v => { accEmpty with value := v })) =
      [0xDB, 0x2F, 0x78, 0x00, 0x68, 0x24, 0xE1, 0xFF, 0x02, 0x00, 0xFF, 0x0F] ++ List.replicate 24 0 := by decide +kernel

/-- 10 main memory: one address before and after the retirement of group 9. -/
theorem test_example_retirement :
    wayOf 0x12345678 = 41 ∧ 0x12345678 / 64 = 4772185 ∧ groupOf State.reset 0x001234567800 = 9 ∧
    (let w := (pgMemc 0).base + Reg.MEMC_WAYMAP
     let m := (pgMemc 0).base + Reg.MEMC_MAP_STATE
     let s := rfSet m 3 0 1 (rfSet (w + 40) 15 15 1 (rfSet (w + 8) 15 15 1 State.reset))
     spillIndex s 41 4772185 = 53530969 ∧ spillPlace s 53530969 = (15, 1, 49622186) ∧ groupOf s 0x001234567800 = 15 ∧
      (chunkPlace s 0x001234567800 0).2.2 = 0xBEA59540) ∧
    (List.range 9).map (fun c => (chunkPlace State.reset 0x001234567800 c).1) = [9, 11, 13, 15, 17, 1, 3, 5, 7] ∧
    (chunkPlace State.reset 0x001234567800 0).2.2 = 0x691A2B20 := by
  decide +kernel

/-- 12 Atwin fabric: the header of a credit on class 2. -/
theorem test_example_credit_header :
    pktHeader { dst := 0x019, src := 2, cls := 2, vc := 0, hops := 2, world := false, gen := 0, tag := 0, op := 0x1F, len := 4,
                portal := 0, arg := 7, epoch := 0x40, payload := [] } = 0x0190028200001F010000000700000040 := by decide +kernel

/-- 17 power: the grant period under a tight budget. -/
theorem test_example_grants :
    (let g := computeGrants 1950 [1400, 40, 960, 160, 4400, 1200, 40] 960 160
     g.a = 92 ∧ g.e = 102 ∧ g.patrol = 0 ∧ g.fabric = 960 ∧ g.host = 160 ∧ arrDraw 4400 g.a = 0x1079 ∧
      engDraw 1200 g.e = 0x03FC) := by decide +kernel

/-- 15 health: INFO0 of the worn core. -/
theorem test_example_worn_core : checkInfo0 527 1 358 = 0x020F1166 := by decide +kernel

/-- Entry 2,626 of the Scale Keeper's example. -/
def skExample : SkEntry :=
  { skReset with hist := [9, 11, 10] ++ List.replicate 13 (-32768), headroom := 2, hrMin := 1, clean := 5, action := true, jobWide := true,
                 ctx := 1, fmt := 1, cold := false, wAmax := 15, wCounts := [0, 0, 37, 37, 0, 0, 0, 0], wElements := 1000 }

/-- 09 training numerics: the scale before step E, the correction, and the fold after the replay. -/
theorem test_example_scale :
    (skRecompute skExample).scaleExp = 6 ∧
    (let s := correctEntry 2626 { State.reset with skeep := tput [] 2626 (skRecompute skExample) }
     (sk s 2626).headroom = 4 ∧ (sk s 2626).scaleExp = 8 ∧ (sk s 2626).wCorr = 1 ∧
     (let t := foldEntry 2626 (skMod 2626 (fun e => { e with wCounts := zeroCounts, wAmax := 15 }) s)
      (sk t 2626).hist.take 4 = [15, 9, 11, 10] ∧ (sk t 2626).scaleExp = 12 ∧ (sk t 2626).clean = 6 ∧ (sk t 2626).sats = 0)) := by
  decide +kernel

end Sys2Proof.Tests
end

