-- ==== Sys2Proof/Tests/Fabric.lean ====
section
/-! SUPPORT. Tests of the Atwin fabric: a witness for each statement of Obligations.lean about it. -/

namespace Sys2Proof.Tests

set_option Elab.async false

open Sys2Proof Sys2Proof.Machine

/-- Both routers, port 15, XSEQ and the tables of `mapped`, ON; the link of port 15 is in state `lk`. -/
def linked (lk : Nat) : State :=
  linkSet 15 lk (rfSet ((pgAtp 15).base + Hdr.CTRL) 0 0 1 (onPages [pgAtp 15, pgFrt 0, pgFrt 1] mapped))

/-- Lane 4 of port 15 serves as the spare, so lanes 0 to 3 carry data. -/
def laneTest (f : Port → Port) (lk : Nat) : State :=
  portMod 15 f (rfSet (atpReg 15 Reg.ATP_LANES_RX) 14 12 4 (rfSet (atpReg 15 Reg.ATP_LANES_TX) 14 12 4 (linked lk)))

/-- A control unit that arrives whole. -/
def good : CtrlUnit := ⟨true, true⟩

/-- Lane_Swap: a failed lane is latched, or starts a swap; the transmitter trains the spare and names the codeword. -/
theorem test_lane_failed :
    (let s := laneTest (fun x => { x with swapLane := some 1 }) lkSwap
     (port s 15).swapLane.isSome = true ∧ nextAnd (exec (.laneFailed 15 ⟨2, 0, true⟩) s) (fun t => (port t 15).latched == [2])) ∧
    (let s := laneTest id lkUp
     (port s 15).swapLane = none ∧ linkUp s 15 = true ∧ rf s (atpReg 15 Reg.ATP_LANES_RX) 17 17 = 0 ∧
      nextAnd (exec (.laneFailed 15 ⟨2, 0, true⟩) s) (fun t => link t 15 == lkSwap && (port t 15).swapLane == some 2)) ∧
    (let s := laneTest id lkUp
     nextAnd (exec (.laneSwap 15 ⟨2, good⟩) s) (fun t => link t 15 == lkSwap && (port t 15).txSwap == some 2) = true) ∧
    (let s := laneTest (fun x => { x with txSwap := some 2 }) lkSwap
     (port s 15).txSwap.isSome = true ∧ nextAnd (exec (.swapAt 15 ⟨99, good⟩) s) (fun t => (port t 15).swapCw == some 99)) := by
  decide +kernel

/-- Lane_Swap: the receiver's and the transmitter's end of a swap. -/
theorem test_lane_switch :
    (let s := laneTest (fun x => { x with swapLane := some 2 }) lkSwap
     link s 15 = lkSwap ∧ (port s 15).latched = [] ∧ (port s 15).txSwap = none ∧
      nextAnd (exec (.laneSwitch 15) s) (fun t => link t 15 == lkUp && (port t 15).swapLane == none)) ∧
    (let s := laneTest (fun x => { x with txSwap := some 2, swapCw := some 99 }) lkSwap
     link s 15 = lkSwap ∧ (port s 15).latched = [] ∧ (port s 15).swapLane = none ∧ (port s 15).swapCw.isSome = true ∧
      nextAnd (exec (.laneSwitch 15) s) (fun t => link t 15 == lkUp && (port t 15).txSwap == none)) := by
  decide +kernel

/-- A packet of class `cls` and operation `op` from device 2 to device `dst`. -/
def packet (cls op : Nat) (dst : BitVec 12) (payload : List Byte) : Packet :=
  { dst := dst, src := 2, cls := BitVec.ofNat 2 cls, vc := 0, hops := 1, world := false, gen := 0, tag := 0, op := BitVec.ofNat 5 op
    len := BitVec.ofNat 10 payload.length, portal := 0, arg := 0, epoch := 0, payload := payload }

/-- A PING on its way out, sent under a SEQ. -/
def txPing (seq : BitVec 16) : TxPacket := ⟨packet 0 3 7 [], seq, none, 0, 0⟩

/-- Links: acknowledgements, resends below and at 8, credits and the key switch. -/
theorem test_link_layer :
    (let s := portMod 15 (fun x => { x with retry := [txPing 65535, { txPing 0 with tries := 7 }] }) (linked lkUp)
     linkUp s 15 = true ∧ 0 < ((0 : BitVec 16) - 65535).toNat ∧ ((0 : BitVec 16) - 65535).toNat ≤ 2 ∧
      nextAnd (exec (.ack 15 ⟨0, good⟩) s) (fun t => (port t 15).retry.map (·.seq) == [0]) ∧
      (port s 15).retry.dropWhile (fun t => t.seq != 0) = [{ txPing 0 with tries := 7 }] ∧
      nextAnd (exec (.nak 15 ⟨0, good⟩) s) (fun t => (port t 15).resend.map (·.seq) == [0]) ∧
      nextAnd (exec (.retryTimeout 15) s) (fun t => (port t 15).resend.map (·.seq) == [65535, 0])) ∧
    (let s := portMod 15 (fun x => { x with retry := [{ txPing 0 with tries := 8 }] }) (linked lkUp)
     nextAnd (exec (.nak 15 ⟨0, good⟩) s) (fun t => link t 15 == lkRetrain) ∧
      nextAnd (exec (.retryTimeout 15) s) (fun t => link t 15 == lkRetrain)) ∧
    nextAnd (exec (.credit 15 .fwd1 ⟨65535, good⟩) (linked lkUp)) (fun t => tget (port t 15).creditGot 0 (bufIdx .fwd1) == 65535) ∧
    nextAnd (exec (.keySwitch 15 ⟨3, good⟩) (linked lkUp)) (fun t => (port t 15).rxSwitch == some 3) ∧
    nextAnd (exec (.controlResend 15) (linked lkUp)) (fun t => t.sent.length == 6) := by
  decide +kernel

/-- Links: a port with a latched lane failure goes on into the swap; one whose lanes are counted below COUNT stays; a control
unit that fails its CRC is counted; on an encrypted link it fails its tag, and a resend takes counters. -/
theorem test_link_failures :
    (let s := laneTest (fun x => { x with latched := [1] }) lkRetrain
     link s 15 = lkRetrain ∧ (port s 15).latched = [1] ∧ (port s 15).swapLane = none ∧ (port s 15).txSwap = none ∧
      swapStarts (regGet s (atpReg 15 Reg.ATP_LANES_RX)).toNat 1 ∧
      nextAnd (exec (.retrainEnd 15 true) s) (fun t => link t 15 == lkSwap && (port t 15).swapLane == some 1)) ∧
    (let s := rfSet (atpReg 15 Reg.ATP_LANE_THRESH) 15 0 9 (laneTest id lkUp)
     laneFailsBy s 15 2 8 false = false ∧ laneFailsBy s 15 2 9 false = true ∧
      nextAnd (exec (.laneFailed 15 ⟨2, 8, false⟩) s) (fun t => link t 15 == lkUp &&
        rf t (atpReg 15 (Reg.ATP_LANE_ERR + 8)) 31 0 == 8)) ∧
    nextAnd (exec (.ack 15 ⟨0, ⟨false, true⟩⟩) (linked lkUp)) (fun t => rf t (atpReg 15 Reg.ATP_CRC_ERR) 31 0 == 1) ∧
    (let s := rfSet (atpReg 15 Reg.ATP_STATUS) 4 4 1 (portMod 15 (fun x => { x with keyActive := some ⟨5, 6, 0⟩ }) (linked lkUp))
     encrypted s 15 = true ∧
      nextAnd (exec (.ack 15 ⟨0, ⟨true, false⟩⟩) s) (fun t => rf t (atpReg 15 Reg.ATP_AUTH_FAIL) 31 0 == 1) ∧
      nextAnd (exec (.controlResend 15) s) (fun t => (port t 15).keyActive == some ⟨5, 6, 6⟩)) := by
  unfold swapStarts; decide +kernel

/-- Links: the link's states. -/
theorem test_link_states :
    (nextAnd (exec (.retrainEnd 15 true) (linked lkRetrain)) (fun t => link t 15 == lkUp) ∧
      link (linked lkRetrain) 15 = lkRetrain ∧ (port (linked lkRetrain) 15).latched = [] ∧
      nextAnd (exec (.retrainEnd 15 false) (linked lkRetrain)) (fun t => link t 15 == lkRetrain &&
        nextAnd (exec (.retrainEnd 15 false) t) (fun u => link u 15 == lkDown))) ∧
    (link (linked lkUp) 15 ≠ lkDown ∧ nextAnd (exec (.lossOfSignal 15) (linked lkUp)) (fun t => link t 15 == lkDown)) ∧
    (mayTrain (linked lkDown) 15 = true ∧ link (linked lkDown) 15 = lkDown ∧
      nextAnd (exec (.trainingRetry 15) (linked lkDown)) (fun t => link t 15 == lkTraining)) ∧
    (link (linked lkTraining) 15 = lkTraining ∧ rf (linked lkTraining) (atpReg 15 Reg.ATP_CONFIG) 7 7 ≠ 1 ∧
      nextAnd (exec (.portUp 15 9 8 false) (linked lkTraining)) (fun t =>
        link t 15 == lkUp && rf t (atpReg 15 Reg.ATP_STATUS) 31 20 == 9 && rf t (atpReg 15 Reg.ATP_STATUS) 19 16 == 8) ∧
      nextAnd (exec (.portUp 15 9 8 true) (linked lkTraining)) (fun t => link t 15 == lkDown)) ∧
    (let s := rfSet (atpReg 15 Reg.ATP_CONFIG) 7 7 1 (portMod 15 (fun x => { x with keyActive := some ⟨5, 6, 0⟩ }) (linked lkTraining))
     rf s (atpReg 15 Reg.ATP_CONFIG) 7 7 = 1 ∧ (port s 15).keyActive.isSome = true ∧
      nextAnd (exec (.portUp 15 9 8 true) s) (fun t => link t 15 == lkUp && encrypted t 15)) := by
  decide +kernel

/-- Throttle_Residence_And_Tags: a full egress queue halves the rate, an empty one raises it; packets that waited too long. -/
theorem test_throttle_residence :
    (let g := (pgFrt 1).base + Reg.FRT_THROTTLE
     let s := rfSet (atpReg 15 Reg.ATP_THROTTLE) 22 16 32 (rfSet g 15 8 3 (rfSet g 7 0 1 (rfSet g 23 16 0 (linked lkUp))))
     nextAnd (exec (.throttleUpdate 15) s) (fun t => rf t (atpReg 15 Reg.ATP_THROTTLE) 22 16 == 35) ∧
      nextAnd (exec (.throttleUpdate 15) (portMod 15 (fun x => { x with egPeak := 1 }) s)) (fun t =>
        rf t (atpReg 15 Reg.ATP_THROTTLE) 22 16 == 16)) ∧
    (let h : RxPacket := ⟨.rsp, packet 1 2 511 [], false, false⟩
     let s := portMod 15 (fun x => { x with rx := [h] }) (linked lkUp)
     rxHead s 15 .rsp = some h ∧ nextAnd (exec (.residenceExpiry 15 (.buffer .rsp)) s) (fun t => (port t 15).rx == [])) ∧
    (let s := portMod 15 (fun x => { x with egress := [txPing 0], retry := [txPing 1] }) (linked lkUp)
     (∀ q, q < 16 → (port s q).rx = []) ∧
      nextAnd (exec (.residenceExpiry 15 .egress) s) (fun t => (port t 15).egress == []) ∧
      nextAnd (exec (.residenceExpiry 15 .retry) s) (fun t => (port t 15).retry == [])) := by
  decide +kernel

/-- Throttle_Residence_And_Tags: the RSP of a REQ that has been served waits too long. -/
theorem test_residence_served :
    (let h : RxPacket := ⟨.req, packet 0 3 511 [], false, true⟩
     let k : TxPacket := ⟨packet 1 3 2 [], 0, none, 0, 0⟩
     let s := portMod 15 (fun x => { x with rx := [h], egress := [k] }) (linked lkUp)
     answers k.pkt h = true ∧ nextAnd (exec (.residenceExpiry 15 (.buffer .req)) s) (fun t => (port t 15).egress == [] &&
        (port t 15).rx == [])) := by
  decide +kernel

/-- Every port of that state but 15 is as after reset, so no receive buffer holds anything. -/
theorem test_no_packet_waits : ∀ q,
    (port (portMod 15 (fun x => { x with egress := [txPing 0] }) (linked lkUp)) q).rx = [] := by
  intro q
  have h : (portMod 15 (fun x => { x with egress := [txPing 0] }) (linked lkUp)).ports =
      [(15, { Port.fresh with egress := [txPing 0] })] := by decide +kernel
  simp only [port, h, tget, tget?]
  repeat' split
  all_goals rfl

/-- Throttle_Residence_And_Tags: a tag that times out, its quarantine, and the four responses. -/
theorem test_tags :
    (let s := rfSet ((pgFrt 1).base + Reg.FRT_CONFIG) 31 16 9 (tagSet 16383 ⟨.outstanding, 5⟩ (linked lkUp))
     (tagOf s 16383).state = .outstanding ∧ rf s ((pgFrt (16383 / 8192)).base + Reg.FRT_CONFIG) 31 16 ≠ 0 ∧
      nextAnd (exec (.tagTimeout 16383) s) (fun t => tagOf t 16383 == ⟨.quarantine, 5⟩ && t.sent == [.requestDone 16383 0x21 []] &&
        nextAnd (exec (.quarantineExpiry 16383) t) (fun u => tagOf u 16383 == ⟨.free, 5⟩))) ∧
    (let s (op : Nat) := portMod 15 (fun x => { x with rx := [⟨.rsp, packet 1 op 511 [8], false, false⟩] })
        (tagSet 0 ⟨.outstanding, 0⟩ (linked lkUp))
     (rxHead (s 1) 15 .rsp = some ⟨.rsp, packet 1 1 511 [8], false, false⟩ ∧ (tagOf (s 1) 0) = ⟨.outstanding, 0⟩) ∧
      nextAnd (exec (.rdData 15) (s 1)) (fun t => t.sent == [.requestDone 0 0 [8]] && (tagOf t 0).state == .free) ∧
      nextAnd (exec (.wrAck 15) (s 2)) (fun t => t.sent == [.requestDone 0 0 [8]]) ∧
      nextAnd (exec (.pong 15) (s 3)) (fun t => t.sent == [.requestDone 0 0 [8]]) ∧
      nextAnd (exec (.nack 15) (s 4)) (fun t => t.sent == [.requestDone 0 0 [8]])) := by
  decide +kernel

/-- Packets_Arrive_And_Leave: a PONG for this device arrives; a unit that fails its FEC; a resend and a first send. -/
theorem test_packets :
    (let s := linked lkUp
     let k := packet 1 3 511 []
     linkUp s 15 = true ∧ (encrypted s 15 && (port s 15).erased) = false ∧ (port s 15).expSeq = 0 ∧ lenBad k = false ∧
      k.dst.toNat = devId s ∧ fenced s k.src.toNat = false ∧ opKnown k.cls.toNat k.op.toNat = true ∧
      nextAnd (exec (.packetReceive 15 ⟨0, trailerCrc (pktWire k) 0, true, 0, [], true⟩ k) s) (fun t => (port t 15).rx == [⟨.rsp, k, false, false⟩]) ∧
      nextAnd (exec (.packetReceive 15 ⟨0, trailerCrc (pktWire k) 1, true, 0, [], true⟩ k) s) (fun t => (port t 15).rx == [] && (port t 15).nakSent)) ∧
    (let s := portMod 15 (fun x => { x with resend := [txPing 4] }) (linked lkUp)
     nextAnd (exec (.packetTransmit 15) s) (fun t => (port t 15).resend == [] && t.sent == [.packet 15 4 (txPing 4).pkt none (trailerCrc (pktWire (txPing 4).pkt) 4)]) = true) ∧
    (let s := portMod 15 (fun x => { x with egress := [txPing 0], creditGot := tput [] (bufIdx (peerBuf (linked lkUp) 15 (txPing 0).pkt)) 9 }) (linked lkUp)
     (port s 15).resend = [] ∧ arbitrate s 15 = some (txPing 0) ∧ retryBytes (port s 15) + pktBytes (txPing 0).pkt + 8 ≤ 131072 ∧
      nextAnd (exec (.packetTransmit 15) s) (fun t => (port t 15).nextSeq == 1 && (port t 15).retry == [txPing 0])) := by
  decide +kernel

/-- Fabric_Registers: a route and a fence through each instance, a key switch and the last word of a standby key. -/
theorem test_fabric_registers :
    (let s := linked lkUp
     LetIn .mgc (pgFrt 0) Reg.FRT_ROUTE s ∧ LetIn .mgc (pgFrt 1) Reg.FRT_ROUTE s ∧ atwinPorts s.fuses.grade = 16 ∧
      nextAnd (exec (.routeWrite .mgc 0 0x8020FFFF) s) (fun t => routeOf t 0 == 0x8020FFFF) ∧
      nextIs (exec (.routeWrite .mgc 1 0x8020FFFF) s) s) ∧
    (let s := linked lkUp
     LetIn .mgc (pgFrt 0) (Reg.FRT_FENCE + 4 * 127) s ∧ LetIn .mgc (pgFrt 1) (Reg.FRT_FENCE + 4 * 127) s ∧
      nextAnd (exec (.fenceWrite .mgc 0 127 0x80000000) s) (fun t => fenced t 4095) ∧
      nextIs (exec (.fenceWrite .mgc 1 127 0x80000000) s) s) ∧
    (let s := portMod 15 (fun x => { x with keyStandby := some ⟨5, 6, 0⟩ }) (linked lkUp)
     LetIn .mgc (pgAtp 15) Reg.ATP_KEY_CTRL s ∧ Master.secure .mgc = true ∧ (port s 15).switchSeq = none ∧
      nextAnd (exec (.switch .mgc 15) s) (fun t => (port t 15).keyActive.map (·.key) == some 5 && (port t 15).keyStandby == none)) ∧
    (LetIn .mgc (pgAtp 15) (Reg.ATP_KEY_STANDBY + 24) (linked lkUp) ∧
      nextAnd (exec (.keyStandbyWrite .mgc 15 1) (linked lkUp)) (fun t => (port t 15).keyStandby == some ⟨1 <<< 192, 0, 0⟩)) := by
  unfold LetIn; decide +kernel

/-- Fabric_Requests: RD, WR and PING through an open portal and through a closed one. -/
theorem test_serve_requests :
    (let s (op : Nat) (d : List Byte) := portMod 15 (fun x => { x with rx := [⟨.req, packet 0 op 511 d, false, false⟩] })
        (rfSet ((pgFrt 0).base + Reg.FRT_PORTAL) 4 4 1 (withMem 0x50000 [7] (linked lkUp)))
     (rxHead (s 3 []) 15 .req).isSome = true ∧ okAnd (portalVia (rxTake 15 .req (s 3 [])) (packet 0 3 511 [])) (fun v => v.ctx == 0) ∧
      xlatOn (s 3 []) = true ∧
      okAnd (virtRead ⟨0, .fabric, false, false⟩ 0x50000 1 (rxTake 15 .req (s 1 (leBytes 8 0x50000)))).1 (fun d => d == [7]) ∧
      nextAnd (exec (.rd 15) (s 1 (leBytes 8 0x50000))) (fun t => (port t 15).rx == []) ∧
      nextAnd (exec (.wr 15) (s 2 (leBytes 8 0x50000 ++ [9]))) (fun t => memGetBytes t.mem 0x50000 1 == [9]) ∧
      nextAnd (exec (.ping 15) (s 3 [])) (fun t => (port t 15).rx == [])) ∧
    (let s (op : Nat) (d : List Byte) := portMod 15 (fun x => { x with rx := [⟨.req, packet 0 op 511 d, false, false⟩] }) (linked lkUp)
     (match portalVia (rxTake 15 .req (s 3 [])) (packet 0 3 511 []) with | .error r => r == 0x0E | _ => false) = true ∧
      nextAnd (exec (.wr 15) (s 2 (leBytes 8 0x50000 ++ [9]))) (fun t => t.mem == mapped.mem)) := by
  decide +kernel

/-- Fabric_Requests: a local request that is fenced off, that no route or a wrong epoch refuses, and one that takes a tag. -/
theorem test_send_requests :
    (let s := linked lkUp
     isOn s (pgFrt 1) = true ∧ (reqParts .ping).isSome = true ∧ fenced s 7 = false ∧ 7 ≠ devId s ∧ routePorts s (routeOf s 7) = [] ∧
      nextAnd (exec (.reqSend 1 7 false 0 0 .ping) s) (fun t => t.sent.getLast? == some (.requestDone 16384 0x20 []))) ∧
    (let s := rfSet ((pgFrt 0).base + Reg.FRT_FENCE) 7 7 1 (linked lkUp)
     fenced s 7 = true ∧ nextAnd (exec (.reqSend 1 7 false 0 0 .ping) s) (fun t => t.sent == [.requestDone 16384 0x13 []])) ∧
    (let s := { linked lkUp with routes := tput [] 7 0x80408000#32 }
     routePorts s (routeOf s 7) ≠ [] ∧ nfld (routeOf s 7) 25 21 ≠ 1 ∧
      nextAnd (exec (.reqSend 1 7 false 0 0 .ping) s) (fun t => t.sent == [.requestDone 16384 0x22 []])) ∧
    (let s := { linked lkUp with routes := tput [] 7 0x80208000#32 }
     nfld (routeOf s 7) 25 21 = 1 ∧ freeTag s 1 = some 8192 ∧
      nextAnd (exec (.reqSend 1 7 false 0 0 .ping) s) (fun t => tagOf t 8192 == ⟨.outstanding, 1⟩)) := by
  decide +kernel

end Sys2Proof.Tests
end

