-- ==== Sys2Proof/Tests/Exchange.lean ====
section
/-! SUPPORT. Tests of gradient exchange and step commit: a witness for each statement of Obligations.lean about them. -/

namespace Sys2Proof.Tests

set_option Elab.async false

open Sys2Proof Sys2Proof.Machine

/-- XSEQ ON with a route to device 2 through port 15; context 7, in state `st`, has the exchange `x` and works on epoch 1. Contexts 7
and 0 share their address map. -/
def exchange (st : Nat) (x : XCtx) : State :=
  xcMod 7 (fun _ => x) (xStateSet 7 st (xEpochSet 7 1 (reg64Set (pgXlat.base + Reg.XLAT_CTX_ROOT + 56) 1 (onPages [pgXseq 0]
    { linked lkUp with routes := tput [] 2 0x80208000#32, xlat := [⟨7, 0, 2 ^ 30, 0, true, true, true⟩] }))))

/-- Ring [2, 511]: this device, 511, follows. -/
def follows : XCtx := { XCtx.fresh with ring := [2, 511], ringPos := 1, commitVa := 0x90000, recordVa := 0xA0000 }

/-- Ring [511, 2]: this device leads. -/
def leads : XCtx := { follows with ring := [511, 2], ringPos := 0 }

/-- A schedule of one RECV of 64 bytes from device 2 into main memory, ring [511]. -/
def schedule : List Byte :=
  leBytes 64 (1 + 1 <<< 16 + 1 <<< 32 + 0x80100 <<< 64 + 0x90000 <<< 256 + 0xA0000 <<< 320) ++
  leBytes 64 (2 + 1 <<< 8 + 2 <<< 16 + 0xB0000 <<< 64 + 0xB1000 <<< 128 + 64 <<< 192) ++ List.replicate 128 0 ++ leBytes 2 511

/-- Exchange_Commands_And_Timers: START from IDLE and after a rollback. -/
theorem test_xseq_start :
    (let s := withMem 0x80000 schedule (reg64Set (xsReg 7 Reg.XSEQ_CTX_SCHED_VA) 0x80000 (exchange xIdle XCtx.fresh))
     LetIn .mgc (pgXseq 0) (Reg.XSEQ_CTX_CMD + 7 * 0x80) s ∧ isOn s (pgXseq 0) = true ∧ xState s 7 = xIdle ∧
      (loadSched 7 (regSet (xsReg 7 Reg.XSEQ_CTX_PROGRESS) 0 (xStateSet 7 xExchange (attemptSet 7 0 (xEpochSet 7 1 s))))).1 = none ∧
      nextAnd (exec (.xseqStart .mgc 7) s) (fun t => xState t 7 == xExchange && xEpoch t 7 == 1 && (xc t 7).ops.length == 1)) ∧
    (let s := withMem 0x80000 schedule (reg64Set (xsReg 7 Reg.XSEQ_CTX_SCHED_VA) 0x80000 (exchange xRolledBack XCtx.fresh))
     nextAnd (exec (.xseqStart .mgc 7) s) (fun t => xState t 7 == xExchange && (xc t 7).attempt == 1) = true) := by
  unfold LetIn; decide +kernel

/-- Exchange_Commands_And_Timers: ROLLBACK, COMMIT and SET_EPOCH. -/
theorem test_xseq_commands :
    (let s := exchange xReadySent follows
     LetIn .mgc (pgXseq 0) (Reg.XSEQ_CTX_CMD + 7 * 0x80) s ∧ xState s 7 = xReadySent ∧ isLeader s 7 = false ∧
      nextAnd (exec (.xseqRollback .mgc 7) s) (fun t => xState t 7 == xRollback && rf t (xsReg 7 Reg.XSEQ_CTX_ORIGIN) 7 0 == 0x27) ∧
      nextAnd (exec (.xseqCommit .mgc 7) s) (fun t => ctxEpoch t 7 == 1 && xEpoch t 7 == 2)) ∧
    (let s := exchange xIdle follows
     LetIn .mgc (pgXseq 0) (Reg.XSEQ_CTX_SET_EPOCH + 7 * 0x80) s ∧ Master.secure .mgc = true ∧ xState s 7 = xIdle ∧
      nextAnd (exec (.setEpoch .mgc 7 0xFFFFFFFF) s) (fun t => ctxEpoch t 7 == 0xFFFFFFFF && xEpoch t 7 == 0)) := by
  unfold LetIn; decide +kernel

/-- A RECV of 64 bytes from device 2, and a SEND to it. -/
def recvOp : XOp :=
  { isSend := false, kindOk := true, main := true, sigEn := false, waitEn := true, gateEn := false, peer := 2, lbuf := 5, waitCtr := 1
    waitCount := 3, addr := 0xB0000, lenAddr := 0xB1000, maxBytes := 64, gate := 2, depends := List.replicate 8 0xFFFF, sigField := 0
    reservedOk := true }
def sendOp : XOp := { recvOp with isSend := true, waitEn := false, gateEn := true }

/-- Exchange_Commands_And_Timers: the timers. -/
theorem test_xseq_timers :
    (let s := exchange xLocalDone follows
     isLeader s 7 = false ∧ rf s ((pgXseq 0).base + Reg.XSEQ_CONFIG) 31 16 ≠ 0 ∧
      nextAnd (exec (.ringTimeout 7) s) (fun t => xState t 7 == xRollback && rf t (xsReg 7 Reg.XSEQ_CTX_ORIGIN) 7 0 == 0x22)) ∧
    (let s := exchange xReadySent follows
     (colSend 7 (predecessor (xc s 7)) 8 0 0 [] (xcMod 7 (fun x => { x with queryIdx := 1 }) s)).1 = none ∧
      nextAnd (exec (.queryInterval 7) s) (fun t => (xc t 7).queryIdx == 1 && (port t 15).egress.length == 1)) ∧
    (let s := exchange xRollback follows
     xState s 7 = xRollback ∧ nextAnd (exec (.quietExpiry 7) s) (fun t => xState t 7 == xRolledBack)) ∧
    (let s := rfSet ((pgXseq 0).base + Reg.XSEQ_WAIT) 31 16 1 (exchange xExchange { follows with
        ops := [recvOp], st := [(0, { OpState.fresh with started := true })] })
     xop s 7 0 = some recvOp ∧ (opSt s 7 0).started = true ∧ (opSt s 7 0).waited = false ∧ xToken s 7 1 < 3 ∧
      nextAnd (exec (.xseqWaitTimeout 7 (some 0)) s) (fun t => xState t 7 == xRollback)) ∧
    (let s := rfSet ((pgXseq 0).base + Reg.XSEQ_WAIT) 31 16 1 (exchange xExchange follows)
     opsDone s 7 = true ∧ xToken s 7 0 = 0 ∧
      nextAnd (exec (.xseqWaitTimeout 7 none) s) (fun t => rf t (xsReg 7 Reg.XSEQ_CTX_ORIGIN) 7 0 == 0x0B)) := by
  decide +kernel

/-- Exchange_Commands_And_Timers: HALT_SHARE_N reaches a context that shares halts and runs, and is let go. -/
theorem test_halt_share :
    (let s := rfSet (xsReg 7 Reg.XSEQ_CTX_CTRL) 0 0 1 (exchange xExchange follows)
     s.pins.haltShareLow = false ∧ nextAnd (exec .haltShareN s) (fun t => xState t 7 == xRollback && xState t 0 == xIdle)) ∧
    nextAnd (exec .haltShareNRelease (exchange xIdle follows)) (fun t => !t.pins.haltShareLow) := by
  decide +kernel

/-- Exchange_Ops: a granted SEND of 3 bytes, a RECV, and the CONFIRM of a SEND. -/
theorem test_xseq_ops :
    (let s := withMem 0xB0000 [1, 2, 3] (withMem 0xB1000 [3] (exchange xExchange { follows with
        ops := [sendOp], st := [(0, { OpState.fresh with granted := true, credit := 1 })] }))
     xop s 7 0 = some sendOp ∧ xState s 7 = xExchange ∧ xlatOn s = true ∧ (opGate 7 0 sendOp s).1 = true ∧
      nextAnd (exec (.send 7 0) s) (fun t => (opSt t 7 0).completed && (port t 15).egress.map (fun k => k.pkt.payload) ==
        [[1, 2, 3], leBytes 4 3])) ∧
    (let s := xTokenSet 7 1 5 (exchange xExchange { follows with ops := [recvOp] })
     xop s 7 0 = some recvOp ∧ (opGate 7 0 recvOp s).1 = true ∧
      nextAnd (exec (.recv 7 0) s) (fun t => (opSt t 7 0).granted && xToken t 7 1 == 2 &&
        (port t 15).egress.map (fun k => k.pkt.payload) == [leBytes 4 1])) ∧
    (let s := xTokenSet 7 2 1 (exchange xExchange { follows with ops := [sendOp], st := [(0, { OpState.fresh with completed := true })] })
     (opSt s 7 0).completed = true ∧ (opSt s 7 0).confirmSent = false ∧ xToken s 7 sendOp.gate ≠ 0 ∧
      nextAnd (exec (.sendConfirm 7 0) s) (fun t => (opSt t 7 0).confirmSent && xToken t 7 2 == 0)) := by
  decide +kernel

/-- Exchange_Ops: a follower and a leader become locally done. -/
theorem test_locally_done :
    (let s := xTokenSet 7 0 1 (exchange xExchange follows)
     opsDone s 7 = true ∧ xToken s 7 0 ≠ 0 ∧ (xc s 7).statsLanded.length < lapPackets (xc s 7) ∧ isLeader s 7 = false ∧
      nextAnd (exec (.locallyDone 7) s) (fun t => xState t 7 == xLocalDone && xToken t 7 0 == 0)) ∧
    (let s := xTokenSet 7 0 1 (exchange xExchange leads)
     isLeader s 7 = true ∧ 2 ≤ (xc s 7).ring.length ∧
      nextAnd (exec (.locallyDone 7) s) (fun t => xState t 7 == xStatsSent && (port t 15).egress.length == 1)) := by
  decide +kernel

/-- A COL packet of operation `op` of context 7 in epoch 1 waits at port 15. -/
def arrived (op arg : Nat) (d : List Byte) (s : State) : State :=
  portMod 15 (fun x => { x with rx := [⟨.col, { packet 2 op 511 d with portal := 7, arg := BitVec.ofNat 27 arg, epoch := 1 }, false, false⟩] }) s

/-- The judgement of that packet is to process it, and the command answers `f`. -/
def processed (s : State) (o : Host.Outcome State Fault Refusal) (f : State → Bool) : Bool :=
  match rxHead s 15 .col with
  | some h => (colJudge (rxTake 15 .col s) 7 h.pkt == .process) && isOn s (pgXseq 0) && xlatOn s && nextAnd o f
  | none => false

/-- Context 7 in EXCHANGE with its ops, non-secure like the packets. -/
def receiving (l : List XOp) (t : OpState) : State := exchange xExchange { follows with ops := l, st := [(0, t)] }

/-- Exchange_Arrivals: DATA, END, CONFIRM, REVOKE and CREDIT. -/
theorem test_arrivals :
    (let g : OpState := { OpState.fresh with granted := true }
     let s := arrived 1 5 [8, 9] (receiving [recvOp] g)
     processed s (exec (.data 15) s) (fun t => (opSt t 7 0).received == 2 && memGetBytes t.mem 0xB0000 2 == [8, 9]) ∧
     (let s := arrived 2 5 (leBytes 4 64) (receiving [recvOp] g)
      processed s (exec (.colEnd 15) s) (fun t => (opSt t 7 0).length == some 64)) ∧
     (let s := arrived 3 5 [] (receiving [recvOp] g)
      processed s (exec (.confirm 15) s) (fun t => (opSt t 7 0).confirmGot)) ∧
     (let s := arrived 4 0 (leBytes 4 (9 + 0x0B <<< 16)) (receiving [recvOp] g)
      processed s (exec (.revoke 15) s) (fun t => xState t 7 == xRollback && rf t (xsReg 7 Reg.XSEQ_CTX_ORIGIN) 7 0 == 0x0B)) ∧
     (let s := arrived 0x1F 5 (leBytes 4 7) (receiving [sendOp] OpState.fresh)
      processed s (exec (.colCredit 15) s) (fun t => (opSt t 7 0).granted && (opSt t 7 0).credit == 7))) := by
  decide +kernel

/-- Exchange_Arrivals: one of two STATS and of two READY packets. -/
theorem test_laps :
    (let x := { follows with jw := List.range 13 }
     let s := arrived 5 (1 <<< 11) [5] (exchange xLocalDone x)
     lapPackets x = 2 ∧ processed s (exec (.stats 15) s) (fun t => (xc t 7).statsLanded == [1] && memGetBytes t.mem 0x90200 1 == [5]) ∧
     (let s := arrived 6 (1 <<< 11 + 1) [5] (exchange xStatsSent x)
      processed s (exec (.ready 15) s) (fun t => (xc t 7).readyLanded == [1] && (xc t 7).verdict &&
        memGetBytes t.mem 0x90600 1 == [5]))) := by
  decide +kernel

/-- Step_Commit: COMMIT, both ANSWERs and a QUERY. -/
theorem test_commit :
    (let s := arrived 7 0 [] (exchange xReadySent follows)
     isLeader s 7 = false ∧ processed s (exec (.commit 15) s) (fun t => ctxEpoch t 7 == 1 && xEpoch t 7 == 2)) ∧
    (let s := arrived 9 0 [] (exchange xReadySent follows)
     processed s (exec (.answer 15) s) (fun t => ctxEpoch t 7 == 1) = true) ∧
    (let s := arrived 9 1 [] (exchange xReadySent follows)
     processed s (exec (.answer 15) s) (fun t => xState t 7 == xRollback && ctxEpoch t 7 == 0) = true) ∧
    (let s := arrived 8 0 [] (exchange xReadySent follows)
     processed s (exec (.query 15) s) (fun t => (port t 15).egress.map (fun k => (k.pkt.op.toNat, k.pkt.arg.toNat)) == [(9, 2)]) = true) := by
  decide +kernel

end Sys2Proof.Tests
end

