-- ==== Sys2Proof/Tests/Health.lean ====
section
/-! SUPPORT. Tests of patrol, repair, bank moves and the health datagram: a witness for each statement of Obligations.lean about
them. -/

namespace Sys2Proof.Tests

set_option Elab.async false

open Sys2Proof Sys2Proof.Machine

/-- The Health Manager and the patrol of cluster 1023 ON; one mismatch makes a unit SUSPECT. -/
def patrols : State := rfSet (pgHlth.base + Reg.HLTH_CONFIG) 15 8 1 (onPages [pgHlth, pgPtrl 1023] powered)

/-- Health_Patrol: a round that passes and one that fails on core 323, and a pass that is too old. -/
theorem test_patrol :
    (let s := rfSet ((pgPtrl 1023).base + Reg.PTRL_STATUS) 8 0 323 patrols
     isOn s (pgPtrl 1023) = true ∧ patrolOpen s 1023 = true ∧ bandRetired s 1023 = false ∧ mismatchLimit s = 1 ∧
      nextAnd (exec (.patrolRound 1023 true) s) (fun t => rf t ((pgPtrl 1023).base + Reg.PTRL_STATUS) 8 0 == 0) ∧
      nextAnd (exec (.patrolRound 1023 false) s) (fun t => rf t ((pgPtrl 1023).base + Reg.PTRL_FAIL) 8 0 == 323 &&
        (clu t 1023).suspects == [.core 323])) ∧
    (let s := { patrols with evr := { patrols.evr with opMs := 600001 } }
     (clu s 1023).lateSent = false ∧ 600000 < oldestPass s 1023 ∧
      nextAnd (exec (.patrolLate 1023) s) (fun t => (clu t 1023).lateSent)) := by
  decide +kernel

/-- Health_Patrol: lanes and CMEM words. -/
theorem test_patrol_lanes_banks :
    (nbit (laneMask patrols 1023) 67 = false ∧ (bitsOf 68 (laneMask patrols 1023)).length < 4 ∧
      nextIs (exec (.lanePatrol 1023 67 true) patrols) patrols ∧
      nextAnd (exec (.lanePatrol 1023 67 false) patrols) (fun t => (clu t 1023).suspects == [.lane 67])) ∧
    (let s := cluMod 1023 (fun k => { k with patrolWord := 524287, poison := [wordKey patrols 1023 524287] }) patrols
     (clu s 1023).patrolWord % 524288 = 524287 ∧ bankCur s 1023 (cmemBank 524287) ≠ 2 ∧ bankBusy s 1023 (cmemBank 524287) = false ∧
      (clu s 1023).poison.contains (wordKey s 1023 524287) = true ∧
      nextAnd (exec (.cmemPatrolRead 1023) s) (fun t => (clu t 1023).patrolWord == 0 && (clu t 1023).dueBanks == [cmemBank 524287])) := by
  decide +kernel

/-- Health_Repair: reruns of a core that pass and that fail, of a mapped bank and of a lane. -/
theorem test_reruns :
    (let s := cluMod 1023 (fun k => { k with suspects := [.core 323, .bank 0, .lane 67] }) patrols
     (clu s 1023).suspects.contains (.core 323) = true ∧ max 1 (rf s (pgHlth.base + Reg.HLTH_CONFIG) 7 0) = 3 ∧ arrayIdle s = true ∧
      nextAnd (exec (.suspectRerun 1023 (.core 323) [false, true, false]) s) (fun t => (clu t 1023).failedCores == []) ∧
      nextAnd (exec (.suspectRerun 1023 (.core 323) [false, false, false]) s) (fun t => (clu t 1023).failedCores == [323]) ∧
      nextAnd (exec (.suspectRerun 1023 (.bank 0) [false, false, false]) s) (fun t => (clu t 1023).dueBanks == [0]) ∧
      nextAnd (exec (.suspectRerun 1023 (.lane 67) [false, false, false]) s) (fun t => nbit (laneMask t 1023) 67)) := by
  decide +kernel

/-- Health_Repair: a row on a tie, a column, and a band when both dimensions are spent. -/
theorem test_line_repair :
    (let s := cluMod 1023 (fun k => { k with failedCores := [99] }) patrols
     arrayIdle s = true ∧ (clu s 1023).bandDue = false ∧ (clu s 1023).failedCores.contains (5 * 18 + 9) = true ∧
      nbit (rowFailed s 1023) 5 = false ∧ nbit (colFailed s 1023) 9 = false ∧ bandRetired s 1023 = false ∧
      nextAnd (exec (.lineRepair 1023 5 9) s) (fun t => rowFailed t 1023 == 0x20 && colFailed t 1023 == 0) ∧
      nextAnd (exec (.lineRepair 1023 5 9) (rfSet ((pgCore 1023).base + Reg.CORE_ROW_MAP) 17 0 1 s)) (fun t =>
        rowFailed t 1023 == 1 && colFailed t 1023 == 0x200)) ∧
    (let s := rfSet ((pgCore 1023).base + Reg.CORE_ROW_MAP) 17 0 3 (rfSet ((pgCore 1023).base + Reg.CORE_COL_MAP) 17 0 3
        (cluMod 1023 (fun k => { k with failedCores := [99] }) patrols))
     2 ≤ failCount (rowFailed s 1023) ∧ 2 ≤ failCount (colFailed s 1023) ∧
      nextAnd (exec (.lineRepair 1023 5 9) s) (fun t => bandRetired t 1023 && rowFailed t 1023 == 3)) := by
  decide +kernel

/-- Health_Repair: the commands of HLTH_CMD. -/
theorem test_hlth_cmd :
    (LetIn .mgc pgHlth Reg.HLTH_CMD patrols ∧ isOn patrols pgHlth = true ∧ rf patrols (pgHlth.base + Reg.HLTH_CMD) 31 31 = 0 ∧
      arrayIdle patrols = true ∧ running patrols = none ∧ csActive patrols 1023 = none ∧
      nextAnd (exec (.retireRowBand .mgc 31) patrols) (fun t => geomM t == 496 && geomN t == 512) ∧
      nextAnd (exec (.retireColBand .mgc 31) patrols) (fun t => geomM t == 512 && geomN t == 496) ∧
      nextIs (exec (.scanCluster .mgc 1023 none) patrols) patrols ∧
      nextAnd (exec (.scanCluster .mgc 1023 (some (.core 323, 0))) patrols) (fun t => (clu t 1023).failedCores == [323]) ∧
      nextAnd (exec (.patrolCore .mgc 1023 true) patrols) (fun t => rf t ((pgPtrl 1023).base + Reg.PTRL_STATUS) 8 0 == 1)) ∧
    (let s := oneJob patrols
     arrayIdle s = false ∧ rf s (pgHlth.base + Hdr.ERR_CODE) 15 8 = 0 ∧
      nextAnd (exec (.retireRowBand .mgc 31) s) (fun t => rf t (pgHlth.base + Hdr.ERR_CODE) 7 0 == 0x21)) := by
  unfold LetIn; decide +kernel

/-- And a region that lets every copy in. -/
def openPatrols : State := reg64Set (pgRpt.base + Reg.RPT_REGION) openRegion patrols

/-- Bank_Moves_And_Datagram: a rotation begins, and its copy ends with the byte where it was. -/
theorem test_rotation :
    ((clu patrols 1023).move = none ∧ spareBank patrols 1023 = some 32 ∧ LetIn .mgc pgHlth Reg.HLTH_CMD patrols ∧
      nextAnd (exec (.bankRotation 1023) patrols) (fun t => (clu t 1023).move == some ⟨0, 32, false⟩) ∧
      nextAnd (exec (.rotateBank .mgc 1023) patrols) (fun t => (clu t 1023).move == some ⟨0, 32, true⟩)) ∧
    (let s := cmemPutRaw 1023 0 [7] (cluMod 1023 (fun k => { k with move := some ⟨0, 32, false⟩ }) openPatrols)
     rptVerdict s .mgmt true false (cmemPa 1023 0) = none ∧
     Memory.wf s.mem = true ∧ Memory.wf s.cmem = true ∧ (List.range 32).all (fun b => physBank s 1023 b != 32) = true ∧
      nextAnd (exec (.bankCopy 1023 true 0) s) (fun t => physBank t 1023 0 == 32 && cmemGetRaw t 1023 0 1 == [7])) := by
  unfold LetIn; decide +kernel

/-- Bank_Moves_And_Datagram: a due bank with and without a spare, and a datagram of one change. -/
theorem test_due_bank_datagram :
    (let s := cmemPutRaw 1023 0 [7] (cluMod 1023 (fun k => { k with dueBanks := [0] }) openPatrols)
     (clu s 1023).move = none ∧ spareBank s 1023 = some 32 ∧
      nextAnd (exec (.bankCopy 1023 true 0) s) (fun t => physBank t 1023 0 == 32 && (clu t 1023).badBanks == [0])) ∧
    (let s := cluMod 1023 (fun k => { k with dueBanks := [0], badBanks := [32, 33] }) patrols
     spareBank s 1023 = none ∧ nextAnd (exec (.bankCopy 1023 true 0) s) (fun t => (clu t 1023).bandDue && retired t (pgVec 1023))) ∧
    (let s := { patrols with changes := [[1, 1, 0, 1023, 0, 0x0B02]] }
     s.changes ≠ [] ∧ s.power.standbyUp = true ∧ s.sec.recovery = false ∧ rf s (pgMgc.base + 0x104) 0 0 = 0 ∧
      nextAnd (exec .healthDatagram s) (fun t => t.changes == [] &&
        (match t.sent with | [.datagram d] => d.length == 112 && d.take 4 == [1, 0, 1, 0] | _ => false))) := by
  decide +kernel

end Sys2Proof.Tests
end

