-- ==== Sys2Proof/Tests/Memory.lean ====
section
/-! SUPPORT. Tests of cluster memory, the Scale Keeper, main memory, translation and the Region Protection Table: a witness for each
statement of Obligations.lean about them. -/

namespace Sys2Proof.Tests

set_option Elab.async false

open Sys2Proof Sys2Proof.Machine

/-! ### Cluster memory -/

/-- Powered with CMEM of cluster 1023 ON. -/
def banksOn : State := onPages [pgCmem 1023] powered

/-- Bank_States: bank 0 goes OFF and loses its byte, bank 31 wakes for retention and returns to it. -/
theorem test_bank_power :
    (let s := cmemPutRaw 1023 0 [7] banksOn
     LetIn .mgc (pgCmem 1023) Reg.CMEM_BANK_PWR_REQ s ∧
      nextAnd (exec (.bankPwrReq .mgc 1023 2) s) (fun t => bankCur t 1023 0 == 2 && cmemGetRaw t 1023 0 1 == [0]) ∧
      nextAnd (exec (.bankPwrReq .mgc 1023 (1 <<< 62)) (bankCurSet 1023 31 2 s)) (fun t =>
        bankCur t 1023 31 == 1 && bankBusy t 1023 31)) ∧
    (let s := rfSet ((pgCmem 1023).base + Reg.CMEM_RET_IDLE) 15 0 9 (reg64Set ((pgCmem 1023).base + Reg.CMEM_BANK_PWR_REQ) (1 <<< 62) banksOn)
     bankReq s 1023 31 = 1 ∧ bankCur s 1023 31 = 0 ∧ bankBusy s 1023 31 = false ∧
      rf s ((pgCmem 1023).base + Reg.CMEM_RET_IDLE) 15 0 ≠ 0 ∧
      nextAnd (exec (.retIdleExpiry 1023 31) s) (fun t => bankCur t 1023 31 == 1)) ∧
    (let s := bankBusySet 1023 31 1 banksOn
     bankBusy s 1023 31 = true ∧ nextAnd (exec (.bankZeroDone 1023 31) s) (fun t => !bankBusy t 1023 31)) := by
  unfold LetIn; decide +kernel

/-- Bank_States: a bank leaves the secure world, a non-secure write does not move it; a corrected word is written back. -/
theorem test_bank_world :
    (let s := rfSet ((pgCmem 1023).base + Hdr.WORLD) 0 0 0 (cmemPutRaw 1023 0 [7] (regSet ((pgCmem 1023).base + Reg.CMEM_BANK_WORLD) 1 banksOn))
     LetIn .mgc (pgCmem 1023) Reg.CMEM_BANK_WORLD s ∧ Master.secure .mgc = true ∧ bankSecure s 1023 0 = true ∧
      bankCur s 1023 0 ≠ 2 ∧
      nextAnd (exec (.bankWorld .mgc 1023 0) s) (fun t => !bankSecure t 1023 0 && bankBusy t 1023 0 && cmemGetRaw t 1023 0 1 == [0]) ∧
      LetIn (.host 0) (pgCmem 1023) Reg.CMEM_BANK_WORLD s ∧
      nextAnd (exec (.bankWorld (.host 0) 1023 0) s) (fun t => bankSecure t 1023 0)) ∧
    (let s := cluMod 1023 (fun k => { k with correct := [wordKey banksOn 1023 5], writeback := [wordKey banksOn 1023 5] }) banksOn
     (clu s 1023).writeback.contains (wordKey s 1023 (5 : Fin 524288)) = true ∧
      nextAnd (exec (.eccWriteback 1023 5) s) (fun t => (clu t 1023).writeback == [] && (clu t 1023).correct == [])) := by
  unfold LetIn; decide +kernel

/-! ### The Scale Keeper -/

/-- The upper half ON, entry 8192 selected, and a record on its way to entry 16383. -/
def keeper : State :=
  let s := rfSet ((pgSkeep 1).base + Reg.SKEEP_SEL) 13 0 8192 (onPages [pgSkeep 1] powered)
  { s with statq := [⟨16383, 0, false, [0, 0, 0, 3, 0, 0, 0, 0], 9, 4, skStep s (sk s 16383), 0, 0, false⟩] }

/-- Scale_Keeper_Entries: a record of the entry's step, a stale one, an entry write that passes and one that does not, CMD_DONE. -/
theorem test_skeep_entries :
    (let s := keeper
     s.statq.findIdx? (fun x => x.entry == 16383) = some 0 ∧ isOn s (skPage 16383) = true ∧
      s.statq.map (fun m => (m.step == skStep s (sk s m.entry), m.ctx == (sk s m.entry).ctx)) = [(true, true)] ∧
      nextAnd (exec (.statsAbsorb 0) s) (fun t => (sk t 16383).wElements == 9 && (sk t 16383).wAmax == 4)) ∧
    (let s := { keeper with statq := keeper.statq.map (fun m => { m with step := m.step + 1 }) }
     s.statq.map (fun m => m.step == skStep s (sk s m.entry)) = [false] ∧
      nextAnd (exec (.statsAbsorb 0) s) (fun t => t.skeep == s.skeep && rf t ((pgSkeep 1).base + Reg.SKEEP_STALE) 31 0 == 1)) ∧
    (LetIn .mgc (pgSkeep 1) (Reg.SKEEP_ENTRY0_7 + 8 * 5) keeper ∧ skSelected keeper 1 = some 8192 ∧ skWordBad 5 40 = false ∧
      nextAnd (exec (.skeepEntryWrite .mgc 1 5 (40 + 7 <<< 16)) keeper) (fun t => (sk t 8192).sumLog2 == 40 && (sk t 8192).clean == 7) ∧
      skWordBad 5 41 = true ∧ nextAnd (exec (.skeepEntryWrite .mgc 1 5 41) keeper) (fun t => t.skeep == keeper.skeep)) ∧
    (let s := rfSet (skCmdReg 1) 31 31 1 keeper
     rf s (skCmdReg 1) 31 31 = 1 ∧ nextAnd (exec (.skeepCmdDone 1) s) (fun t => rf t (skCmdReg 1) 31 31 == 0)) := by
  unfold LetIn; decide +kernel

/-- Scale_Keeper_Commands: each command is let in and begins; SAVE and LOAD stop at their image, which no region covers. -/
theorem test_skeep_commands :
    (let s := { keeper with skeep := tput [] 8200 { skReset with ctx := 7, cold := true, wAmax := 3, fmt := 1 } }
     LetIn .mgc (pgSkeep 1) Reg.SKEEP_CMD s ∧ rf s (skCmdReg 1) 31 31 = 0 ∧ isOn s (pgSkeep 1) = true ∧
      nextAnd (exec (.skeepSave .mgc 1) s) (fun t => rf t (skCmdReg 1) 31 31 == 1 && t.mem == []) ∧
      nextAnd (exec (.skeepLoad .mgc 1) s) (fun t => t.skeep == s.skeep) ∧
      nextAnd (exec (.warm .mgc 1 7) s) (fun t => !(sk t 8200).cold && (sk t 8200).hist.head? == some 3) ∧
      nextAnd (exec (.invalidate .mgc 1) s) (fun t => (sk t 8200).cold) ∧
      nextAnd (exec (.clearWorking .mgc 1 7) s) (fun t => (sk t 8200).wAmax == -32768)) := by
  unfold LetIn; decide +kernel

/-! ### Main memory -/

/-- What a read of a good line shows. -/
def clean : LineObs := cleanLine

/-- Memory_Access: a read and a write of the last bytes of a line, and both refused where no region lies. -/
theorem test_memory_access :
    (let s := withMem 0x500 [1, 2, 3] mapped
     (s.sec.wiping && isSecureMem s 0x500) = false ∧ decodePa s 0x500 = .main ∧ rptVerdict s .host false false 0x500 = none ∧
      cleanObs clean ∧ groupReads s (groupOf s 0x500) ∧ s.markers.contains 5 = false ∧
      nextAnd (exec (.memoryRead .host false 0x503 clean) s) (fun t =>
        t.sent == [.memData 0x500 ([1, 2, 3] ++ List.replicate 253 0) false])) ∧
    (let s := mapped
     (s.sec.wiping && isSecureMem s 0x5FF) = false ∧ decodePa s 0x5FF = .main ∧ rptVerdict s .onDie true true 0x5FF = none ∧
      Memory.wf s.mem = true ∧ Memory.wf s.cmem = true ∧ groupReads s (groupOf s 0x500) ∧
      nextAnd (exec (.memoryWrite .onDie true 0x5FF [9] clean) s) (fun t => memGetBytes t.mem 0x5FF 2 == [9, 0])) ∧
    (rptVerdict powered .onDie true false 0x500 = some 9 ∧ rptVerdict powered .onDie true true 0x500 = some 9 ∧
      nextAnd (exec (.memoryRead .onDie true 0x500 clean) powered) (fun t => t.sent.getLast? == some (.memError 0x500 9)) ∧
      nextAnd (exec (.memoryWrite .onDie true 0x500 [9] clean) powered) (fun t => t.sent.getLast? == some (.memError 0x500 9))) := by
  unfold cleanObs groupReads; decide +kernel

/-- Memory_Health: a Green group loses member 8 in three ways; an Amber group turns Red. -/
theorem test_member_failed :
    (let s := onPages [pgCgm 31, pgMemc 0, pgMemc 1] powered
     memberFailed s 31 8 = false ∧ groupColour s 31 = 0 ∧ LetIn .mgc (pgCgm 31) Reg.CGM_FAIL s ∧
      nextAnd (exec (.channelTimeout 31 8) s) (fun t => memberFailed t 31 8 && groupColour t 31 == 1 && erased t 31 == 8) ∧
      nextAnd (exec (.calibrationFailure 31 8) s) (fun t => memberFailed t 31 8) ∧
      nextAnd (exec (.cgmFail .mgc 31 8) s) (fun t => memberFailed t 31 8 &&
        nextAnd (exec (.channelTimeout 31 0) t) (fun u => groupColour u 31 == 2 && second u 31 == 0))) := by
  unfold LetIn; decide +kernel

/-- Memory_Health: GO for a Red group, a line of its evacuation, a scrub of the last line, a refresh and a poll. -/
theorem test_evacuation :
    (let s := rfSet ((pgCgm 31).base + Reg.CGM_STATE) 1 0 2 (onPages [pgCgm 31, pgMemc 0, pgMemc 1] powered)
     LetIn .mgc (pgMemc 0) Reg.MEMC_EVAC s ∧ evacBusy s = false ∧ groupColour s 31 = 2 ∧ retiredGroups s = 0 ∧
      nextAnd (exec (.go .mgc 0 31) s) (fun t => evacBusy t && memTop t == 0x00BA00000000 &&
        erased t t.evacGroup == 15 && t.markers.isEmpty && decide (evacDone t < 2 ^ 40) &&
        nextAnd (exec (.evacLineCopy clean) t) (fun u => evacDone u == 1))) ∧
    (let s := rfSet ((pgCgm 31).base + Reg.CGM_SCRUB) 26 0 (groupLines - 1) (onPages [pgCgm 31] powered)
     groupColour s 31 ≠ 3 ∧ groupReads s 31 ∧
      nextAnd (exec (.scrubRead 31 clean) s) (fun t => rf t ((pgCgm 31).base + Reg.CGM_SCRUB) 26 0 == 0)) ∧
    nextIs (exec (.refresh 31 8 15) powered) powered ∧
    nextAnd (exec (.mr4Poll 35 31) powered) (fun t => tget t.mr4 0 35 == 31) := by
  unfold LetIn groupReads; decide +kernel

/-! ### Translation and regions -/

/-- Context 0 has 2 MiB at VA 0 mapped by tables at 0x200000, and nothing is cached. -/
def tables : State :=
  withMem 0x201000 (leBytes 8 (0x1F + 0x40000000)) (withMem 0x200000 (leBytes 8 (1 + 0x201000))
    (reg64Set (pgXlat.base + Reg.XLAT_CTX_ROOT) (1 + 0x200000) { mapped with xlat := [] }))

/-- Translation_And_Regions: a walk that finds a leaf. -/
theorem test_walk :
    xlatOn tables = true ∧ tlbHit tables 0 0x12345 = none ∧
    okAnd (walk 0 0x12345 tables).1 (fun l => l.base == 0x40000000 && l.size == 2 ^ 21 && l.r && l.w && l.pin) ∧
    nextAnd (exec (.pageWalk 0 0x12345 false false) tables) (fun t =>
      tlbHit t 0 0x12345 == some ⟨0, 0, 2 ^ 21, 0x40000000, true, true, true⟩) := by
  decide +kernel

/-- Translation_And_Regions: the three invalidations begin, one ends, and a region is written unless the page is locked. -/
theorem test_invalidate_regions :
    (LetIn .mgc pgXlat Reg.XLAT_INVAL_CMD mapped ∧ rf mapped invalReg 31 31 = 0 ∧ xlatOn mapped = true ∧
      nextAnd (exec (.invalAll .mgc) mapped) (fun t => t.inval == some .all) ∧
      nextAnd (exec (.invalContext .mgc 7) mapped) (fun t => t.inval == some (.context 7)) ∧
      nextAnd (exec (.invalRange .mgc 7) mapped) (fun t => t.inval == some (invalRangeOf mapped 7))) ∧
    (let s := { mapped with inval := some (.context 1) }
     s.inval = some (.context 1) ∧ nextAnd (exec .invalDone s) (fun t => t.xlat.map (·.ctx) == [0])) ∧
    (LetIn .mgc pgRpt (Reg.RPT_REGION + 8 * 255) mapped ∧ locked mapped pgRpt = false ∧
      nextAnd (exec (.rptRegionWrite .mgc 255 0xFFFF) mapped) (fun t => region t 255 == 0xFC3F)) ∧
    (let s := rfSet (pgRpt.base + Hdr.LOCK) 0 0 1 mapped
     LetIn .mgc pgRpt (Reg.RPT_REGION + 8 * 255) s ∧ locked s pgRpt = true ∧
      nextIs (exec (.rptRegionWrite .mgc 255 0xFFFF) s) s) := by
  unfold LetIn; decide +kernel

end Sys2Proof.Tests
end

