-- ==== Sys2Proof/Tests/HostPort.lean ====
section
/-! SUPPORT. Tests of the host attachment: a witness for each statement of Obligations.lean about frames, queue pairs, RDMA and the
Filgal Host Protocol. -/

namespace Sys2Proof.Tests

set_option Elab.async false

open Sys2Proof Sys2Proof.Machine

/-- HEP and RDMA of both ports ON, the link of port 1 in state `lk`. -/
def eth (lk : Nat) : State :=
  rfSet (hepReg 1 Reg.HEP_PORT_STATUS) 1 0 lk (onPages [pgHep 0, pgHep 1, pgRdma 0, pgRdma 1] mapped)

/-- Port 1 UP with a queue pair 1023. -/
def withQp (f : Qp → Qp) : State :=
  qpMod 1023 f (qpMod 1023 (fun x => { x with state := .rts, port := 1, ctx := 0, rate := 32, mtu := 1024 }) (eth 2))

/-- Host_Frames_And_Link: frames for this port's addresses, frames for others, and PFC. -/
theorem test_frames :
    (let s := regSet (hepReg 1 Reg.HEP_IPV4) 0x0A000001 (eth 2)
     ethUp s 1 = true ∧ (0x0A000001#32).toNat = hepIpv4 s 1 ∧ (0#128).toNat = hepIpv6 s 1 ∧
      nextAnd (exec (.arpRequest 1 0x0A000001 9) s) (fun t => t.sent.length == 1) ∧
      nextAnd (exec (.neighbourSolicitation 1 0 9) s) (fun t => t.sent.length == 1) ∧
      nextAnd (exec (.echoRequest 1 true 0 9 [1]) s) (fun t => t.sent == [.echoReply 1 9 [1]]) ∧
      nextAnd (exec (.arpRequest 1 7 9) s) (fun t => t.sent == [] && rf t (hepReg 1 Reg.HEP_RX_OTHER) 31 0 == 1) ∧
      nextAnd (exec (.otherFrame 1) s) (fun t => rf t (hepReg 1 Reg.HEP_RX_OTHER) 31 0 == 1)) ∧
    (let s := rfSet (hepReg 1 Reg.HEP_PORT_CONFIG) 6 4 7 (rfSet (hepReg 1 Reg.HEP_PORT_CONFIG) 3 3 1 (eth 2))
     rf s (hepReg 1 Reg.HEP_PORT_CONFIG) 3 3 = 1 ∧ rf s (hepReg 1 Reg.HEP_PORT_CONFIG) 6 4 = 7 ∧
      nextAnd (exec (.priorityFlowControl 1 7 true) s) (fun t => t.paused == [(1, 7)]) ∧
      nextIs (exec (.priorityFlowControl 1 6 true) s) s) := by
  decide +kernel

/-- Host_Frames_And_Link: a link goes down, its hold expires, it returns. -/
theorem test_eth_link :
    (ethLink (eth 2) 1 ≠ 0 ∧ nextAnd (exec (.ethernetLinkDown 1) (eth 2)) (fun t => ethLink t 1 == 0 && tget? t.linkDownAt 1 == some 0)) ∧
    (let s (ms : Nat) : State := { rfSet (hepReg 1 Reg.HEP_PORT_CONFIG) 31 16 5 (rfSet (hepReg 1 Reg.HEP_PORT_STATUS) 1 0 0 (withQp id))
        with linkDownAt := [(1, 0)], clk := { (withQp id).clk with ticks := 12500 * ms } }
     ethLink (s 5) 1 ≠ 2 ∧ holdPassed (s 5) 1 = true ∧ (qp (s 5) 1023).port = 1 ∧ (qp (s 5) 1023).state = .rts ∧
      nextAnd (exec (.portHoldExpiry 1) (s 5)) (fun t => (qp t 1023).state == .error) ∧
      holdPassed (s 4) 1 = false ∧ nextIs (exec (.portHoldExpiry 1) (s 4)) (s 4)) ∧
    (let s (speed : Nat) := rfSet (hepReg 1 Reg.HEP_PORT_CONFIG) 1 0 speed (eth 0)
     isOn (s 3) (pgHep 1) = true ∧ ethLink (s 3) 1 ≠ 2 ∧
      nextAnd (exec (.linkReturn 1 2) (s 3)) (fun t => ethLink t 1 == 2 && rf t (hepReg 1 Reg.HEP_PORT_STATUS) 3 2 == 2) ∧
      nextAnd (exec (.linkReturn 1 2) (s 0)) (fun t => rf t (hepReg 1 Reg.HEP_PORT_STATUS) 3 2 == 0)) := by
  decide +kernel

/-- Host_Connections: REQ accepted and rejected, RTU, DREQ. -/
theorem test_connections :
    (rdmaUp (eth 2) 1 = true ∧ freeQp (eth 2) = some 0 ∧ ctxSecure (eth 2) 7 = false ∧
      nextAnd (exec (.cmReq 1 ⟨7, 1, 99, 2⟩) (eth 2)) (fun t => (qp t 0).control && (qp t 0).ctx == 7 && (qp t 0).mtu == 4096) ∧
      fld (8 : BitVec 8) 7 3 ≠ 0 ∧ nextAnd (exec (.cmReq 1 ⟨8, 1, 99, 2⟩) (eth 2)) (fun t => t.sent == [.cmRej 1])) ∧
    (let s := withQp (fun x => { x with state := .connecting })
     rdmaUp s (qp s 1023).port = true ∧ nextAnd (exec (.cmRtu 1023) s) (fun t => (qp t 1023).state == .rts)) ∧
    (let s := regSet (bindReg 0) (BitVec.ofNat 32 (2 ^ 31 + 1023)) (withQp id)
     (qp s 1023).state ≠ .reset ∧
      nextAnd (exec (.cmDreq 1023) s) (fun t => (qp t 1023).state == .reset && regGet t (bindReg 0) == 0 && t.sent == [.cmDrep 2047])) := by
  decide +kernel

/-- Host_Connections: RDMA_QP_CMD through both instances. -/
theorem test_qp_cmd :
    (let s := rfSet ((pgRdma 0).base + Reg.RDMA_QSEL) 9 0 1023 (withQp id)
     LetIn .mgc (pgRdma 0) Reg.RDMA_QP_CMD s ∧
      nextAnd (exec (.qpReset .mgc 0) s) (fun t => (qp t 1023).state == .reset) ∧
      nextAnd (exec (.qpError .mgc 0) s) (fun t => (qp t 1023).state == .error)) ∧
    (let s := rfSet ((pgRdma 1).base + Reg.RDMA_QSEL) 9 0 1023 (withQp id)
     LetIn .mgc (pgRdma 1) Reg.RDMA_QP_CMD s ∧
      nextIs (exec (.qpReset .mgc 1) s) s ∧ nextIs (exec (.qpError .mgc 1) s) s) := by
  unfold LetIn; decide +kernel

/-- Rdma_Operations: WRITE that lands, WRITE and READ that fail, READ that answers, the wrong key. -/
theorem test_rdma :
    (let s := withQp id
     rdmaUp s 1 = true ∧ (qp s 1023).state = .rts ∧ xlatOn s = true ∧ (0 : BitVec 32).toNat = rf s (hepReg 0 Reg.HEP_RKEY) 31 0 ∧
      (rdmaPieces (viaQp (tallyPort 1 0x0100 2 1023 s) (qp s 1023)) [] 0x500 (pieces 0x500 2) [1, 2]
        (tallyPort 1 0x0100 2 1023 s)).1 = none ∧
      nextAnd (exec (.rdmaWrite 1023 5 0x500 0 false [] [1, 2]) s) (fun t => t.sent == [.rdmaAck 1023 5] && memGetBytes t.mem 0x500 2 == [1, 2]) ∧
      nextAnd (exec (.rdmaWrite 1023 5 0x500000000 0 false [] [1, 2]) s) (fun t => (qp t 1023).state == .error && t.mem == s.mem) ∧
      nextAnd (exec (.rdmaWrite 1023 5 0x500 1 false [] [1, 2]) s) (fun t => (qp t 1023).state == .error && t.mem == s.mem)) ∧
    (let s := withMem 0x500 [1, 2] (withQp id)
     okAnd (virtRead (viaQp s (qp s 1023)) 0x500 2 s).1 (fun d => d == [1, 2]) ∧
      nextAnd (exec (.rdmaRead 1023 5 0x500 0 ⟨2, false⟩) s) (fun t => t.sent == [.rdmaData 1023 5 [1, 2]]) ∧
      nextAnd (exec (.rdmaRead 1023 5 0x500000000 0 ⟨2, false⟩) s) (fun t => (qp t 1023).state == .error)) := by
  decide +kernel

/-- Rdma_Operations: congestion, retries, an acknowledged message, packets that are not supported. -/
theorem test_qp_timers :
    (let s := withQp (fun x => { x with unacked := [(3, 3, .cmDrep 1)] })
     nextAnd (exec (.cnp 1023) s) (fun t => (qp t 1023).rate == 16) ∧
      nextAnd (exec (.ccPeriod 1023) (rfSet (ccReg s 1023) 15 8 5 s)) (fun t => (qp t 1023).rate == 37) ∧
      (qp s 1023).unacked ≠ [] ∧ (qp s 1023).retries < 7 ∧
      nextAnd (exec (.ackTimeout 1023) s) (fun t => (qp t 1023).retries == 1 && t.sent == [.cmDrep 1]) ∧
      nextAnd (exec (.ackTimeout 1023) (qpMod 1023 (fun x => { x with retries := 7 }) s)) (fun t => (qp t 1023).state == .error) ∧
      nextAnd (exec (.rnrNak 1023 ⟨10, false⟩) s) (fun t => t.sent == [.cmDrep 1])) ∧
    (let s := { withQp (fun x => { x with unacked := [(2, 3, .cmDrep 1), (4, 4, .cmDrep 2)], retries := 6 }) with
        queues := tput [] 0 ⟨[⟨4, 0x81, [], some 1023, 3⟩], 5, false⟩ }
     ackedBy (qp s 1023) 3 = [(2, 3, .cmDrep 1)] ∧ ackedBy (qp s 1023) 2 = [] ∧
      nextAnd (exec (.transportAck ⟨1023, 3, false⟩) s) (fun t => (tget t.queues HostQueue.empty 0).msgs == [] &&
        (qp t 1023).retries == 0 && (qp t 1023).unacked == [(4, 4, .cmDrep 2)]) ∧
      nextIs (exec (.transportAck ⟨1023, 2, false⟩) s) s) ∧
    (let s := withQp id
     nextAnd (exec (.unsupportedPacket 1 (some 1023) ⟨9, false⟩) s) (fun t => t.sent == [.rdmaNak 1023 9 nakInvalid]) ∧
      nextAnd (exec (.unsupportedPacket 1 none ⟨9, false⟩) s) (fun t => rf t ((pgRdma 1).base + Reg.RDMA_UNSUPPORTED) 31 0 == 1)) := by
  decide +kernel

/-- The header of a request of a type and a body length. -/
def msg (type n : Nat) : MsgHdr := ⟨BitVec.ofNat 8 type, 1, 0, 0, 77, BitVec.ofNat 32 n, 0, false⟩

/-- A RESP of that request on queue pair 1023. -/
def resp (status : Nat) (body : List Byte) : Sent := .hostMsg 1023 (msgBytes 0x80 0 status 77 0 body)

/-- Host_Requests: one request of each type that runs. -/
theorem test_requests :
    (let s := withMem 0x500 [1, 2] (withQp id)
     requestFits 1 (msg 1 64) (List.replicate 64 0) = true ∧ fld (msg 1 64).ctx 2 0 = (qp s 1023).ctx ∧
      nextAnd (exec (.nop 1023 (msg 7 0) []) s) (fun t => t.sent == [resp 0 []]) ∧
      requestFits 2 (msg 2 8) (leBytes 8 4) = true ∧
      nextAnd (exec (.doorbell 1023 (msg 2 8) (leBytes 8 4)) s) (fun t => t.sent == [resp 0 []]) ∧
      requestFits 4 (msg 4 16) (leBytes 16 (2 ^ 62 + (pgHep 1).base)) = true ∧
      nextAnd (exec (.regAccess 1023 (msg 4 16) (leBytes 16 (2 ^ 62 + (pgHep 1).base))) s) (fun t =>
        t.sent == [resp 0 (leBytes 16 (2 ^ 62 + (pgHep 1).base))]) ∧
      requestFits 5 (msg 5 264) (leBytes 8 0x600 ++ List.replicate 256 7) = true ∧
      nextAnd (exec (.memWrite 1023 (msg 5 264) (leBytes 8 0x600 ++ List.replicate 256 7)) s) (fun t =>
        memGetBytes t.mem 0x600 256 == List.replicate 256 7 && t.sent == [resp 0 []]) ∧
      requestFits 6 (msg 6 8) (leBytes 8 0x500) = true ∧
      nextAnd (exec (.memRead 1023 (msg 6 8) (leBytes 8 0x500)) s) (fun t => t.sent == [resp 0 ([1, 2] ++ List.replicate 254 0)])) := by
  decide +kernel

/-- Host_Requests: a request that does not fit, one for another context, and BIND. -/
theorem test_requests_refused :
    (let s := withQp (fun x => { x with control := true })
     requestFits 7 (msg 7 0) [1] = false ∧ nextAnd (exec (.nop 1023 (msg 7 0) [1]) s) (fun t => t.sent == [resp 0x20 []]) ∧
      requestFits 7 { msg 7 0 with ctx := 1 } [] = true ∧ fld (1 : BitVec 8) 2 0 ≠ (qp s 1023).ctx ∧ xlatOn s = true ∧
      nextAnd (exec (.nop 1023 { msg 7 0 with ctx := 1 } []) s) (fun t => t.sent == [.hostMsg 1023 (msgBytes 0x80 1 0x07 77 0 [])]) ∧
      requestFits 3 (msg 3 0) [] = true ∧ (qp s 1023).control = true ∧
      nextAnd (exec (.bind 1023 (msg 3 0) []) s) (fun t => rf t (bindReg 0) 31 31 == 1 && rf t (bindReg 0) 9 0 == 1023)) := by
  decide +kernel

/-- Rdma_Operations, Host_Requests: a WRITE waits while XLAT is not ON, what follows waits behind it, and it runs when XLAT is ON; a
READ marked Congestion Experienced is answered with a CNP; a pair in ERROR NAKs; a SEND beyond 64 waiting ones gets an RNR NAK. -/
theorem test_waiting :
    (let s := rfSet (pgXlat.base + Hdr.STATE) 1 0 0 (withQp id)
     xlatOn s = false ∧ rdmaDenied s 0x500 0 = none ∧
      nextAnd (exec (.rdmaWrite 1023 5 0x500 0 false [] [1, 2]) s) (fun t => t.hostWait.length == 1 && t.sent == [] && qpWaits t 1023 &&
        nextAnd (exec (.nop 1023 (msg 7 0) []) t) (fun u => u.hostWait.length == 2 && u.sent == []))) ∧
    nextAnd (exec (.rdmaRead 1023 5 0x500 0 ⟨2, true⟩) (withQp id)) (fun t => t.sent.length == 2) ∧
    nextAnd (exec (.nop 1023 (msg 7 0) []) (withQp (fun x => { x with state := .error }))) (fun t => t.sent.length == 1) ∧
    (let s := { withQp id with hostWait := List.replicate 64 (1023, .message 7 (msg 7 0) []) }
     buffersHeld s 1023 = 64 ∧ nextAnd (exec (.nop 1023 (msg 7 0) []) s) (fun t => t.sent == [.rnrNak 1023] && t.hostWait.length == 64)) := by
  decide +kernel

end Sys2Proof.Tests
end

