-- ==== Sys2Proof/Tests/Movers.lean ====
section
/-! SUPPORT. Tests of the Movers: a witness for each statement of Obligations.lean about them. -/

namespace Sys2Proof.Tests

set_option Elab.async false

open Sys2Proof Sys2Proof.Machine

/-- Stream 16383, of Mover 63, is `x`; the Mover is ON and selects it. -/
def stream (x : Stream) (s : State) : State :=
  strmMod 16383 (fun _ => x) (rfSet ((pgMov 63).base + Reg.MOV_SSEL) 7 0 255 (onPages [pgMov 63] s))

/-- Mover_Stream_Commands: START, RESUME, and ABORT of a stream with and without a chunk in flight. -/
theorem test_stream_commands :
    (let s := stream { Stream.fresh with chainVa := 0x40 } powered
     LetIn .mgc (pgMov 63) Reg.MOV_SCMD s ∧ moverRuns s 63 = true ∧ selStream s 63 = 16383 ∧ (strm s 16383).atRest = true ∧
      nextAnd (exec (.moverStart .mgc 63) s) (fun t => (strm t 16383).state == .running && (strm t 16383).curVa == 0x40)) ∧
    (let s := stream { Stream.fresh with state := .suspended, descVa := 0x80, byteOff := 4096 } powered
     LetIn .mgc (pgMov 63) Reg.MOV_SCMD s ∧ moverRuns s 63 = true ∧
      nextAnd (exec (.moverResume .mgc 63) s) (fun t => (strm t 16383).curVa == 0x80 && (strm t 16383).nextOff == 4096) ∧
      nextAnd (exec (.moverAbort .mgc 63) s) (fun t => (strm t 16383).state == .idle)) ∧
    (let s := stream { Stream.fresh with state := .running, chunks := [⟨16383, 0, 0, none, none, []⟩] } powered
     (strm s 16383).state ≠ .idle ∧ nextAnd (exec (.moverAbort .mgc 63) s) (fun t => (strm t 16383).stopReq == 2)) := by
  unfold LetIn; decide +kernel

/-- Mover_Stream_Stops: each of the four stops. -/
theorem test_stream_stops :
    (let ch : Chunk := ⟨16383, 4096, 0, some (2, 0, 0, 0x100, 0), none, []⟩
     let s := stream { Stream.fresh with state := .running, failing := some ch, curVa := 0x40 } powered
     (strm s 16383).active = true ∧ (strm s 16383).chunks = [] ∧ (strm s 16383).stopReq ≠ 2 ∧
      nextAnd (exec (.streamSuspend 16383) s) (fun t => (strm t 16383).state == .suspended && (strm t 16383).seq == 1 &&
        (strm t 16383).byteOff == 4096)) ∧
    (let s := stream { Stream.fresh with state := .running, stopReq := 1, nextOff := 8192, curVa := 0x40 } powered
     (strm s 16383).failing = none ∧ (strm s 16383).active = true ∧
      nextAnd (exec (.streamPreempted 16383) s) (fun t => (strm t 16383).state == .preempted && (strm t 16383).byteOff == 8192)) ∧
    (let s := stream { Stream.fresh with state := .running, stopReq := 2 } powered
     nextAnd (exec (.streamIdle 16383) s) (fun t => (strm t 16383).state == .idle) = true) ∧
    (let s := rfSet ((pgMov 63).base + Reg.MOV_CONFIG) 31 16 1 (stream { Stream.fresh with state := .waiting } powered)
     (strm s 16383).fetched = false ∧ (strm s 16383).mboxFull = false ∧ rf s ((pgMov (moverOf 16383)).base + Reg.MOV_CONFIG) 31 16 ≠ 0 ∧
      nextAnd (exec (.moverWaitTimeout 16383) s) (fun t => (strm t 16383).state == .halted && (strm t 16383).reason == 0x0B)) := by
  decide +kernel

/-- A COPY of 8 bytes of tensor 0 to 0x40 of cluster 3, with a wait for 2 on counter 1 and a signal to counter 5 of cluster 3. -/
def copyDesc : Nat :=
  1 + 0x18 <<< 8 + (1 + 2 <<< 2) <<< 32 + 3 <<< 48 + 0x40 <<< 64 + 7 <<< 352 + (3 <<< 4 + 5 <<< 18 + 1 <<< 26) <<< 472

/-- Tensor 0 of context 0: 8 INT8 elements, 1 to 8, at 0x50000. -/
def withTensor (s : State) : State :=
  withMem 0x50000 [1, 2, 3, 4, 5, 6, 7, 8]
    (withMem 0x40000 (leBytes 64 (0x50000 + 6 <<< 64 + 1 <<< 72 + 1 <<< 80 + 8 <<< 192 + 1 <<< 224 + 1 <<< 256 + 1 <<< 288 + 1 <<< 320))
      (reg64Set (pgAcon.base + Reg.ACON_TDT_BASE) 0x40000 (rfSet (acReg 0 Reg.ACON_CTX_TDT) 31 16 1 s)))

/-- A running stream at the descriptor with this number. -/
def atDesc (v : Nat) (x : Stream) : State :=
  stream { x with state := .running, curVa := 0x60000, secure := true } (withMem 0x60000 (leBytes 64 v) (withTensor mapped))

/-- Mover_Descriptors: a COPY whose wait is met and one that waits. -/
theorem test_copy :
    (let s := atDesc copyDesc { Stream.fresh with tokens := [0, 3, 0, 0] }
     mayFetch s 16383 = true ∧ okAnd (fetchDesc 16383 s).1 (fun d => leNat d == copyDesc && descKind d == 1) ∧
      okAnd (checkCopy (strm s 16383) (parseCopy copyDesc) s).1 (fun b => b.format == 6 && (parseCopy copyDesc).bytes b == 8) ∧
      nextAnd (exec (.copy 16383) s) (fun t => (strm t 16383).fetched && (strm t 16383).tokens == [0, 1, 0, 0] &&
        (strm t 16383).state == .running)) ∧
    (let s := atDesc copyDesc Stream.fresh
     mayFetch s 16383 = true ∧ nextAnd (exec (.copy 16383) s) (fun t => (strm t 16383).state == .waiting)) := by
  decide +kernel

/-- Mover_Descriptors: VARJ without and with its variant, JUMP with a loop and without, END. -/
theorem test_descriptors :
    (let s := atDesc 2 Stream.fresh
     okAnd (fetchDesc 16383 s).1 (fun d => leNat d == 2) ∧
      nextAnd (exec (.descVarj 16383) s) (fun t => (strm t 16383).state == .waiting)) ∧
    (let s := withMem 0x70000 (leBytes 16 (9 + 0x80 <<< 64)) (atDesc 2 { Stream.fresh with mboxFull := true, mboxId := 9, vtab := 0x70000 + 1 <<< 48 })
     okAnd (variantTarget (viaStream s 16383) 0x70000 9 1 s).1 (fun va => va == 0x80) ∧
      nextAnd (exec (.descVarj 16383) s) (fun t => (strm t 16383).curVa == 0x80 && !(strm t 16383).mboxFull)) ∧
    (let s := atDesc (3 + 2 <<< 32 + 0x80 <<< 64) Stream.fresh
     okAnd (fetchDesc 16383 s).1 (fun d => descKind d == 3) ∧
      nextAnd (exec (.jump 16383) s) (fun t => (strm t 16383).curVa == 0x80 && (strm t 16383).loopCount == 1)) ∧
    (let s := atDesc 4 { Stream.fresh with irqDone := true }
     okAnd (fetchDesc 16383 s).1 (fun d => leNat d == 4) ∧
      nextAnd (exec (.descEnd 16383) s) (fun t => (strm t 16383).state == .done)) := by
  decide +kernel

/-- A stream inside that COPY, its tensor known, with `off` as the next chunk. -/
def inCopy (off : Nat) (l : List Chunk) (s : State) : State :=
  stream { Stream.fresh with
    state := .running, secure := true, fetched := true, curDesc := leBytes 64 copyDesc, nextOff := off, total := 8, chunks := l
    curVa := 0x60000
    curTensor := some { base := 0x50000, format := 6, rank := 1, valid := true, resident := false, transposed := false, secure := false,
                        expSrc := false, skeepIndex := 0, exp := 0, tensorId := 0, bscaleOff := 0, dims := [8, 1, 1, 1, 1],
                        strides := [0, 0, 0, 0], reservedOk := true } } (withTensor s)

/-- Mover_Chunks: the chunk issues, completes with its bytes and its signal, and a Mover moves to a spare. -/
theorem test_chunks :
    (let s := inCopy 0 [] mapped
     moverRuns s 63 = true ∧ xlatOn s = true ∧ moverChunks s 63 < 32 ∧ pickStream s 63 = some 16383 ∧
      (strm s 16383).curTensor.map (fun b => (guardAll (nextRange 16383 (strm s 16383) b).1 (nextRange 16383 (strm s 16383) b).2 s
        (strm s 16383).copy.clusters).isNone) = some true ∧
      nextAnd (exec (.chunkIssue 63) s) (fun t => (strm t 16383).nextOff == 4096 && (strm t 16383).chunks.length == 1)) ∧
    (let s := inCopy 4096 [⟨16383, 0, 0, none, none, [3]⟩] mapped
     nextAnd (exec (.chunkComplete 16383 0) s) (fun t => cmemGetRaw t 3 0x40 8 == [1, 2, 3, 4, 5, 6, 7, 8] &&
        t.flying == [⟨0, 0, 3, 5, 1, masterId 2 63, 0, [], []⟩] && (strm t 16383).curVa == 0x60040)) ∧
    (moverChunks powered 63 = 0 ∧ (List.range 64).any (fun j => j != 63 && tget powered.movers j j == 71) = false ∧
      powered.badMovers.contains 71 = false ∧ 71 ≠ tget powered.movers 63 63 ∧
      nextAnd (exec (.moverReassign 63 71) powered) (fun t => tget t.movers 63 63 == 71 && t.badMovers == [63])) := by
  decide +kernel

end Sys2Proof.Tests
end

