-- ==== Sys2Proof/Tests/Platform.lean ====
section
/-! SUPPORT. Tests of security, power, clocks, supplies, the Event Recorder and the counters: a witness for each statement of
Obligations.lean about them. A command that clears whole memories is not run here: only its hypotheses are met. -/

namespace Sys2Proof.Tests

set_option Elab.async false

open Sys2Proof Sys2Proof.Machine

/-! ### Security -/

/-- Tamper_Wipe_And_Life_Cycle: an enabled and a disabled source, and the end of a wipe. -/
theorem test_tamper :
    (powered.pins.vstby = true ∧ powered.fuses.lifecycle = 2 ∧ (8 : BitVec 4).toNat &&& tamperMask powered ≠ 0) ∧
    (let s := rfSet (pgSec.base + Reg.SEC_TAMPER_EN) 3 0 1 { powered with fuses := { powered.fuses with lifecycle := 1 } }
     s.pins.vstby = true ∧ (2 : BitVec 4).toNat &&& tamperMask s = 0 ∧
      nextAnd (exec (.tamper 2) s) (fun t => rf t (pgSec.base + Reg.SEC_TAMPER_STATUS) 3 0 == 2 && t.sec == s.sec)) ∧
    (let s := { powered with sec := { powered.sec with wiping := true } }
     s.sec.wiping = true ∧ s.sec.held = [] ∧ nextAnd (exec .wipeDone s) (fun t => !t.sec.wiping)) := by
  decide +kernel

/-- The device in a life-cycle state. -/
def living (n : Nat) : State := { powered with fuses := { powered.fuses with lifecycle := n } }

/-- Tamper_Wipe_And_Life_Cycle: each transition is let in; those that are refused record their code. -/
theorem test_life_cycle :
    (LetIn .mgc pgSec Reg.SEC_LC_CMD (living 0) ∧ (living 0).sec.wiping = false ∧ (living 1).fuses.lifecycle = 1 ∧
      LetIn .mgc pgSec Reg.SEC_LC_CMD (living 2) ∧ rf (living 2) (pgSec.base + Hdr.ERR_CODE) 15 8 = 0) ∧
    nextAnd (exec (.lcProvisioned .mgc false) (living 0)) (fun t => rf t (pgSec.base + Hdr.ERR_CODE) 7 0 == 0x20) ∧
    nextAnd (exec (.lcField .mgc) (living 2)) (fun t => rf t (pgSec.base + Hdr.ERR_CODE) 7 0 == 0x20) ∧
    nextAnd (exec (.lcReturn .mgc false true 0 0) (living 2)) (fun t => rf t (pgSec.base + Hdr.ERR_CODE) 7 0 == 0x21 &&
      t.sec.nonceId == powered.sec.trngDraws) ∧
    nextAnd (exec (.lcScrapped .mgc) (living 0)) (fun t => rf t (pgSec.base + Hdr.ERR_CODE) 7 0 == 0x20) ∧
    nextAnd (exec (.lcField .mgc) { living 1 with sec := { powered.sec with wiping := true } }) (fun t =>
      rf t (pgSec.base + Hdr.ERR_CODE) 7 0 == 0x23) := by
  unfold LetIn; decide +kernel

/-- Tamper_Wipe_And_Life_Cycle: a token that verifies, whatever the nonce and the identity are. -/
theorem test_return_token : (true && true && (BitVec.ofNat 32 (secNonce (living 2))).toNat == secNonce (living 2) &&
    Config.deviceIdHash (Config.trng ((living 2).fuses.uds.getD 0)) ==
      Config.deviceIdHash (Config.trng ((living 2).fuses.uds.getD 0))) = true := by
  simp [secNonce]

/-- A device in FIELD whose MCTP connection is `c`. -/
def speaks (c : Conn) : State := { living 2 with sec := { powered.sec with mctp := c, mailbox := c } }

/-- Attestation: each request in its order. -/
theorem test_attestation :
    (mgcUp (speaks Conn.fresh) = true ∧ attestRefusal (speaks Conn.fresh) = none ∧
      nextAnd (exec (.getVersion .mctp [9]) (speaks Conn.fresh)) (fun t => t.sec.mctp.version)) ∧
    nextAnd (exec (.getCapabilities .mctp [9]) (speaks { Conn.fresh with version := true })) (fun t => t.sec.mctp.caps) ∧
    nextAnd (exec (.negotiateAlgorithms .mctp [9]) (speaks { Conn.fresh with caps := true })) (fun t => t.sec.mctp.algs) ∧
    (let s := speaks { Conn.fresh with algs := true }
     nextAnd (exec (.getDigests .mctp [9]) s) (fun t => t.sent.length == 1) ∧
      nextAnd (exec (.getCertificate .mctp [9]) s) (fun t => t.sent == [.spdm .mctp 0x02 (certChain s)]) ∧
      nextAnd (exec (.challenge .mctp [9]) s) (fun t => t.sec.mctp.lastH.isSome) ∧
      nextAnd (exec (.getMeasurements .mctp [9]) s) (fun t => t.sec.mctp.lastH.isSome) ∧
      nextAnd (exec (.keyExchange .mctp [9]) s) (fun t => t.sec.mctp.handshake) ∧
      nextAnd (exec (.keyExchange .mailbox [9]) s) (fun t => t.sent == [.spdm .mailbox 0x7F [0x07]])) ∧
    nextAnd (exec (.finish .mctp [9]) (speaks { Conn.fresh with handshake := true })) (fun t => t.sec.mctp.session) ∧
    nextAnd (exec (.endSession .mctp [9]) (speaks { Conn.fresh with session := true })) (fun t => !t.sec.mctp.session) := by
  decide +kernel

/-- Attestation: requests out of order, and a device that was tampered with. -/
theorem test_attestation_refused :
    (let s := speaks Conn.fresh
     s.sec.mctp = Conn.fresh ∧ nextAnd (exec (.getCapabilities .mctp [9]) s) (fun t => t.sent == [.spdm .mctp 0x7F [0x04]]) ∧
      nextAnd (exec (.challenge .mctp [9]) s) (fun t => t.sent == [.spdm .mctp 0x7F [0x04]]) ∧
      nextAnd (exec (.finish .mctp [9]) s) (fun t => t.sent == [.spdm .mctp 0x7F [0x04]])) ∧
    (let s := rfSet (pgSec.base + Reg.SEC_TAMPER_STATUS) 31 31 1 (speaks Conn.fresh)
     (attestRefusal s).isSome = true ∧ mgcUp s = true ∧
      nextAnd (exec (.getDigests .mctp [9]) s) (fun t => t.sent == [.spdm .mctp 0x7F [0x05]]) ∧
      nextAnd (exec (.lmsSign .mctp) s) (fun t => t.sent == [.spdm .mctp 0x7F [0x05]])) := by
  decide +kernel

/-- A signed hash waits, and the LMS key is at tree t and next leaf b. -/
def signing (t b : Nat) : State :=
  let s := speaks { Conn.fresh with algs := true, lastH := some 5 }
  { s with fuses := { s.fuses with lmsTree := t + 1 }, flash := { s.flash with journal := [(t, b), (t, b)] } }

/-- Signing_And_Supervision: an ordinary leaf, and the certificate. -/
theorem test_lms_leaf :
    mgcUp (signing 3 7) = true ∧ attestRefusal (signing 3 7) = none ∧ (conn (signing 3 7) .mctp).lastH = some 5 ∧
    lmsExhausted (signing 3 7) = false ∧ 1 ≤ (signing 3 7).fuses.lmsTree ∧
    nextAnd (exec (.lmsSign .mctp) (signing 3 7)) (fun t => t.flash.journal == [(3, 8), (3, 8)]) ∧
    nextAnd (exec (.lmsCert .mctp) (signing 3 7)) (fun t => t.sent.length == 1) := by
  decide +kernel

/-- Signing_And_Supervision: the spec's example, t = 3 and b = 0x7FFF: leaf 0x1FFFF, and the next leaf is leaf 0 of tree 4. -/
theorem test_lms_tree_end :
    32768 * lmsT (signing 3 0x7FFF) + lmsNext (signing 3 0x7FFF) = 0x1FFFF ∧
    nextAnd (exec (.lmsSign .mctp) (signing 3 0x7FFF)) (fun t => t.flash.journal == [(4, 0), (4, 0)] && t.fuses.lmsTree == 5) := by
  decide +kernel

/-- Signing_And_Supervision: the exhausted key. -/
theorem test_lms_exhausted :
    lmsExhausted (signing 1023 32768) = true ∧ rf (signing 1023 32768) (pgSec.base + Hdr.ERR_CODE) 15 8 = 0 ∧
    nextAnd (exec (.lmsSign .mctp) (signing 1023 32768)) (fun t => t.sent.getLast? == some (.spdm .mctp 0x7F [0xFF])) := by
  decide +kernel

/-- An image that verifies, or not. -/
def image (good : Bool) (svn : Nat) : ImageCheck := ⟨good, true, true, true, svn, 0⟩

/-- Signing_And_Supervision: link keys and secure jobs in a session, the mailbox (its response's length is free, so only the
hypotheses are met), and the watchdog's register. -/
theorem test_sessions :
    (let s := { linked lkUp with sec := { powered.sec with mctp := { Conn.fresh with session := true } } }
     mgcUp s = true ∧ s.sec.mctp.session = true ∧ pageLive s (pgAtp 15) = true ∧
      nextAnd (exec (.linkKey 15 5 6) s) (fun t => (port t 15).keyStandby == some ⟨5, 6, 0⟩) ∧
      nextAnd (exec (.secureJob ⟨7, 1, 0, 0, 9, 0, 0, false⟩ []) s) (fun t => t.sent == [.spdm .mctp 0x7E [3, 0, 0x20, 9]])) ∧
    nextAnd (exec (.linkKey 15 5 6) (linked lkUp)) (fun t => t.sent == [.spdm .mctp 0x7F [0x04]]) ∧
    (let s := withMem 0 [1] mapped
     s.power.rails = true ∧ okAnd (physRead .mgmt true 0 16 s).1 (fun d => leNat (d.take 4) == 1) ∧ s.sec.mailSeq ≠ 1) ∧
    (LetIn .mgc pgMgc 0x100 powered ∧ nextAnd (exec (.mgcWdog .mgc 0) powered) (fun t => t.sec.wdogAt == msNow t)) := by
  unfold LetIn; decide +kernel

/-- Signing_And_Supervision: a recovery image that fails (one that verifies resets the device), and the watchdog's restarts. -/
theorem test_recovery_watchdog :
    (let s := { powered with sec := { powered.sec with recovery := true } }
     s.pins.vstby = true ∧ imageFailure s 1 (image true 0) = 0 ∧ imageFailure s 1 (image false 0) ≠ 0 ∧
      nextAnd (exec (.firmwareUpdate (image false 0)) s) (fun t => t.sec.recovery && t.evq.length == s.evq.length + 1)) ∧
    (let s := { powered with clk := { powered.clk with ticks := 12500 * 5000 } }
     mgcUp s = true ∧ s.sec.wdogAt + wdogMs s ≤ msNow s ∧
      nextAnd (exec (.watchdogRestart (image true 0)) s) (fun t => t.sec.restartCount == 1 && t.sec.wdogAt == 5000) ∧
      nextAnd (exec (.watchdogRestart (image false 0)) s) (fun t => t.sec.recovery && t.pins.fwFault) ∧
      nextAnd (exec (.watchdogRestart (image true 0)) { s with sec := { s.sec with restartCount := 2 } }) (fun t =>
        rf t mgcStatus 0 0 == 1)) := by
  decide +kernel

/-! ### Power and clocks -/

/-- The spec's grant example as a sample: BASE 1,400, refresh 40, fabric 960, host 160, engines 80% busy, patrol waiting. -/
def sample : PowerSample := ⟨1400, 40, 960, 960, 160, 160, 4, 5, true, 1000, 60, 0, 0, false⟩

/-- Power_Grants: the example's registers, with BUDGET_W 2,000, GUARD_W 50, PST_ENG 1,500 and patrol 40, and a budget. -/
theorem test_grant_period :
    (let s := rfSet (pstReg Reg.PST_BUDGET) 31 24 50 (rfSet (pstReg Reg.PST_BUDGET) 11 0 2000
        (rfSet (pstReg Reg.PST_ENG) 31 16 40 (rfSet (pstReg Reg.PST_ENG) 15 0 1500 (rfSet (pstReg (Reg.PST_PCLASS + 20)) 15 0 4400
        (regSet activeReg 0x80 { powered with power := { powered.power with pclassNow := 5 } })))))
     s.power.rails = true ∧ s.power.floorHold = false ∧
      nextAnd (exec (.grantPeriod sample) s) (fun t => t.power.wantA == 92 && t.power.wantE == 102 &&
        regGet t (pstReg Reg.PST_GRANT + 16) == 0x11301079 && regGet t (pstReg Reg.PST_GRANT + 20) == 0x04B003FC && pstBit t 3)) ∧
    nextAnd (exec (.budgetSet 5000) powered) (fun t => budgetW t == 2400) := by
  decide +kernel

/-- Clocks_And_References: slewing, ungating, throttling and its release. -/
theorem test_clocks :
    (let s := { powered with power := { powered.power with pllA := 96, pllE := 120, wantA := 92, wantE := 102 } }
     eFloor s.power.pllA ≤ s.power.pllE ∧ nextAnd (exec .slewStep s) (fun t => t.power.pllA == 95 && t.power.pllE == 119)) ∧
    nextAnd (exec .rowUngate { powered with power := { powered.power with rowsOn := 31 } }) (fun t => t.power.rowsOn == 32) ∧
    (powered.pins.throttleLow = false ∧ singlePll powered 0 = false ∧ singlePll powered 1 = false ∧
      nextAnd (exec .throttleN powered) (fun t => t.pins.throttleLow && pstBit t 0 && onStandby t 0 &&
        nextAnd (exec .throttleRelease t) (fun u => !pstBit u 0))) := by
  decide +kernel

/-- Clocks_And_References: a reference becomes stable, is lost, and a PLL fails. -/
theorem test_references :
    (let s := rfSet ((pgClk 0).base + Reg.CLK_REF_SEL) 7 0 3 { powered with power := { powered.power with refOk := [7, 7, 0, 0] } }
     rf s (clkStatus 0) 2 0 = 0 ∧ inRange (some (-200)) = true ∧ rf s ((pgClk 0).base + Reg.CLK_REF_SEL) 7 0 ≠ 0xFF ∧
      nextAnd (exec (.refCheck 0 ⟨some (-200), none⟩) s) (fun t => rf t (clkStatus 0) 2 0 == 2) ∧
      inRange none = false ∧ nextAnd (exec (.refCheck 0 ⟨none, some 200⟩) s) (fun t => rf t (clkStatus 0) 2 0 == 1)) ∧
    (let s := rfSet (clkStatus 0) 2 0 1 powered
     rf s (clkStatus 0) 2 0 = 1 ∧ nextAnd (exec (.refLost 0 1) s) (fun t => rf t (clkStatus 0) 2 0 == 0 && t.power.floorHold)) ∧
    (let s := pllBitSet 0 0 0 true powered
     pllBit s 0 0 2 = false ∧ pllBit s 0 0 1 = false ∧ pllBit s 0 0 0 = true ∧
      nextAnd (exec (.pllFailed 0 .aclk true) s) (fun t => pllBit t 0 0 2 && !pllBit t 0 0 0 && t.power.pllA == 24)) ∧
    pllBit (pllBitSet 0 0 1 true powered) 0 0 1 = true := by
  decide +kernel

/-- Power_Sequence: the hypotheses of the losses, and each step of the power-up that keeps memory. -/
theorem test_power_sequence :
    (powered.power.rails = true ∧ powered.pins.pwrEn = true ∧ powered.pins.vmain = true ∧ powered.pins.vstby = true ∧
      { powered.pins with vstby := false }.vstby = false) ∧
    (let s := { powered with power := { powered.power with rails := false, step := 0 } }
     s.pins.tripLatched = false ∧ s.fuses.lifecycle ≠ 4 ∧
      nextAnd (exec .pwrEnRise s) (fun t => t.power.step == 1 && t.pins.pwrEn)) ∧
    (let r : StepResult := ⟨false, true, [], [image true 0, image true 0, image true 0, image true 0],
        [image true 0, image true 0, image true 0, image true 0], true, []⟩
     let s (k : Nat) : State := { powered with power := { powered.power with step := k } }
     nextAnd (exec (.powerUpStepDone r) (s 1)) (fun t => t.power.step == 2) ∧
      supplied (s 0) = true ∧ nextAnd (exec (.powerUpStepDone r) (s 0)) (fun t => t.power.step == 2) ∧
      nextAnd (exec (.powerUpStepDone r) (s 2)) (fun t => t.power.step == 3 && t.pins.pwrGood && t.power.rowsOn == 0) ∧
      nextAnd (exec (.powerUpStepDone r) (s 3)) (fun t => t.power.step == 4) ∧
      nextAnd (exec (.powerUpStepDone r) (s 4)) (fun t => t.power.step == 5) ∧
      nextAnd (exec (.powerUpStepDone r) (s 5)) (fun t => t.power.step == 6) ∧
      nextAnd (exec (.powerUpStepDone r) (s 6)) (fun t => t.power.step == 7) ∧
      nextAnd (exec (.powerUpStepDone r) (s 7)) (fun t => t.power.step == 8 && t.pins.ready)) := by
  decide +kernel

/-- Power_Sequence: step 0 with a firmware image that verifies and without one. -/
theorem test_standby :
    (let s := { powered with power := { powered.power with standbyUp := false, step := 0 } }
     let r (b : Bool) : StepResult := ⟨true, true, [], [image b 0, image b 0, image b 0, image b 0], [image b 0, image b 0, image b 0, image b 0], false, []⟩
     s.sec.recovery = false ∧ s.fuses.lifecycle ≠ 4 ∧ (verifyClass 1 (r false) s).1 = none ∧ (verifyClass 1 (r true) s).1 ≠ none ∧
      nextAnd (exec (.powerUpStepDone (r false)) s) (fun t => t.sec.recovery && t.pins.fwFault) ∧
      nextAnd (exec (.powerUpStepDone (r true)) s) (fun t => t.power.standbyUp)) := by
  decide +kernel

/-! ### The Event Recorder and the counters -/

/-- An event of the Health subsystem, secure, and its record as number 0. -/
def event : Event := ⟨0x0B00, 0x0B01, true, 77⟩
def record (mir : Bool) : EvRec := ⟨0, 3, 0, 0x0B00, 0x0B01, event.sevWorld, 0, 0, 77, mir⟩

/-- One record in RAM, at time `ms`. -/
def recorded (ms : Nat) : State :=
  { powered with evr := { powered.evr with ram := [(0, record false)], head := 1, opMs := ms }, evq := [event] }

/-- Event_Records: a new record, a repetition, and the mirror before and after its 60 s. -/
theorem test_records :
    (let s := { powered with evq := [event] }
     s.evq = [event] ∧ s.pins.vstby = true ∧ newestRec s = none ∧ s.evr.head + 1 < 2 ^ 40 ∧
      nextAnd (exec (.eventRecord 1) s) (fun t => t.evr.head == 1 && (tget? t.evr.ram 0).map (·.payload) == some 77)) ∧
    (newestRec (recorded 9) = some (record false) ∧ mergesInto (record false) event = true ∧
      nextAnd (exec (.eventRecord 1) (recorded 9)) (fun t => t.evr.head == 1 && (tget? t.evr.ram 0).map (fun r => (r.repeat_, r.lastDelta)) == some (1, 6))) ∧
    ((recorded 9).evr.lostN = 0 ∧ oldestOpen (recorded 9) = some (record false) ∧ nextIs (exec (.mirror false) (recorded 9)) (recorded 9) ∧
      nextAnd (exec (.mirror false) (recorded 60003)) (fun t => tget? t.flash.mirror 0 == some (record true))) := by
  decide +kernel

/-- Event_Records: OP_MS, a clear with and without its key, and the end of the erase. -/
theorem test_clear :
    ((recorded 9).flash.opMsSlots.length = 2 ∧
      nextAnd (exec .opMsPersist (recorded 9)) (fun t => t.flash.opMsSlots.contains (some 9))) ∧
    (LetIn .mgc pgEvr Reg.EVR_CLEAR (recorded 9) ∧ (recorded 9).evr.head + 1 < 2 ^ 40 ∧
      nextAnd (exec (.evrClear (.master .mgc) 0xC1EA) (recorded 9)) (fun t => t.evr.ram.map (fun e => (e.1, e.2.code)) == [(1, 0x0C01)] && t.evr.tail == 1) ∧
      nextIs (exec (.evrClear (.master .mgc) 0xC1EB) (recorded 9)) (recorded 9) ∧ mgcUp (recorded 9) = true ∧
      nextAnd (exec (.evrClear .bmc 0xC1EA) (recorded 9)) (fun t => t.evr.ram.map (fun e => e.2.payload / 2 ^ 40) == [2])) ∧
    nextAnd (exec .eraseDone (rfSet evrStatus 0 0 1 powered)) (fun t => rf t evrStatus 0 0 == 0) := by
  unfold LetIn; decide +kernel

/-- Secure_Payload_Is_Hidden and Reads_Counters_And_Snapshots: a secure record in RAM and in the mirror, read by the host and by the
Management Controller. -/
theorem test_secure_payload :
    (let s := recorded 9
     LetIn (.host 3) pgEvr Reg.EVR_REC s ∧ tget? s.evr.ram (fld (view s (.host 3)).rsel 39 0 % 16384) = some (record false) ∧
      bit (view s (.host 3)).rsel 63 = false ∧ nbit (record false).sevWorld 7 = true ∧ selectedRec s (view s .mgc).rsel = some (record false) ∧
      nextAnd (exec (.rec0Read (.host 3)) s) (fun t => (view t (.host 3)).latched.length == 4 && lget (view t (.host 3)).latched 3 0 == 0) ∧
      LetIn .mgc pgEvr Reg.EVR_REC s ∧ nextAnd (exec (.rec0Read .mgc) s) (fun t => lget (view t .mgc).latched 3 0 == 77)) ∧
    (let s := viewMod (.host 3) (fun v => { v with rsel := 1 <<< 63 }) { recorded 9 with flash := { powered.flash with mirror := [(0, record true)] } }
     bit (view s (.host 3)).rsel 63 = true ∧ tget? s.flash.mirror (fld (view s (.host 3)).rsel 39 0) = some (record true) ∧
      nextAnd (exec (.rec0Read (.host 3)) s) (fun t => lget (view t (.host 3)).latched 3 0 == 0)) := by
  unfold LetIn; decide +kernel

/-- A snapshot ring of 4,096 bytes at 0x10000 and one page to dump. -/
def ring : State :=
  rfSet (pgAcon.base + Hdr.CNT_CTRL + 4) 2 2 1 (reg64Set (pgCde.base + Reg.CDE_RING_PA) 0x10000
    (regSet (pgCde.base + Reg.CDE_RING_SIZE) 4096 (regSet (pgCde.base + Reg.CDE_CONFIG) 1 (onPages [pgCde] mapped))))

/-- Reads_Counters_And_Snapshots: samples, CLEAR, and snapshots that fit and that do not. -/
theorem test_snapshots :
    (LetIn .mgc pgCde Reg.CDE_SAMPLE powered ∧ nextAnd (exec (.sample0Read .mgc) powered) (fun t => t.sent.length == 1)) ∧
    (let s := reg64Set (pgAcon.base + Hdr.CNT + 56) 9 powered
     pageBase (pg pgAcon) = pgAcon.base ∧ LetIn .mgc pgAcon (Hdr.CNT_CTRL + 4) s ∧
      nextAnd (exec (.cntClear .mgc (pg pgAcon)) s) (fun t => reg64 t (pgAcon.base + Hdr.CNT + 56) == 0)) ∧
    (isOn ring pgCde = true ∧ LetIn .mgc pgCde Reg.CDE_CMD ring ∧ dumpPages ring = [pgAcon] ∧ pageLive ring pgAcon = true ∧
      okAnd (ringWrite 0x10000 4096 0 [List.replicate 64 0, dumpRecord ring pgAcon] ring).1 (fun _ => true) ∧
      nextAnd (exec (.snap .mgc) ring) (fun t => regGet t (pgCde.base + Reg.CDE_RING_WR) == 128 && memGetBytes t.mem 0x10000 2 == [0x10, 0x0C]) ∧
      nextAnd (exec .snapshot ring) (fun t => regGet t (pgCde.base + Reg.CDE_SNAP_SEQ) == 1)) ∧
    (let s := regSet (pgCde.base + Reg.CDE_RING_RD) 128 (regSet (pgCde.base + Reg.CDE_RING_WR) 64 ring)
     4096 < (64 + 4096 - 128) % 4096 + 128 ∧
      nextAnd (exec .snapshot s) (fun t => rf t (pgCde.base + Reg.CDE_SKIPPED) 31 0 == 1)) := by
  unfold LetIn; decide +kernel

end Sys2Proof.Tests
end

