-- ==== Sys2Proof/Tests/Stays.lean ====
section
/-! SUPPORT. More witnesses for the statements of Obligations.lean, family by family: the states in which a command waits, is refused
or changes nothing, and the further forms of some commands. -/

namespace Sys2Proof.Tests

set_option Elab.async false

open Sys2Proof Sys2Proof.Machine

/-- Each command leaves its state as it is. -/
def stay (l : List (Instr × State)) : Bool := l.all (fun x => nextIs (exec x.1 x.2) x.2)

/-- Context_Commands: START while XLAT is not ON, and of a context that runs; RESUME of a header, a load and a switch that failed. -/
theorem test_context_more :
    (let s := rfSet (pgXlat.base + Hdr.STATE) 1 0 0 endOnly
     acState s 0 = stIdle ∧ xlatOn s = false ∧ nextAnd (exec (.start .mgc 0) s) (fun t => (actx t 0).due)) ∧
    (let s := runs 0 1 endOnly
     acState s 0 ≠ stIdle ∧ nextAnd (exec (.start .mgc 0) s) (fun t => rf t (pgAcon.base + Hdr.ERR_CODE) 7 0 == 0x28)) ∧
    (let s (k : HaltKind) := actxMod 0 (fun a => { a with haltKind := k, win := some (window .opened []) }) (acStateSet 0 stHalted endOnly)
     acState (s .load) 0 = stHalted ∧ okAnd (checkHeader 0 (s .header)).1 (fun h => h == ⟨1, 0, 0, 0⟩) ∧
      nextAnd (exec (.resume .mgc 0) (s .load)) (fun t => acState t 0 == stReady && (actx t 0).win.isNone) ∧
      nextAnd (exec (.resume .mgc 0) (s .header)) (fun t => acState t 0 == stReady) ∧
      nextAnd (exec (.resume .mgc 0) (s .switchCopy)) (fun t => acState t 0 == stReady && rf t (statusReg 0) 8 8 == 1)) := by
  decide +kernel

/-- Array_Is_Granted_And_Switched: the array goes to a context that was switched out, and to one whose RESUME replays a window. -/
theorem test_grant_more :
    (let s := rfSet (statusReg 0) 8 8 1 (acStateSet 0 stReady endOnly)
     bestReady s = some 0 ∧ rf s (statusReg 0) 8 8 = 1 ∧
      nextAnd (exec .arrayGrant s) (fun t => running t == some 0 && rf t (statusReg 0) 8 8 == 0 && (actx t 0).resumed)) ∧
    (let s := actxMod 0 (fun a => { a with haltKind := .window, win := some (window .halted [⟨1, 0, none, none, none⟩]) })
        (acStateSet 0 stReady endOnly)
     bestReady s = some 0 ∧
      nextAnd (exec .arrayGrant s) (fun t => (actx t 0).win.map (fun v => (v.phase, v.restores)) == some (.loaded, true))) := by
  decide +kernel

/-- Window_Comes_In: an implicit SAVE of a carried bank. -/
theorem test_carry_save :
    (let w := { window .loaded [] with carry := 1 }
     let s := withWin w winProg
     carried w = [0] ∧ nextAnd (exec .carrySlot s) (fun t => (actx t 0).win.map (·.phase) == some .gate &&
        t.array.nextJob == s.array.nextJob + 1)) := by
  decide +kernel

/-- Window_Ends_And_Replays: an audited window's second pass. -/
theorem test_second_pass :
    (let w := { window .running [] with audited := true, all := [⟨1, 0, none, none, none⟩] }
     let s := withWin w winProg
     okAnd (secondPrologue 0 w 4096 s) (fun r => r.1 == 4096) ∧
      nextAnd (exec .windowEnd s) (fun t => (actx t 0).win.map (fun v => (v.second, v.instrs.length)) == some (true, 1))) := by
  decide +kernel

/-- Control_Instructions, Window_Ends_And_Replays: a VSEL waits at its gate, which is no boundary, and times out. -/
theorem test_vsel_waits :
    (let s := rfSet (pgAcon.base + Reg.ACON_CONFIG) 31 16 1 (actxMod 0 (fun a => { a with vtabCount := 2, vtabOff := 0x800 })
        (atCtl (ins 0x09 0 (0x20000 <<< 72 + 1 <<< 63 + 5 <<< 58))))
     atControl s = some 0 ∧ gateCtr s 0 5 = 0 ∧
      nextAnd (exec .vsel s) (fun t => (actx t 0).vgate.isSome && !atBoundary t 0 &&
        nextAnd (exec .tokenTimeout t) (fun u => acState u 0 == stHalted && regGet u (acReg 0 Reg.ACON_CTX_HALT_INFO0) == 5))) := by
  decide +kernel

/-- Window_Ends_And_Replays: signals that a slip withheld. -/
theorem test_withheld :
    (let e : EndedWin := ⟨1, [⟨3, 0, 0, 5, 1, 0, 0, [], []⟩], { window .running [] with withheld := true }⟩
     let s := actxMod 0 (fun a => { a with ended := [e] }) winProg
     nextAnd (exec .signalDelivery s) (fun t => t.flying == [] && (actx t 0).ended == []) = true) := by
  decide +kernel

/-- Cseq_Slots_Replay_And_Switch, Engine_Commands_Issue: VARJ at a full mailbox, the replay of a RESUME, and a switch onto a stream
that RESUME left RUNNING, HELD and IDLE; an _M command whose rows waited for XLAT. -/
theorem test_cseq_more :
    (let s := cctxMod 0 0 (fun k => { k with vtab := [(9, 3)] }) (mailboxPut 0 0 9 (atSlot (3 <<< 120)))
     (boundary s 0).map (fun b => b.2.1.testing) = some none ∧ rf s (csReg 0 0 Reg.CSEQ_CTX_STATUS) 23 23 = 1 ∧
      nextAnd (exec (.varj 0) s) (fun t => (cctx t 0 0).pc == 3 && csState t 0 0 == 1)) ∧
    (let p := phaseWith [slot (2 <<< 120)]
     let s := streams 1 { CseqCtx.fresh with slotCount := 8, phase := some { p with todo := [] }, resumeDue := true }
     nextAnd (exec (.cseqReplay 0) s) (fun t => (cctx t 0 0).phase == some p && rf t (csReg 0 0 Reg.CSEQ_CTX_STATUS) 7 4 == 0) = true) ∧
    (let s (st : Nat) := regSet activeReg 0x81 (csStateSet 0 1 st (atSlot wait5))
     canLeave (s 1) 0 0 = true ∧
      nextAnd (exec (.cseqSwitch 0) (s 1)) (fun t => csActive t 0 == some 1 && csState t 0 1 == 1) ∧
      nextAnd (exec (.cseqSwitch 0) (s 4)) (fun t => csActive t 0 == some 1 && csState t 0 1 == 4) ∧
      nextAnd (exec (.cseqSwitch 0) (s 0)) (fun t => csActive t 0 == none)) := by
  decide +kernel

/-- Scale_Keeper_Entries, Memory_Access, Memory_Health: a revoked record; accesses that a wipe holds, of the Vault, of a register page
and of a cluster; GO for a Green group; a scrub that is let be; the evacuation that the Management Controller asks for. -/
theorem test_memory_more :
    (let s := { keeper with statq := keeper.statq.map (fun m => { m with revoked := true }) }
     nextAnd (exec (.statsAbsorb 0) s) (fun t => t.skeep == s.skeep && t.statq == []) = true) ∧
    (let s := { mapped with sec := { mapped.sec with wiping := true } }
     (s.sec.wiping && isSecureMem s vaultBase) = true ∧ decodePa s vaultBase = .vault ∧
      nextAnd (exec (.memoryRead .mgmt true (BitVec.ofNat 48 vaultBase) clean) s) (fun t => t.sec.held.length == 1 && t.sent == [])) ∧
    nextAnd (exec (.memoryRead .mgmt true (BitVec.ofNat 48 vaultBase) clean) mapped) (fun t => t.sent.length == 1) ∧
    (decodePa mapped (cmemPa 3 0) = .cmem 3 0 ∧
      nextAnd (exec (.memoryWrite .onDie false (BitVec.ofNat 48 (cmemPa 3 0)) [9] clean) mapped) (fun t => cmemGetRaw t 3 0 1 == [9])) ∧
    nextAnd (exec (.memoryRead .mgmt true (pg pgAcon) clean) mapped) (fun t => t.sent == [.memError pgAcon.base 8]) ∧
    (let s := onPages [pgCgm 31, pgMemc 0, pgMemc 1] powered
     groupColour s 31 ≠ 2 ∧ nextAnd (exec (.go .mgc 0 31) s) (fun t => memTop t == memTop s && !evacBusy t)) ∧
    stay [(.scrubRead 31 clean, rfSet ((pgCgm 31).base + Reg.CGM_STATE) 1 0 3 (onPages [pgCgm 31] powered))] = true := by
  unfold vaultBase; decide +kernel

/-- Translation_And_Regions, the Movers: what is cached is not walked; a walk that finds a fault caches nothing; streams that take no
command; a Mover with a chunk in flight. -/
theorem test_movers_more :
    (tlbHit mapped 0 0x1000).isSome = true ∧
    nextAnd (exec (.pageWalk 0 0x200000 false false) tables) (fun t => t.xlat == tables.xlat) ∧
    nextAnd (exec (.moverStart .mgc 63) (stream { Stream.fresh with state := .running } powered)) (fun t =>
      (strm t 16383).state == .running) ∧
    nextAnd (exec (.moverResume .mgc 63) (stream Stream.fresh powered)) (fun t => (strm t 16383).state == .idle) ∧
    stay [(.pageWalk 0 0x1000 false false, mapped),
      (.moverReassign 63 71, stream { Stream.fresh with state := .running, chunks := [⟨16383, 0, 0, none, none, []⟩] } powered)] = true := by
  decide +kernel

/-- The fabric and the exchange: links, tags and requests that wait or change nothing. -/
theorem test_fabric_more :
    stay [(.lossOfSignal 15, linked lkDown), (.trainingRetry 15, linked lkUp), (.portUp 15 9 8 false, linked lkUp),
      (.packetTransmit 15, linked lkUp), (.laneFailed 15 ⟨2, 0, false⟩, linked lkUp),
      (.nak 15 ⟨9, good⟩, linked lkUp), (.query 15, linked lkUp), (.answer 15, linked lkUp),
      (.ringTimeout 7, exchange xIdle follows), (.quietExpiry 7, exchange xIdle follows), (.queryInterval 7, exchange xIdle follows),
      (.xseqWaitTimeout 7 none, exchange xIdle follows),
      (.send 7 0, exchange xExchange { follows with ops := [sendOp], st := [(0, { OpState.fresh with completed := true })] }),
      (.recv 7 0, exchange xExchange { follows with ops := [recvOp], st := [(0, { OpState.fresh with granted := true })] }),
      (.sendConfirm 7 0, exchange xExchange { follows with ops := [sendOp] })] = true ∧
    (let s := rfSet (pgXlat.base + Hdr.STATE) 1 0 0 (portMod 15 (fun x => { x with
        rx := [⟨.req, packet 0 1 511 (leBytes 8 0x50000), false, false⟩] }) (linked lkUp))
     xlatOn s = false ∧ stay [(.rd 15, s)] = true) ∧
    nextAnd (exec (.xseqRollback .mgc 7) (exchange xIdle follows)) (fun t => rf t ((pgXseq 0).base + Hdr.ERR_CODE) 7 0 == 0x24) ∧
    nextAnd (exec (.xseqCommit .mgc 7) (exchange xIdle follows)) (fun t => rf t ((pgXseq 0).base + Hdr.ERR_CODE) 7 0 == 0x24) ∧
    (let s := rfSet (pgXlat.base + Hdr.STATE) 1 0 0 (exchange xReadySent follows)
     nextAnd (exec (.xseqCommit .mgc 7) s) (fun t => (xc t 7).due == some .flip) = true) := by
  decide +kernel

/-- The host attachment: a port that is not UP takes nothing, a pair that is not ready either; health: what is not due stays. -/
theorem test_host_health_more :
    stay [(.arpRequest 1 0 9, eth 0), (.neighbourSolicitation 1 0 9, eth 0), (.echoRequest 1 true 0 9 [], eth 0), (.otherFrame 1, eth 0),
      (.ethernetLinkDown 1, eth 0), (.linkReturn 1 2, eth 2), (.cmReq 1 ⟨7, 1, 99, 2⟩, eth 0), (.cmRtu 1023, withQp id),
      (.cmDreq 1023, eth 2), (.rdmaWrite 1023 5 0x500 0 false [] [1], eth 2), (.nop 1023 (msg 7 0) [], eth 2),
      (.ccPeriod 1023, eth 2), (.ackTimeout 1023, withQp id),
      (.patrolRound 1023 true, powered), (.patrolLate 1023, patrols), (.lanePatrol 1023 67 false, powered), (.cmemPatrolRead 1023, powered),
      (.suspectRerun 1023 (.core 323) [true], patrols), (.lineRepair 1023 5 9, patrols), (.bankCopy 1023 true 0, patrols),
      (.healthDatagram, { patrols with power := { patrols.power with standbyUp := false } })] = true ∧
    (let s := cluMod 0 (fun k => { k with suspects := [.injector] }) patrols
     nextAnd (exec (.suspectRerun 0 .injector [false, false, false]) s) (fun t => (clu t 0).bandDue) = true) := by
  decide +kernel

end Sys2Proof.Tests
end

section
/-! PROOFS. O7: writes to locked fields. First what an error record leaves alone, then what a write of a word with locked
fields does. -/

namespace Sys2Proof.Machine

/-! ### Words that an error record leaves alone (R51, R377, R482) -/

/-- Not a word that recording an error of page `p` may write: its IRQ_STATUS to ERR_INFO1, its CNT_CTRL and counters, and the
queue registers of the contexts. -/
def ErrorLeaves (p : Page) (a : Nat) : Prop :=
  (a < p.base + Hdr.IRQ_STATUS ∨ (p.base + Hdr.LOCK ≤ a ∧ a < p.base + Hdr.CNT_CTRL) ∨ p.base + Hdr.EVSEL ≤ a) ∧
    ∀ c, c < 8 → a ≠ queueReg c

theorem regGet_foldl {β : Type} (l : List β) (f : State → β → State) (a : Nat)
    (h : ∀ s, ∀ x ∈ l, regGet (f s x) a = regGet s a) (s : State) : regGet (l.foldl f s) a = regGet s a := by
  induction l generalizing s with
  | nil => rfl
  | cons x l ih =>
    rw [List.foldl_cons, ih (fun s y hy => h s y (List.mem_cons_of_mem x hy)), h s x List.mem_cons_self]

theorem regGet_rfSet_ne (s : State) {a b : Nat} (hi lo x : Nat) (h : b ≠ a) : regGet (rfSet a hi lo x s) b = regGet s b :=
  regGet_regSet_ne s _ h

theorem regGet_reg64Set_ne (s : State) {a b : Nat} (v : Nat) (h : b ≠ a) (h4 : b ≠ a + 4) :
    regGet (reg64Set a v s) b = regGet s b := by
  rw [reg64Set, regGet_regSet_ne _ _ h4, regGet_regSet_ne _ _ h]

@[simp] theorem regGet_output (o : Sent) (s : State) (a : Nat) : regGet (output o s) a = regGet s a := rfl

@[simp] theorem regGet_emit (p : Page) (ev payload : Nat) (s : State) (a : Nat) :
    regGet (emit p ev payload s) a = regGet s a := rfl

@[simp] theorem regGet_sendOn (q len : Nat) (o : Sent) (s : State) (a : Nat) :
    regGet (sendOn q len o s) a = regGet s a := by
  simp only [sendOn, portSend]
  split
  · rfl
  · split <;> rfl

@[simp] theorem regGet_flushQueue (c : Nat) (s : State) (a : Nat) : regGet (flushQueue c s) a = regGet s a := by
  unfold flushQueue
  split
  · rfl
  · refine regGet_foldl _ _ a (fun s x _ => ?_) s
    exact regGet_sendOn _ _ _ _ a

theorem regGet_postQueue (c type kind : Nat) (body : List Byte) (s : State) {a : Nat} (h : a ≠ queueReg c) :
    regGet (postQueue c type kind body s) a = regGet s a := by
  simp only [postQueue]
  split
  · rfl
  · split
    · exact regGet_rfSet_ne s _ _ _ h
    · exact regGet_flushQueue c _ a

/-- An interrupt goes to one of the eight contexts. -/
theorem irqCtx_lt (s : State) (p : Page) (bit : Nat) : irqCtx s p bit < 8 := by
  simp only [irqCtx]
  split
  · exact Nat.mod_lt _ (by decide)
  · split
    · exact nfld_lt _ 2 0
    · decide

theorem regGet_deliverIrq (p : Page) (bits : Nat) (s : State) {a : Nat} (h : ∀ c, c < 8 → a ≠ queueReg c) :
    regGet (deliverIrq p bits s) a = regGet s a := by
  simp only [deliverIrq]
  split
  · rfl
  · split
    · rfl
    · refine regGet_foldl _ _ a (fun s c hc => regGet_postQueue c _ _ _ s (h c ?_)) _
      obtain ⟨bit, -, rfl⟩ := List.mem_map.mp (List.mem_eraseDups.mp hc)
      exact irqCtx_lt _ p bit

theorem regGet_setIrq {p : Page} {a : Nat} (h : ErrorLeaves p a) (mask : Nat) (s : State) :
    regGet (setIrq p mask s) a = regGet s a := by
  obtain ⟨hp, hq⟩ := h
  rw [setIrq, regGet_deliverIrq p _ _ hq, regGet_regSet_ne _ _ (by simp only [Hdr.IRQ_STATUS, Hdr.LOCK, Hdr.EVSEL] at *; omega)]

theorem regGet_cntAdd {p : Page} {a : Nat} (h : ErrorLeaves p a) (n fuel : Nat) {i : Nat} (hi : i < 8) (s : State) :
    regGet (cntAdd p n fuel i s) a = regGet s a := by
  have hp := h.1
  simp only [Hdr.IRQ_STATUS, Hdr.LOCK, Hdr.CNT_CTRL, Hdr.EVSEL] at hp
  induction fuel generalizing n i s with
  | zero => rfl
  | succ fuel ih =>
    have hcnt (v : Nat) : regGet (reg64Set (p.base + Hdr.CNT + 8 * i) v s) a = regGet s a :=
      regGet_reg64Set_ne s v (by simp only [Hdr.CNT]; omega) (by simp only [Hdr.CNT]; omega)
    have hctl (b x : Nat) (s : State) : regGet (rfSet (p.base + Hdr.CNT_CTRL) b b x s) a = regGet s a :=
      regGet_rfSet_ne s _ _ _ (by simp only [Hdr.CNT_CTRL]; omega)
    simp only [cntAdd]
    split
    · exact hcnt _
    · split
      · next hchain =>
        simp only [Bool.and_eq_true, decide_eq_true_eq] at hchain
        rw [ih _ (by omega), hctl, hcnt]
      · rw [hctl, hcnt]

theorem regGet_tally {p : Page} {a : Nat} (h : ErrorLeaves p a) (ev n : Nat) (x : Attrs) (s : State) :
    regGet (tally p ev n x s) a = regGet s a := by
  simp only [tally]
  split
  · rfl
  · refine regGet_foldl _ _ a (fun s i hi => ?_) s
    split
    · exact regGet_cntAdd h _ _ (List.mem_range.mp hi) s
    · rfl

theorem regGet_recordError {p : Page} {a : Nat} (h : ErrorLeaves p a) (reason info0 info1 : Nat) (s : State) :
    regGet (recordError p reason info0 info1 s) a = regGet s a := by
  have hp := h.1
  simp only [Hdr.IRQ_STATUS, Hdr.LOCK, Hdr.CNT_CTRL, Hdr.EVSEL] at hp
  have hcode : a ≠ p.base + Hdr.ERR_CODE := by simp only [Hdr.ERR_CODE]; omega
  have hinfo0 : a ≠ p.base + Hdr.ERR_INFO0 := by simp only [Hdr.ERR_INFO0]; omega
  have hinfo1 : a ≠ p.base + Hdr.ERR_INFO1 := by simp only [Hdr.ERR_INFO1]; omega
  simp only [recordError]
  split <;> split <;>
    simp only [regGet_tally h, regGet_setIrq h, regGet_rfSet_ne _ _ _ _ hcode, regGet_regSet_ne _ _ hinfo0,
      regGet_regSet_ne _ _ hinfo1]

theorem regGet_refuseAccess {p : Page} {a : Nat} (h : ErrorLeaves p a) (m : Sys2Proof.Master) (pa : Nat) (write : Bool)
    (s : State) : regGet (refuseAccess p m pa write s) a = regGet s a := by
  rw [refuseAccess, regGet_emit, regGet_recordError h]

/-! ### Storing a word of a locked page (R12) -/

/-- What a write does to one field: nothing, or it sets the field, and never an RWL field of a locked page. -/
theorem fieldWrite_cases (m : Sys2Proof.Master) (lck : Bool) (old v w : Nat) (r : FieldRow) :
    fieldWrite m lck old v w r = w ∨
      ((lck = true → r.acc ≠ .rwl) ∧ ∃ x, fieldWrite m lck old v w r = nset w r.hi r.lo x) := by
  obtain ⟨off, count, stride, ctx, hi, lo, acc, reset⟩ := r
  cases acc
  case ro | wo | woS => exact .inl rfl
  case rw | w1c | w1s => exact .inr ⟨fun _ => nofun, _, rfl⟩
  case rwl =>
    cases lck
    · exact .inr ⟨nofun, _, rfl⟩
    · exact .inl rfl
  case rws =>
    by_cases h : Master.secure m = true
    · exact .inr ⟨fun _ => nofun, _, if_pos h⟩
    · exact .inl (if_neg h)
  case rwsH =>
    by_cases h : m = .hlth
    · exact .inr ⟨fun _ => nofun, _, if_pos h⟩
    · exact .inl (if_neg h)

/-- The rows of a word lie within 32 bits, and its RWL fields share no bit with its other fields. -/
def RowsApart (rows : List FieldRow) : Prop :=
  ∀ r ∈ rows, r.lo ≤ r.hi ∧ r.hi < 32 ∧ ∀ q ∈ rows, r.acc = .rwl → q.acc ≠ .rwl → r.hi < q.lo ∨ q.hi < r.lo

/-- Writing fields of a locked page gives a 32-bit word whose RWL fields are those of the word before. -/
theorem foldl_fieldWrite_locked {rows : List FieldRow} (hap : RowsApart rows) {r : FieldRow} (hr : r ∈ rows)
    (hacc : r.acc = .rwl) (m : Sys2Proof.Master) (old v : Nat) (l : List FieldRow) (hl : ∀ q ∈ l, q ∈ rows) (w : Nat)
    (hw : w < 2 ^ 32) :
    l.foldl (fieldWrite m true old v) w < 2 ^ 32 ∧
      nfld (l.foldl (fieldWrite m true old v) w) r.hi r.lo = nfld w r.hi r.lo := by
  induction l generalizing w with
  | nil => exact ⟨hw, rfl⟩
  | cons q l ih =>
    have hq := hl q List.mem_cons_self
    have hstep : fieldWrite m true old v w q < 2 ^ 32 ∧ nfld (fieldWrite m true old v w q) r.hi r.lo = nfld w r.hi r.lo := by
      obtain h | ⟨hne, x, h⟩ := fieldWrite_cases m true old v w q
      · rw [h]; exact ⟨hw, rfl⟩
      · obtain ⟨hqlo, hqhi, -⟩ := hap q hq
        rw [h]
        refine ⟨nset_lt _ _ _ _ _ hqlo hqhi hw, ?_⟩
        obtain hd | hd := (hap r hr).2.2 q hq hacc (hne rfl)
        · exact nfld_nset_below _ _ _ _ _ _ hqlo hd
        · exact nfld_nset_above _ _ _ _ _ _ hqlo hd
    obtain ⟨h1, h2⟩ := ih (fun q hq => hl q (List.mem_cons_of_mem _ hq)) _ hstep.1
    exact ⟨h1, h2.trans hstep.2⟩

theorem mem_fieldsAt_of_mem_writable {p : Page} {off : Nat} {r : FieldRow} (h : r ∈ writable p off) :
    r ∈ fieldsAt p.type off := by
  unfold writable at h
  split at h
  · cases h
  · exact h

/-- A store to a word of a locked page keeps its RWL fields, read at any address. -/
theorem rf_wordStore_locked {p : Page} {off : Nat} {s : State} (hl : locked s p = true) (hap : RowsApart (fieldsAt p.type off))
    {r : FieldRow} (hr : r ∈ fieldsAt p.type off) (hacc : r.acc = .rwl) (m : Sys2Proof.Master) (v a : Nat) :
    rf (wordStore m p off v s) a r.hi r.lo = rf s a r.hi r.lo := by
  simp only [wordStore, hl]
  by_cases ha : a = (canon p off).base + off
  · obtain ⟨hlt, hfld⟩ := foldl_fieldWrite_locked hap hr hacc m (regGet s a).toNat v (writable p off)
      (fun _ => mem_fieldsAt_of_mem_writable) _ (regGet s a).isLt
    rw [← ha, rf_regSet_same, fld, BitVec.toNat_ofNat, Nat.mod_eq_of_lt hlt, hfld]
    rfl
  · exact rf_regSet_ne s _ _ _ ha

/-- Storing the word that is there changes no word. -/
theorem regGet_regSet_self (s : State) (a b : Nat) : regGet (regSet a (regGet s a) s) b = regGet s b := by
  by_cases h : b = a
  · rw [h, regGet_regSet_same]
  · exact regGet_regSet_ne s _ h

/-- A store to a word of a locked page that holds only RWL fields changes no register. -/
theorem regGet_wordStore_locked {p : Page} {off : Nat} {s : State} (hl : locked s p = true)
    (hall : ∀ r ∈ fieldsAt p.type off, r.acc = .rwl) (m : Sys2Proof.Master) (v a : Nat) :
    regGet (wordStore m p off v s) a = regGet s a := by
  have hfold (l : List FieldRow) (hacc : ∀ r ∈ l, r.acc = .rwl) (old w : Nat) : l.foldl (fieldWrite m true old v) w = w := by
    induction l with
    | nil => rfl
    | cons r l ih =>
      have hr : fieldWrite m true old v w r = w := by simp [fieldWrite, hacc r List.mem_cons_self]
      rw [List.foldl_cons, hr, ih (fun r hr => hacc r (List.mem_cons_of_mem _ hr))]
  simp only [wordStore, hl]
  rw [hfold _ (fun r hr => hall r (mem_fieldsAt_of_mem_writable hr)), BitVec.ofNat_toNat, BitVec.setWidth_eq,
    regGet_regSet_self]

/-! ### Words whose write is a plain store -/

/-- Block-specific words whose write does more than store the word's fields. -/
def hasAction (type off : Nat) : Bool :=
  match type with
  | 0x0201 => decide (0x400 ≤ off ∧ off < 0xC00)
  | 0x0101 | 0x0901 => true
  | 0x0302 => decide (off = Reg.CMEM_BANK_WORLD)
  | 0x0309 => decide (off = Reg.SKEEP_CMD ∨ off = Reg.SKEEP_SEL)
  | 0x0401 => decide (off = Reg.MEMC_EVAC)
  | 0x0402 => decide (off = Reg.CGM_FAIL)
  | 0x0501 => decide (off = Reg.XLAT_INVAL_CMD)
  | 0x0601 => decide (off = Reg.MOV_SCMD)
  | 0x0701 => decide (off = Reg.ATP_CONFIG ∨ off = Reg.ATP_KEY_CTRL ∨ off = Reg.ATP_SALT_STANDBY ∨
      (Reg.ATP_KEY_STANDBY ≤ off ∧ off < Reg.ATP_KEY_STANDBY + 32))
  | 0x0702 => decide (off = Reg.FRT_DEVID ∨ off = Reg.FRT_ROUTE ∨ (Reg.FRT_FENCE ≤ off ∧ off < Reg.FRT_FENCE + 512))
  | 0x0703 => decide (0x400 ≤ off ∧ off < 0x800)
  | 0x0802 => decide (off = Reg.RDMA_QP_CMD)
  | 0x0B01 => decide (off = Reg.HLTH_CMD)
  | 0x0902 => decide (off = Reg.SEC_LC_CMD)
  | 0x0A01 => decide (off = Reg.PST_BUDGET)
  | 0x0A02 => decide (off = Reg.CLK_REF_SEL)
  | 0x0C01 => decide (off = Reg.EVR_CLEAR)
  | 0x0C02 => decide (off = Reg.CDE_CMD ∨ off = Reg.CDE_SSEL)
  | _ => false

/-- In the branch of each block type the tests for its action words fail. -/
theorem blockWrite_eq_wordStore {p : Page} {off : Nat} (h : hasAction p.type off = false) (m : Sys2Proof.Master) (v : Nat)
    (s : State) : blockWrite m p off v s = wordStore m p off v s := by
  unfold blockWrite
  generalize p.type = type at h ⊢
  split
  case h_2 | h_14 => cases h
  case h_4 | h_19 =>
    obtain ⟨h1, h2⟩ := not_or.mp (of_decide_eq_false h)
    exact (if_neg h1).trans (if_neg h2)
  case h_9 =>
    obtain ⟨h1, h'⟩ := not_or.mp (of_decide_eq_false h)
    obtain ⟨h2, h'⟩ := not_or.mp h'
    obtain ⟨h3, h4⟩ := not_or.mp h'
    exact (if_neg h1).trans ((if_neg h2).trans ((if_neg h3).trans (if_neg h4)))
  case h_10 =>
    obtain ⟨h1, h'⟩ := not_or.mp (of_decide_eq_false h)
    obtain ⟨h2, h3⟩ := not_or.mp h'
    exact (if_neg h1).trans ((if_neg h2).trans (if_neg h3))
  case h_20 => rfl
  all_goals exact if_neg (of_decide_eq_false h)

/-! ### The words that hold RWL fields -/

/-- The block types whose tables have rows. -/
def blockTypes : List Nat :=
  [0x0201, 0x0202, 0x0301, 0x0302, 0x0303, 0x0308, 0x0309, 0x0401, 0x0402, 0x0501, 0x0502, 0x0601, 0x0701, 0x0702, 0x0703,
   0x0801, 0x0802, 0x0101, 0x0B02, 0x0B01, 0x0902, 0x0A01, 0x0A02, 0x0C01, 0x0C02]

theorem mem_blockTypes_of_mem_blockFields {type : Nat} {r : FieldRow} (h : r ∈ blockFields type) : type ∈ blockTypes := by
  unfold blockFields at h
  split at h
  case h_26 => cases h
  all_goals decide

/-- The offsets of the words of a row that is not per context. -/
def FieldRow.words (r : FieldRow) : List Nat := (List.range r.count).map (fun i => r.off + r.stride * i)

theorem FieldRow.mem_words_of_covers {r : FieldRow} {off : Nat} (hctx : r.ctx = 0) (hcount : 0 < r.count)
    (h : r.covers off = true) : off ∈ r.words := by
  simp only [FieldRow.covers, foldCtx, hctx, ne_eq, not_true_eq_false, false_and, if_false, Bool.and_eq_true, Bool.or_eq_true,
    decide_eq_true_eq, beq_iff_eq, bne_iff_ne] at h
  obtain ⟨⟨hlo, hhi⟩, rfl | ⟨hstride, hmod⟩⟩ := h
  · exact List.mem_map.mpr ⟨0, List.mem_range.mpr hcount, by simp⟩
  · refine List.mem_map.mpr ⟨(off - r.off) / r.stride, List.mem_range.mpr ?_, ?_⟩
    · have : (off - r.off) / r.stride ≤ r.count - 1 := Nat.div_le_of_le_mul (by omega)
      omega
    · have := Nat.mul_div_cancel' (Nat.dvd_of_mod_eq_zero hmod)
      omega

/-- The block type and offset of every block-specific word that holds an RWL field. -/
def lockedWords : List (Nat × Nat) :=
  blockTypes.flatMap fun type =>
    ((blockFields type).filter (fun r => r.acc == .rwl)).flatMap fun r => r.words.map (fun off => (type, off))

theorem rwl_rows_not_per_context :
    ∀ type ∈ blockTypes, ∀ r ∈ blockFields type, r.acc = .rwl → r.ctx = 0 ∧ 0 < r.count := by
  decide +kernel

/-- The header words are the same on every page. -/
theorem fieldsAt_header {off : Nat} (h : off < 0x100) (type : Nat) : fieldsAt type off = fieldsAt 0 off := by
  simp only [fieldsAt, if_pos h]

theorem header_rwl_is_power : ∀ off < 0x100, ∀ r ∈ fieldsAt 0 off, r.acc = .rwl → off = Hdr.POWER := by
  decide +kernel

/-- A word with an RWL field is POWER or a listed block-specific word. -/
theorem eq_power_or_mem_lockedWords {type off : Nat} {r : FieldRow} (hr : r ∈ fieldsAt type off) (hacc : r.acc = .rwl) :
    off = Hdr.POWER ∨ (0x100 ≤ off ∧ (type, off) ∈ lockedWords) := by
  by_cases hoff : off < 0x100
  · exact .inl (header_rwl_is_power off hoff r (fieldsAt_header hoff type ▸ hr) hacc)
  · simp only [fieldsAt, if_neg hoff, List.mem_filter] at hr
    obtain ⟨hmem, hcov⟩ := hr
    have htype := mem_blockTypes_of_mem_blockFields hmem
    obtain ⟨hctx, hcount⟩ := rwl_rows_not_per_context type htype r hmem hacc
    refine .inr ⟨by omega, List.mem_flatMap.mpr ⟨type, htype, List.mem_flatMap.mpr ⟨r, ?_, ?_⟩⟩⟩
    · exact List.mem_filter.mpr ⟨hmem, by simp [hacc]⟩
    · exact List.mem_map.mpr ⟨off, r.mem_words_of_covers hctx hcount hcov, rfl⟩

theorem lockedWords_rowsApart : ∀ w ∈ lockedWords, RowsApart (fieldsAt w.1 w.2) := by
  unfold RowsApart
  decide +kernel

/-- The RWL fields of every word share no bit with its other fields. -/
theorem rowsApart_of_rwl {type off : Nat} {r : FieldRow} (hr : r ∈ fieldsAt type off) (hacc : r.acc = .rwl) :
    RowsApart (fieldsAt type off) := by
  obtain rfl | ⟨-, hw⟩ := eq_power_or_mem_lockedWords hr hacc
  · rw [fieldsAt_header (by decide)]
    unfold RowsApart
    decide
  · exact lockedWords_rowsApart _ hw

/-- No field that only a secure master may write stands beside an RWL field, but for BUDGET_W. -/
theorem lockedWords_undeniable : ∀ w ∈ lockedWords, w ≠ (0x0A01, Reg.PST_BUDGET) →
    ∀ r ∈ fieldsAt w.1 w.2, r.acc ≠ .rws ∧ r.acc ≠ .rwsH ∧ r.acc ≠ .woS := by
  decide +kernel

/-- What a write of a listed word does beside storing it: only PST_BUDGET, ATP_CONFIG and the regions of the RPT have an action,
and HEP_MAC is the only other 64-bit register. -/
theorem lockedWords_cases : ∀ w ∈ lockedWords,
    w = (0x0A01, Reg.PST_BUDGET) ∨ w = (0x0701, Reg.ATP_CONFIG) ∨ (w.1 = 0x0502 ∧ 0x800 ≤ w.2 ∧ w.2 < 0x1000) ∨
      (hasAction w.1 w.2 = false ∧ (wide64 w.1 w.2 = none ∨ w.1 = 0x0801)) := by
  decide +kernel

/-! ### The pages of the RPT and the Power Steward (R38) -/

theorem cluPageNo_type {n c : Nat} {p : Page} (h : cluPageNo n c = some p) : p.type ≠ 0x0A01 ∧ p.type ≠ 0x0502 := by
  unfold cluPageNo at h
  split at h
  case h_12 => cases h
  all_goals
    cases h
    exact ⟨Nat.ne_of_beq_eq_false rfl, Nat.ne_of_beq_eq_false rfl⟩

theorem devPageNo_type : ∀ k < 0x200, ∀ p ∈ devPageNo k,
    (p.type = 0x0A01 → p.inst = 1 ∨ p = pgPst 0) ∧ (p.type = 0x0502 → p = pgRpt) := by
  decide +kernel

/-- There is one RPT page, and the second of the two PST pages mirrors the first. -/
theorem pageAt_type {pa : Nat} {p : Page} (h : pageAt pa = some p) :
    (p.type = 0x0A01 → p.inst = 1 ∨ p = pgPst 0) ∧ (p.type = 0x0502 → p = pgRpt) := by
  unfold pageAt at h
  split at h
  · obtain ⟨hpst, hrpt⟩ := cluPageNo_type h
    exact ⟨fun ht => absurd ht hpst, fun ht => absurd ht hrpt⟩
  · split at h
    · next hdev => exact devPageNo_type _ (by omega) p h
    · cases h

/-- An access that is let in reaches the page that its address names. -/
theorem pageAt_of_entry_go {m : Sys2Proof.Master} {pa size : Nat} {s : State} {p : Page} (h : entry m pa size s = .go p) :
    pageAt pa = some p := by
  simp only [entry] at h
  split at h
  · cases h
  · split at h
    · cases h
    · next q hq =>
      rw [hq]
      split at h
      · cases h
      split at h
      · cases h
      split at h
      · cases h
      split at h
      · cases h; rfl
      split at h
      · cases h
      · cases h; rfl

/-! ### Writes of locked words -/

/-- No part of a 32-bit write is refused when the word has no field that only a secure master may write. -/
theorem wordsDenied_eq_false {p : Page} {off : Nat}
    (h : ∀ r ∈ fieldsAt p.type off, r.acc ≠ .rws ∧ r.acc ≠ .rwsH ∧ r.acc ≠ .woS) (m : Sys2Proof.Master) (s : State) (v : Nat) :
    wordsDenied m s p [(off, v)] = false := by
  have hfield (old : Nat) : (writable p off).any (fieldDenied old v) = false := by
    rw [List.any_eq_false]
    intro r hr
    obtain ⟨hrws, hrwsH, hwoS⟩ := h r (mem_fieldsAt_of_mem_writable hr)
    unfold fieldDenied
    split <;> simp_all
  simp [wordsDenied, hfield]

/-- A write of a locked POWER changes nothing. -/
theorem pageWrite_power_locked {p : Page} {s : State} (hl : locked s p = true) (m : Sys2Proof.Master) (v : Nat) :
    pageWrite m p Hdr.POWER 4 v s = s := by
  have hden (x : Nat) : wordsDenied m s p [(Hdr.POWER, x)] = false :=
    wordsDenied_eq_false (by rw [fieldsAt_header (by decide)]; decide) m s x
  have hwide : wide64 p.type Hdr.POWER = none := by simp [wide64, Hdr.POWER]
  have hpower (x : Nat) : headerWrite m p Hdr.POWER x s = s := by
    simp [headerWrite, powerWrite, hl, Hdr.POWER, Hdr.CTRL, Hdr.IRQ_STATUS, Hdr.IRQ_ENABLE, Hdr.ERR_CODE]
  have hoff : Hdr.POWER < 0x100 := by decide
  simp [pageWrite, writeWords, hden, hwide, hpower, hoff]

/-- A write of a region of the locked RPT changes nothing (R278, R280). -/
theorem pageWrite_region_locked {off : Nat} (hlo : 0x800 ≤ off) (hhi : off < 0x1000) {s : State}
    (hl : locked s pgRpt = true) (m : Sys2Proof.Master) (v : Nat)
    (hden : ∀ x, wordsDenied m s pgRpt [(off, x)] = false) : pageWrite m pgRpt off 4 v s = s := by
  have hwide : wide64 pgRpt.type off = some (off / 8 * 8) := by
    have hheader : ¬ off < 0x100 := by omega
    simp [wide64, pgRpt, hheader, hlo, hhi]
  have hregion (w : Nat) : wideWrite m pgRpt (off / 8 * 8) off 4 v w s = some s := by
    have hb : 0x800 ≤ off / 8 * 8 := by omega
    rw [show wideWrite m pgRpt (off / 8 * 8) off 4 v w s = some (regionWrite ((off / 8 * 8 - 0x800) / 8) w s) from if_pos hb,
      regionWrite, if_pos hl]
  have hb : ¬ off / 8 * 8 < 0x100 := by omega
  have hdisc : discards pgRpt off = false := rfl
  simp [pageWrite, writeWords, hden, hwide, hregion, hb, hdisc]

/-- A 32-bit write of a block-specific word that no 64-bit register with an action of its own holds. -/
theorem pageWrite_word {p : Page} {off : Nat} (hoff : 0x100 ≤ off) (hwide : wide64 p.type off = none ∨ p.type = 0x0801)
    (m : Sys2Proof.Master) (v : Nat) (s : State) :
    pageWrite m p off 4 v s =
      let s' := if wordsDenied m s p [(off, v % 2 ^ 32)] then refuseAccess p m (p.base + off) true s else s
      if discards p off then s' else blockWrite m p off (v % 2 ^ 32) s' := by
  have hoff' : ¬ off < 0x100 := by omega
  simp only [pageWrite, writeWords, if_neg (show ¬ (4 = 8) by decide), List.foldl_cons, List.foldl_nil, if_neg hoff']
  split
  · rfl
  · next b hb =>
    have htype : p.type = 0x0801 := hwide.resolve_left (by simp [hb])
    have hnone (s : State) (w : Nat) : wideWrite m p b off 4 v w s = none := by simp [wideWrite, htype]
    split
    · rfl
    · simp only [hnone, Option.getD_none]
      split <;> simp_all

/-- A write that reaches a locked word changes nothing or is a store to that word, but for PST_BUDGET. -/
theorem pageWrite_locked {p : Page} {off : Nat} {s : State} (hl : locked s p = true)
    (hpst : p.type = 0x0A01 → p.inst = 1 ∨ p = pgPst 0) (hrpt : p.type = 0x0502 → p = pgRpt)
    {r : FieldRow} (hr : r ∈ fieldsAt p.type off) (hacc : r.acc = .rwl) (m : Sys2Proof.Master) (v : Nat) :
    pageWrite m p off 4 v s = s ∨ (∃ x, pageWrite m p off 4 v s = wordStore m p off x s) ∨
      (p = pgPst 0 ∧ off = Reg.PST_BUDGET) := by
  obtain rfl | ⟨hoff, hw⟩ := eq_power_or_mem_lockedWords hr hacc
  · exact .inl (pageWrite_power_locked hl m v)
  by_cases hbudget : (p.type, off) = (0x0A01, Reg.PST_BUDGET)
  · obtain ⟨htype, rfl⟩ := Prod.mk.inj hbudget
    obtain hinst | rfl := hpst htype
    · left
      have hdisc : discards p Reg.PST_BUDGET = true := by simp [discards, mirrored, hinst, htype, Reg.PST_BUDGET]
      have hwide : wide64 p.type Reg.PST_BUDGET = none := by simp [wide64, htype, Reg.PST_BUDGET]
      rw [pageWrite_word hoff (.inl hwide)]
      simp [wordsDenied, hdisc]
    · exact .inr (.inr ⟨rfl, rfl⟩)
  have hden := wordsDenied_eq_false (lockedWords_undeniable _ hw hbudget) m s
  have hword (hwide : wide64 p.type off = none ∨ p.type = 0x0801) :
      pageWrite m p off 4 v s = s ∨ pageWrite m p off 4 v s = blockWrite m p off (v % 2 ^ 32) s := by
    rw [pageWrite_word hoff hwide]
    simp only [hden]
    split
    · exact .inl rfl
    · exact .inr rfl
  obtain h | h | ⟨htype, hlo, hhi⟩ | ⟨haction, hwide⟩ := lockedWords_cases _ hw
  · exact absurd h hbudget
  · obtain ⟨htype, rfl⟩ := Prod.mk.inj h
    have hconfig (x : Nat) : blockWrite m p Reg.ATP_CONFIG x s = atpConfigWrite m p x s := by simp [blockWrite, htype]
    exact (hword (.inl (by simp [wide64, htype, Reg.ATP_CONFIG]))).imp_right (fun h => .inl ⟨_, h.trans (hconfig _)⟩)
  · obtain rfl := hrpt htype
    exact .inl (pageWrite_region_locked hlo hhi hl m v hden)
  · exact (hword hwide).imp_right (fun h => .inl ⟨_, h.trans (blockWrite_eq_wordStore haction m _ s)⟩)

/-! ### PST_BUDGET, whose BUDGET_W stands beside RWL fields (R443, R468) -/

theorem pst_errorLeaves {off : Nat} (h : off = Hdr.LOCK ∨ off = Reg.PST_BUDGET) :
    ErrorLeaves (pgPst 0) ((pgPst 0).base + off) := by
  simp only [Hdr.LOCK, Reg.PST_BUDGET] at h
  refine ⟨?_, fun c hc => ?_⟩
  · simp only [Hdr.IRQ_STATUS, Hdr.LOCK, Hdr.CNT_CTRL, Hdr.EVSEL]
    omega
  · simp only [queueReg, pgPst, pgHep, devPage, Reg.HEP_CTX_QUEUE]
    omega

theorem locked_congr {s t : State} {p : Page} (h : regGet t (p.base + Hdr.LOCK) = regGet s (p.base + Hdr.LOCK)) :
    locked t p = locked s p := by
  simp only [locked, rf, h]

/-- The RWL fields of PST_BUDGET stand above BUDGET_W. -/
theorem pstBudget_rwl_above : ∀ r ∈ fieldsAt 0x0A01 Reg.PST_BUDGET, r.acc = .rwl → 11 < r.lo := by
  decide

theorem rf_budgetWrite_locked {s : State} (hl : locked s (pgPst 0) = true) {r : FieldRow}
    (hr : r ∈ fieldsAt 0x0A01 Reg.PST_BUDGET) (hacc : r.acc = .rwl) (m : Sys2Proof.Master) (v : Nat) :
    rf (budgetWrite m v s) ((pgPst 0).base + Reg.PST_BUDGET) r.hi r.lo =
      rf s ((pgPst 0).base + Reg.PST_BUDGET) r.hi r.lo := by
  have hstore (x : Nat) := rf_wordStore_locked (p := pgPst 0) hl (rowsApart_of_rwl hr hacc) hr hacc m x
    ((pgPst 0).base + Reg.PST_BUDGET)
  simp only [budgetWrite]
  split
  · exact (rf_rfSet_above _ _ 11 0 _ _ _ (by decide) (by decide) (pstBudget_rwl_above r hr hacc)).trans (hstore _)
  · exact hstore _

/-- A write of PST_BUDGET keeps its locked fields, whether or not the write of BUDGET_W is refused. -/
theorem rf_pageWrite_pstBudget_locked {s : State} (hl : locked s (pgPst 0) = true) {r : FieldRow}
    (hr : r ∈ fieldsAt 0x0A01 Reg.PST_BUDGET) (hacc : r.acc = .rwl) (m : Sys2Proof.Master) (v : Nat) :
    rf (pageWrite m (pgPst 0) Reg.PST_BUDGET 4 v s) ((pgPst 0).base + Reg.PST_BUDGET) r.hi r.lo =
      rf s ((pgPst 0).base + Reg.PST_BUDGET) r.hi r.lo := by
  have hwrite (t : State) : blockWrite m (pgPst 0) Reg.PST_BUDGET (v % 2 ^ 32) t = budgetWrite m (v % 2 ^ 32) t := rfl
  rw [pageWrite_word (by decide) (.inl rfl)]
  simp only [hwrite]
  rw [if_neg (by decide)]
  split
  · have hkeep {off : Nat} (h : off = Hdr.LOCK ∨ off = Reg.PST_BUDGET) :=
      regGet_refuseAccess (pst_errorLeaves h) m ((pgPst 0).base + Reg.PST_BUDGET) true s
    have hl' := (locked_congr (hkeep (.inl rfl))).trans hl
    exact (rf_budgetWrite_locked hl' hr hacc m _).trans (congrArg (fun w => fld w r.hi r.lo) (hkeep (.inr rfl)))
  · exact rf_budgetWrite_locked hl hr hacc m _

/-! ### The statement -/

/-- A register write that is let in is the page's own write. -/
theorem exec_registerWrite_letIn {m : Sys2Proof.Master} {p : Page} {off : Nat} {s : State} (h : LetIn m p off s)
    {pa : BitVec 48} (hpa : pa.toNat = p.base + off) (v : BitVec 64) :
    exec (.registerWrite m pa 4 v) s = .next (pageWrite m p off 4 v.toNat s) := by
  obtain ⟨hentry, hworld⟩ := h
  have hok : (Master.secure m || !pageWorld s p) = true := by simpa using hworld
  have hcmd : writeCmd m (p.base + off) 4 v.toNat s = pageWrite m p off 4 v.toNat s := by
    simp [writeCmd, writeReg, hentry, hok]
  rw [← hcmd, ← hpa]
  rfl

/-- Settles O7: a write to a word that holds a locked RWL field changes nothing, or stores the word with its RWL fields kept;
PST_BUDGET, whose write of BUDGET_W may be refused and recorded, keeps them too. -/
theorem lockedFieldsKeepTheirValue : Obligations.Locked_Fields_Keep_Their_Value := by
  intro m p off v pa s hpa hin hl hne
  obtain ⟨hpst, hrpt⟩ := pageAt_type (pageAt_of_entry_go hin.1)
  refine ⟨pageWrite m p off 4 v.toNat s, exec_registerWrite_letIn hin hpa v, fun r hr hacc => ?_, fun hall => ?_⟩
  · obtain h | ⟨x, h⟩ | ⟨rfl, rfl⟩ := pageWrite_locked hl hpst hrpt hr hacc m v.toNat
    · rw [h]
    · rw [h]
      exact rf_wordStore_locked hl (rowsApart_of_rwl hr hacc) hr hacc m x _
    · exact rf_pageWrite_pstBudget_locked hl hr hacc m v.toNat
  · obtain ⟨r, hr⟩ := List.exists_mem_of_ne_nil _ hne
    obtain h | ⟨x, h⟩ | ⟨rfl, rfl⟩ := pageWrite_locked hl hpst hrpt hr (hall r hr) m v.toNat
    · rw [h]
      exact ⟨fun _ => rfl, rfl, rfl, fun _ => rfl, fun _ => rfl⟩
    · rw [h]
      exact ⟨regGet_wordStore_locked hl hall m x, rfl, rfl, fun _ => rfl, fun _ => rfl⟩
    · exact absurd hall (by decide)

end Sys2Proof.Machine
end

section
/-! PROOFS. What a read leaves alone: interrupts, health records and the checks of a line, then the reads of main memory, of
cluster memory and through translation, up to the fetch of ACON's control instruction at pc. -/

namespace Sys2Proof.Machine

/-! ### Operations that leave the contexts of ACON and both memories alone -/

/-- The contexts of ACON, both memories and what the channels show of main memory. -/
def State.stores (s : State) : Table AconCtx × List (Nat × Byte) × List (Nat × Byte) × Table Sys2Proof.LineObs :=
  (s.acon, s.mem, s.cmem, s.memObs)

theorem RegsOnly.stores {s t : State} (h : RegsOnly s t) : t.stores = s.stores := by
  rw [h]
  rfl

theorem stores_foldl {β : Type} (l : List β) (f : State → β → State) (h : ∀ s x, (f s x).stores = s.stores) (s : State) :
    (l.foldl f s).stores = s.stores := by
  induction l generalizing s with
  | nil => rfl
  | cons x l ih => exact (ih (f s x)).trans (h s x)

@[simp] theorem stores_regSet (a : Nat) (w : Word) (s : State) : (regSet a w s).stores = s.stores := rfl

@[simp] theorem stores_rfSet (a hi lo x : Nat) (s : State) : (rfSet a hi lo x s).stores = s.stores := rfl

@[simp] theorem stores_rfAdd (a hi lo n : Nat) (s : State) : (rfAdd a hi lo n s).stores = s.stores := rfl

@[simp] theorem stores_reg64Set (a v : Nat) (s : State) : (reg64Set a v s).stores = s.stores := rfl

@[simp] theorem stores_output (o : Sent) (s : State) : (output o s).stores = s.stores := rfl

@[simp] theorem stores_emit (p : Page) (ev payload : Nat) (s : State) : (emit p ev payload s).stores = s.stores := rfl

@[simp] theorem stores_emitFields (p : Page) (ev : Nat) (l : List (Nat × Nat)) (s : State) :
    (emitFields p ev l s).stores = s.stores := rfl

@[simp] theorem stores_cluMod (n : Nat) (f : ClusterState → ClusterState) (s : State) :
    (cluMod n f s).stores = s.stores := rfl

@[simp] theorem stores_mapsMod (f : FailureMaps → FailureMaps) (s : State) : (mapsMod f s).stores = s.stores := rfl

@[simp] theorem stores_tally (p : Page) (ev n : Nat) (x : Attrs) (s : State) : (tally p ev n x s).stores = s.stores :=
  (regsOnly_tally p ev n x s).stores

theorem stores_sendOn (q len : Nat) (o : Sent) (s : State) : (sendOn q len o s).stores = s.stores := by
  simp only [sendOn, portSend]
  split
  · rfl
  · split <;> rfl

theorem stores_flushQueue (c : Nat) (s : State) : (flushQueue c s).stores = s.stores := by
  unfold flushQueue
  split
  · rfl
  · refine stores_foldl _ _ (fun s m => ?_) s
    exact stores_sendOn _ _ _ _

theorem stores_postQueue (c type kind : Nat) (body : List Byte) (s : State) :
    (postQueue c type kind body s).stores = s.stores := by
  simp only [postQueue]
  split
  · rfl
  · split
    · rfl
    · exact stores_flushQueue c _

theorem stores_deliverIrq (p : Page) (bits : Nat) (s : State) : (deliverIrq p bits s).stores = s.stores := by
  simp only [deliverIrq]
  split
  · rfl
  · split
    · rfl
    · exact stores_foldl _ _ (fun s c => stores_postQueue c _ _ _ s) _

@[simp] theorem stores_setIrq (p : Page) (mask : Nat) (s : State) : (setIrq p mask s).stores = s.stores :=
  stores_deliverIrq p _ _

/-! ### Health and the checks of a line (R254 to R258, R400, R410) -/

@[simp] theorem stores_alert (bitNo : Nat) (s : State) : (alert bitNo s).stores = s.stores := stores_setIrq _ _ _

@[simp] theorem stores_memcIrq (mask : Nat) (s : State) : (memcIrq mask s).stores = s.stores := by simp [memcIrq]

theorem stores_colourChange (kind inst old new code : Nat) (s : State) :
    (colourChange kind inst old new code s).stores = s.stores := by
  simp only [colourChange]
  split
  · rfl
  · simp only [apply_ite State.stores, stores_output, ite_self]
    exact stores_alert 0 s

@[simp] theorem stores_groupColourSet (g v code : Nat) (s : State) : (groupColourSet g v code s).stores = s.stores := by
  simp [groupColourSet, stores_colourChange]

theorem stores_groupRed (g cause : Nat) (s : State) : (groupRed g cause s).stores = s.stores := by
  simp [groupRed, apply_ite State.stores]

theorem stores_memberFail (g m cause : Nat) (s : State) : (memberFail g m cause s).stores = s.stores := by
  simp [memberFail, apply_ite State.stores, stores_groupRed]

@[simp] theorem stores_identWin (w : Table (Nat × Nat)) (s : State) :
    State.stores { s with identWin := w } = s.stores := rfl

theorem stores_identHit (g m : Nat) (s : State) : (identHit g m s).stores = s.stores := by
  simp only [identHit, apply_ite State.stores, stores_memberFail, stores_groupRed, stores_emitFields, stores_rfSet,
    stores_identWin, stores_rfAdd, ite_self]

@[simp] theorem stores_cgmLast (g pa ue : Nat) (s : State) : (cgmLast g pa ue s).stores = s.stores := rfl

@[simp] theorem stores_poisonSeen (g pa : Nat) (s : State) : (poisonSeen g pa s).stores = s.stores := by simp [poisonSeen]

theorem stores_useEntry (g : Nat) (s : State) : (useEntry g s).stores = s.stores := by
  simp only [useEntry]
  split <;> rfl

theorem stores_checkChunks (g pa : Nat) (line : List Byte) (marker : Bool) (o : Sys2Proof.LineObs) (s : State) :
    (checkChunks g pa line marker o s).2.stores = s.stores := by
  have hce (l : List Nat) : State.stores (l.foldl (fun s m =>
      rfAdd ((pgCgm g).base + Reg.CGM_MEMBER_ERR + 4 * m) 31 16 1 s) s) = s.stores :=
    stores_foldl _ _ (fun _ _ => stores_rfAdd _ _ _ _ _) s
  simp only [checkChunks]
  split
  · split
    · simp [hce]
    · split <;> simp [hce, stores_identHit]
  · split
    · simp [hce]
    · split <;> simp [hce, stores_identHit]
    · split
      · simp [hce]
      · split <;> simp [hce]

theorem stores_checkLine (g pa : Nat) (line : List Byte) (marker : Bool) (o : Sys2Proof.LineObs) (s : State) :
    (checkLine g pa line marker o s).2.stores = s.stores := by
  simp only [checkLine]
  split
  · rfl
  · exact stores_checkChunks g pa line marker o s

/-- A line is rewritten in place only for a member in error on the links (R254). -/
theorem checkChunks_without_linkBad {o : Sys2Proof.LineObs} (ho : o.linkBad = []) (g pa : Nat) (line : List Byte)
    (marker : Bool) (s : State) :
    (checkChunks g pa line marker o s).1.rewrite = false ∧ (checkChunks g pa line marker o s).1.after.linkBad = [] := by
  simp only [checkChunks, ho, List.map_nil, List.eraseDups_nil, List.filter_nil]
  split
  · split <;> exact ⟨rfl, rfl⟩
  · split
    · exact ⟨rfl, rfl⟩
    · split <;> exact ⟨rfl, rfl⟩

theorem checkLine_without_linkBad {o : Sys2Proof.LineObs} (ho : o.linkBad = []) (g pa : Nat) (line : List Byte)
    (marker : Bool) (s : State) :
    (checkLine g pa line marker o s).1.rewrite = false ∧ (checkLine g pa line marker o s).1.after.linkBad = [] := by
  simp only [checkLine]
  split
  · exact ⟨rfl, rfl⟩
  · exact checkChunks_without_linkBad ho g pa line marker s

/-! ### What a read leaves alone -/

/-- `t` comes from `s` by reads: the contexts of ACON and cluster memory are as before, and so is main memory where no line
waits to be corrected in place (R254). -/
structure ReadOnly (s t : State) : Prop where
  acon : t.acon = s.acon
  cmem : t.cmem = s.cmem
  mem : noLinkErrors s → t.mem = s.mem ∧ noLinkErrors t

theorem ReadOnly.refl (s : State) : ReadOnly s s := ⟨rfl, rfl, fun h => ⟨rfl, h⟩⟩

theorem ReadOnly.trans {s t u : State} (h : ReadOnly s t) (k : ReadOnly t u) : ReadOnly s u where
  acon := k.acon.trans h.acon
  cmem := k.cmem.trans h.cmem
  mem hs :=
    have ⟨hmem, ht⟩ := h.mem hs
    have ⟨kmem, hu⟩ := k.mem ht
    ⟨kmem.trans hmem, hu⟩

theorem noLinkErrors_congr {s t : State} (h : t.stores = s.stores) : noLinkErrors t ↔ noLinkErrors s := by
  simp only [State.stores, Prod.mk.injEq] at h
  obtain ⟨-, -, -, hobs⟩ := h
  rw [noLinkErrors, noLinkErrors, hobs]

theorem ReadOnly.of_stores {s t : State} (h : t.stores = s.stores) : ReadOnly s t := by
  have hobs := noLinkErrors_congr h
  simp only [State.stores, Prod.mk.injEq] at h
  obtain ⟨hacon, hmem, hcmem, -⟩ := h
  exact ⟨hacon, hcmem, fun hs => ⟨hmem, hobs.mpr hs⟩⟩

theorem ReadOnly.actx {s t : State} (h : ReadOnly s t) (c : Nat) : actx t c = actx s c := by
  simp only [Machine.actx, h.acon]

theorem ReadOnly.unwritten {s t : State} (h : ReadOnly s t) : Unwritten s t :=
  ⟨fun hs a => by rw [(h.mem hs).1], fun a => by rw [h.cmem]⟩

theorem noLinkErrors_iff (s : State) : noLinkErrors s ↔ s.memObs.all (fun e => e.2.linkBad.isEmpty) = true := by
  simp [noLinkErrors]

theorem tget_all {α : Type} {t : Table α} {d : α} {f : Nat × α → Bool} (k : Nat) (hd : f (k, d) = true)
    (h : t.all f = true) : f (k, tget t d k) = true := by
  induction t with
  | nil => exact hd
  | cons e t ih =>
    obtain ⟨j, v⟩ := e
    simp only [List.all_cons, Bool.and_eq_true] at h
    simp only [tget, tget?]
    split
    · next hj => exact hj ▸ h.1
    · exact ih h.2

theorem noLinkErrors_linkBad {s : State} (h : noLinkErrors s) (l : Nat) : (tget s.memObs cleanLine l).linkBad = [] :=
  List.isEmpty_iff.mp
    (tget_all (f := fun (e : Nat × Sys2Proof.LineObs) => e.2.linkBad.isEmpty) l rfl ((noLinkErrors_iff s).mp h))

theorem noLinkErrors_showLine {s : State} (h : noLinkErrors s) (l : Nat) {o : Sys2Proof.LineObs} (ho : o.linkBad = []) :
    noLinkErrors (showLine l o s) := by
  rw [noLinkErrors_iff] at h ⊢
  simp only [showLine]
  split
  · exact tdel_all _ _ _ h
  · exact tput_all _ _ _ _ (by simp [ho]) h

theorem readOnly_settleLine (l : Nat) (r : LineRead) (s : State)
    (h : noLinkErrors s → r.rewrite = false ∧ r.after.linkBad = []) : ReadOnly s (settleLine l r s) where
  acon := by simp only [settleLine]; split <;> rfl
  cmem := by simp only [settleLine]; split <;> rfl
  mem hs := by
    obtain ⟨hrewrite, hafter⟩ := h hs
    simp only [settleLine, hrewrite]
    exact ⟨rfl, noLinkErrors_showLine hs l hafter⟩

/-- The answer `r` to a read of `s` comes with a state that reads alone lead to. -/
def ReadsFrom {α : Type} (s : State) (r : α × State) : Prop := ReadOnly s r.2

section ReadsFrom
variable {α β : Type} {s t : State} {x : β} {r q : α × State}

theorem ReadsFrom.refl (y : α) (s : State) : ReadsFrom s (y, s) := ReadOnly.refl s

theorem ReadsFrom.readOnly (h : ReadsFrom s (x, t)) : ReadOnly s t := h

theorem ReadOnly.reads (h : ReadOnly s t) (k : ReadsFrom t r) : ReadsFrom s r := h.trans k

theorem ReadsFrom.reads (h : ReadsFrom s (x, t)) (k : ReadsFrom t r) : ReadsFrom s r := h.readOnly.reads k

theorem ReadsFrom.ite {c : Prop} [Decidable c] (hr : ReadsFrom s r) (hq : ReadsFrom s q) :
    ReadsFrom s (if c then r else q) := by
  split <;> assumption

end ReadsFrom

theorem readsFrom_lineRead (pa len : Nat) (s : State) : ReadsFrom s (lineRead pa len s) := by
  have huse := ReadOnly.of_stores (stores_useEntry (groupOf s pa) s)
  simp only [lineRead]
  split
  · exact huse
  · generalize useEntry (groupOf s pa) s = u at huse ⊢
    have hstores := stores_checkLine (groupOf s pa) (pa / 256 * 256) (memGetBytes u.mem (pa / 256 * 256) 256)
      (u.markers.contains (pa / 256)) (tget u.memObs cleanLine (pa / 256)) u
    exact (huse.trans (ReadOnly.of_stores hstores)).trans (readOnly_settleLine _ _ _ fun h =>
      checkLine_without_linkBad (noLinkErrors_linkBad ((noLinkErrors_congr hstores).mp h) _) _ _ _ _ _)

/-! ### Reads of cluster memory (R156 to R165)

A 64-bit register is `low + high * 2 ^ 32`, and the kernel unfolds that product 2 ^ 32 times when a test that depends on it is
evaluated. From here on a function is therefore opened as a whole with `delta`, and the functions that it calls become
variables (`exists_eq'`) of which only what they leave alone is known: nothing can evaluate them, and nothing else about them
is needed. `f._f` is one step of the recursion of `f`. -/

theorem stores_wakeBank (n b : Nat) (s : State) : (wakeBank n b s).stores = s.stores := by
  simp only [wakeBank]
  split
  · exact (stores_tally _ _ _ _ _).trans (stores_reg64Set _ _ _)
  · rfl

theorem readsFrom_eccRead (n : Nat) (port : Port2) (w : Nat) (s : State) : ReadsFrom s (eccRead n port w s) := by
  refine ReadOnly.of_stores ?_
  simp only [eccRead]
  split
  · simp
  · split <;> simp

theorem readsFrom_cmemTouch (n : Nat) (port : Port2) (secure reading : Bool) (ws : List Nat) (s : State) :
    ReadsFrom s (cmemTouch n port secure reading ws s) := by
  have hwake (b : Nat) (s : State) := ReadOnly.of_stores (stores_wakeBank n b s)
  have hecc := readsFrom_eccRead n port
  obtain ⟨f, hf⟩ := exists_eq' (a' := cmemTouch)
  obtain ⟨g, hg⟩ := exists_eq' (a' := cmemTouch._f)
  rw [hf]
  delta cmemTouch at hf
  rw [hg] at hf
  delta cmemTouch._f at hg
  obtain ⟨refusal, hr⟩ := exists_eq' (a' := bankRefusal)
  obtain ⟨wake, hw⟩ := exists_eq' (a' := wakeBank)
  obtain ⟨ecc, he⟩ := exists_eq' (a' := eccRead)
  rw [hr, hw, he] at hg
  rw [hw] at hwake
  rw [he] at hecc
  induction ws generalizing s with
  | nil => subst hf hg; exact .refl _ s
  | cons w ws ih =>
    obtain ⟨b, hcons, hb⟩ : ∃ b, f n port secure reading (w :: ws) s = g n port secure reading (w :: ws) b s ∧
        ∀ s, ReadsFrom s (b.1 s) := by
      subst hf
      exact ⟨_, rfl, ih⟩
    rw [hcons]
    subst hg
    dsimp only
    have hwake := hwake (cmemBank w) s
    generalize wake n (cmemBank w) s = t at hwake ⊢
    have hecc := hwake.reads (hecc w t)
    generalize ecc n port w t = r at hecc ⊢
    obtain ⟨bad, u⟩ := r
    split
    · exact .refl _ s
    · exact .ite (.ite hecc (hecc.reads (hb u))) (hwake.reads (hb t))

theorem stores_tallyWords (n : Nat) (port : Port2) (secure write : Bool) (off len : Nat) (s : State) :
    (tallyWords n port secure write off len s).stores = s.stores := by
  simp only [tallyWords]
  split
  · rfl
  · exact stores_foldl _ _ (fun s u => stores_tally _ _ _ _ s) s

theorem readsFrom_cmemRead (n : Nat) (port : Port2) (secure : Bool) (off len : Nat) (s : State) :
    ReadsFrom s (cmemRead n port secure off len s) := by
  have htouch := readsFrom_cmemTouch n port secure true (wordsOf off len) s
  have htally (t : State) := ReadOnly.of_stores (stores_tallyWords n port secure false off len t)
  simp only [cmemRead]
  generalize cmemTouch n port secure true (wordsOf off len) s = r at htouch ⊢
  obtain ⟨_ | _, t⟩ := r
  · exact htouch.readOnly.trans (htally t)
  · exact htouch.readOnly.trans (htally t)

/-! ### Reads by physical address and through translation (R271 to R281) -/

theorem readsFrom_rptCheck (k : AccClass) (secure write : Bool) (pa : Nat) (s : State) :
    ReadsFrom s (rptCheck k secure write pa s) := by
  have hdenied (a v a' : Nat) : ReadOnly s (setIrq pgRpt 0x10000 (reg64Set a v (rfAdd a' 31 0 1 s))) :=
    .of_stores (by simp)
  obtain ⟨f, hf⟩ := exists_eq' (a' := rptCheck)
  rw [hf]
  delta rptCheck at hf
  obtain ⟨verdict, hv⟩ := exists_eq' (a' := rptVerdict)
  obtain ⟨region, hr⟩ := exists_eq' (a' := findRegion)
  rw [hv, hr] at hf
  subst hf
  dsimp only
  generalize region s pa = r
  split
  · exact .refl _ s
  · cases r with
    | none => exact hdenied _ _ _
    | some i => exact hdenied _ _ _

theorem readsFrom_readLineFor (asWrite : Bool) (k : AccClass) (secure : Bool) (pa len : Nat) (s : State) :
    ReadsFrom s (readLineFor asWrite k secure pa len s) := by
  have hcheck := readsFrom_rptCheck k secure asWrite pa s
  have hline := readsFrom_lineRead pa len
  have hcmem := fun n off => readsFrom_cmemRead n .b secure off len
  obtain ⟨f, hf⟩ := exists_eq' (a' := readLineFor)
  rw [hf]
  delta readLineFor at hf
  obtain ⟨target, ht⟩ := exists_eq' (a' := decodePa)
  obtain ⟨check, hc⟩ := exists_eq' (a' := rptCheck)
  obtain ⟨line, hl⟩ := exists_eq' (a' := lineRead)
  obtain ⟨cmem, hm⟩ := exists_eq' (a' := cmemRead)
  rw [ht, hc, hl, hm] at hf
  rw [hc] at hcheck
  rw [hl] at hline
  rw [hm] at hcmem
  subst hf
  dsimp only
  generalize check k secure asWrite pa s = r at hcheck ⊢
  obtain ⟨_ | c, t⟩ := r
  · split
    · generalize hu : tally _ _ _ _ _ = u
      have htally : ReadOnly t u := .of_stores (by simp [← hu])
      have hread := (hcheck.readOnly.trans htally).reads (hline u)
      generalize line pa len u = r at hread ⊢
      obtain ⟨_ | _, v⟩ := r
      · exact hread
      · exact hread
    · next n off _ =>
      have hread := hcheck.reads (hcmem n off t)
      dsimp only
      generalize cmem n .b secure off len t = r at hread ⊢
      obtain ⟨_ | _, u⟩ := r
      · exact hread
      · exact hread
    · exact .ite (.refl _ s) (.refl _ s)
    · exact .refl _ s
  · split
    · exact hcheck
    · exact hcheck
    · exact .ite (.refl _ s) (.refl _ s)
    · exact .refl _ s

theorem readsFrom_walkFrom (secure : Bool) (va fuel level table : Nat) (s : State) :
    ReadsFrom s (walkFrom secure va fuel level table s) := by
  have hread (a : Nat) (s : State) : ReadsFrom s (readLine .onDie secure a 8 s) :=
    readsFrom_readLineFor false .onDie secure a 8 s
  obtain ⟨f, hf⟩ := exists_eq' (a' := walkFrom)
  obtain ⟨g, hg⟩ := exists_eq' (a' := walkFrom._f)
  rw [hf]
  delta walkFrom at hf
  rw [hg] at hf
  delta walkFrom._f at hg
  obtain ⟨read, hr⟩ := exists_eq' (a' := readLine)
  obtain ⟨top, ht⟩ := exists_eq' (a' := memTop)
  rw [hr] at hg hread
  rw [ht] at hg
  induction fuel generalizing level table s with
  | zero => subst hf hg; exact .refl _ s
  | succ fuel ih =>
    obtain ⟨b, hsucc, hb⟩ : ∃ b, f secure va (fuel + 1) level table s = g secure va (fuel + 1) b level table s ∧
        ∀ level table s, ReadsFrom s (b.1 level table s) := by
      subst hf
      exact ⟨_, rfl, ih⟩
    rw [hsucc]
    subst hg
    dsimp only
    have hread := hread (table + 8 * levelIndex va level) s
    generalize read .onDie secure (table + 8 * levelIndex va level) 8 s = r at hread ⊢
    refine .ite (.refl _ s) ?_
    obtain ⟨_ | _, t⟩ := r
    · exact hread
    · exact .ite hread (.ite hread (.ite (.ite hread hread) (.ite hread (.ite hread (hread.reads (hb _ _ _))))))

theorem readsFrom_walk (c va : Nat) (s : State) : ReadsFrom s (walk c va s) := by
  have hwalk := readsFrom_walkFrom (ctxSecure s c) va 3 0 (nfld (xlatRoot s c) 47 21 * 2 ^ 21) s
  obtain ⟨f, hf⟩ := exists_eq' (a' := walk)
  rw [hf]
  delta walk at hf
  obtain ⟨root, hr⟩ := exists_eq' (a' := xlatRoot)
  obtain ⟨from_, hw⟩ := exists_eq' (a' := walkFrom)
  rw [hr, hw] at hf hwalk
  subst hf
  exact .ite (.refl _ s) hwalk

theorem stores_cachePut (e : TlbEntry) (s : State) : (cachePut e s).stores = s.stores := by
  simp only [cachePut]
  split
  · rfl
  · split <;> rfl

theorem readsFrom_missWalk (c va : Nat) (s : State) : ReadsFrom s (missWalk c va s) := by
  have hwalk := readsFrom_walk c va
  obtain ⟨f, hf⟩ := exists_eq' (a' := missWalk)
  rw [hf]
  delta missWalk at hf
  obtain ⟨wlk, hw⟩ := exists_eq' (a' := walk)
  rw [hw] at hf hwalk
  subst hf
  dsimp only
  generalize hu : rfSet _ _ _ _ _ = u
  have hread : ReadsFrom s (wlk c va u) := (ReadOnly.of_stores (by simp [← hu])).reads (hwalk u)
  generalize wlk c va u = r at hread ⊢
  obtain ⟨_ | _, t⟩ := r
  · exact hread
  · exact hread.readOnly.trans (.of_stores (stores_cachePut _ t))

theorem readsFrom_translate (c va : Nat) (write rdma : Bool) (s : State) :
    ReadsFrom s (translate c va write rdma s) := by
  have hmiss := readsFrom_missWalk c va
  have htally (p : Page) (ev n : Nat) (x : Attrs) := ReadOnly.of_stores (stores_tally p ev n x s)
  obtain ⟨f, hf⟩ := exists_eq' (a' := translate)
  rw [hf]
  delta translate at hf
  obtain ⟨root, hr⟩ := exists_eq' (a' := xlatRoot)
  obtain ⟨hit, hh⟩ := exists_eq' (a' := tlbHit)
  obtain ⟨miss, hm⟩ := exists_eq' (a' := missWalk)
  obtain ⟨count, ht⟩ := exists_eq' (a' := tally)
  rw [hr, hh, hm, ht] at hf
  rw [hm] at hmiss
  rw [ht] at htally
  subst hf
  dsimp only
  have htally := htally pgXlat 0x0100 1 { world := some (ctxSecure s c), addr := some va }
  generalize count _ _ _ _ _ = u at htally ⊢
  have hread := htally.reads (hmiss u)
  generalize miss c va u = r at hread ⊢
  generalize hit u c va = e
  refine .ite htally ?_
  cases e with
  | some e => exact .ite htally (.ite htally htally)
  | none =>
    obtain ⟨_ | _, t⟩ := r
    · exact hread
    · exact .ite hread (.ite hread hread)

theorem readsFrom_vreadPieces (asWrite : Bool) (v : Via) (l : List (Nat × Nat)) (acc : List Byte) (s : State) :
    ReadsFrom s (vreadPieces asWrite v l acc s) := by
  have hplace := readsFrom_translate
  have hline := readsFrom_readLineFor
  obtain ⟨f, hf⟩ := exists_eq' (a' := vreadPieces)
  obtain ⟨g, hg⟩ := exists_eq' (a' := vreadPieces._f)
  rw [hf]
  delta vreadPieces at hf
  rw [hg] at hf
  delta vreadPieces._f at hg
  obtain ⟨place, hp⟩ := exists_eq' (a' := translate)
  obtain ⟨line, hl⟩ := exists_eq' (a' := readLineFor)
  rw [hp, hl] at hg
  rw [hp] at hplace
  rw [hl] at hline
  induction l generalizing acc s with
  | nil => subst hf hg; exact .refl _ s
  | cons x l ih =>
    obtain ⟨a, n⟩ := x
    obtain ⟨b, hcons, hb⟩ : ∃ b, f asWrite v ((a, n) :: l) acc s = g asWrite v ((a, n) :: l) b acc s ∧
        ∀ acc s, ReadsFrom s (b.1 acc s) := by
      subst hf
      exact ⟨_, rfl, ih⟩
    rw [hcons]
    subst hg
    dsimp only
    have hread := hplace v.ctx (a % 2 ^ 48) asWrite v.rdma s
    generalize place v.ctx (a % 2 ^ 48) asWrite v.rdma s = r at hread ⊢
    obtain ⟨_ | pa, t⟩ := r
    · exact hread
    · have hread := hread.reads (hline asWrite v.cls v.secure pa n t)
      dsimp only
      generalize line asWrite v.cls v.secure pa n t = r at hread ⊢
      obtain ⟨_ | _, u⟩ := r
      · exact hread
      · exact hread.reads (hb _ u)

theorem readsFrom_virtRead (v : Via) (va len : Nat) (s : State) : ReadsFrom s (virtRead v va len s) :=
  readsFrom_vreadPieces false v (pieces va len) [] s

theorem readsFrom_readInstr (c i : Nat) (s : State) : ReadsFrom s (readInstr c i s) := by
  have hread := readsFrom_virtRead (viaCtx s c) (instrVa s c i) 16 s
  obtain ⟨f, hf⟩ := exists_eq' (a' := readInstr)
  rw [hf]
  delta readInstr at hf
  obtain ⟨read, hr⟩ := exists_eq' (a' := virtRead)
  rw [hr] at hf hread
  subst hf
  dsimp only
  generalize read (viaCtx s c) (instrVa s c i) 16 s = r at hread ⊢
  obtain ⟨_ | _, t⟩ := r
  · exact hread
  · exact hread

theorem readsFrom_controlAt (c : Nat) (s : State) : ReadsFrom s (controlAt c s) := by
  have hread := readsFrom_readInstr c (actx s c).pc s
  obtain ⟨f, hf⟩ := exists_eq' (a' := controlAt)
  rw [hf]
  delta controlAt at hf
  obtain ⟨read, hr⟩ := exists_eq' (a' := readInstr)
  rw [hr] at hf hread
  subst hf
  dsimp only
  generalize read c (actx s c).pc s = r at hread ⊢
  refine .ite (.refl _ s) ?_
  obtain ⟨_ | w, t⟩ := r
  · exact hread
  · refine .ite hread (.ite ?_ hread)
    split
    · exact hread
    · exact hread

theorem readOnly_of_controlAt {c : Nat} {s s' : State} {x : Except State Slot} (h : controlAt c s = (x, s')) :
    ReadOnly s s' := by
  have hread := readsFrom_controlAt c s
  rw [h] at hread
  exact hread

end Sys2Proof.Machine
end

section
/-! PROOFS. O19: LOOP and JMP of ACON. The checks and the effect of a control instruction, the loop counters, and the start of a
program. -/

namespace Sys2Proof.Machine

/-! ### A control instruction that passes its checks (R29, R127) -/

theorem lowest_eq_none {l : List Cand} : lowest l = none ↔ ∀ x ∈ l, x = none := by
  induction l with
  | nil => simp [lowest]
  | cons x l ih =>
    cases x with
    | none => simp [lowest, ih]
    | some x =>
      simp only [lowest]
      split
      · simp
      · split <;> simp

theorem stores_aconSample (va opcode ctx : Nat) (halted : Bool) (latency at_ : Nat) (s : State) :
    (aconSample va opcode ctx halted latency at_ s).stores = s.stores := by
  rw [aconSample, sample_only]
  rfl

/-- The instruction takes effect, after its fetch and its sample. -/
theorem control_passes {op c : Nat} {w : Slot} {s s' : State} (hat : atControl s = some c)
    (hw : controlAt c s = (.ok w, s')) (hop : opOf w = op) (hov : (actx s c).overrun = none)
    {check : Nat → Slot → State → Option (Nat × Nat × Nat)} (hcheck : check c w s' = none)
    (f : Nat → Slot → State → State) :
    ∃ u, control op check f s = f c w u ∧ ReadOnly s u := by
  have hfetch := readOnly_of_controlAt hw
  have hov' : overrunCand s' c = none := by simp [overrunCand, hfetch.actx, hov]
  have hlow : lowest [check c w s', overrunCand s' c] = none := by simp [lowest_eq_none, hcheck, hov']
  refine ⟨_, ?_, hfetch.trans (.of_stores (stores_aconSample (instrVa s' c (actx s' c).pc) op c false 0 0 s'))⟩
  obtain ⟨g, hg⟩ := exists_eq' (a' := control)
  rw [hg]
  delta control at hg
  obtain ⟨ready, ha⟩ := exists_eq' (a' := atControl)
  obtain ⟨fetch, hi⟩ := exists_eq' (a' := controlAt)
  obtain ⟨low, hl⟩ := exists_eq' (a' := lowest)
  rw [ha, hi, hl] at hg
  rw [ha] at hat
  rw [hi] at hw
  rw [hl] at hlow
  subst hg
  simp [hat, hw, hop, hlow]

/-! ### Going on at an instruction (R125, R152) -/

@[simp] theorem actx_actxMod_same (c : Nat) (f : AconCtx → AconCtx) (s : State) : actx (actxMod c f s) c = f (actx s c) := by
  simp [actx, actxMod]

/-- Holding a context at its boundary keeps its place in the program and its loop counters, and writes no memory. -/
theorem holdAtBoundary_keeps (c : Nat) (s : State) :
    (actx (holdAtBoundary c s) c).pc = (actx s c).pc ∧ (actx (holdAtBoundary c s) c).lc = (actx s c).lc ∧
      (actx (holdAtBoundary c s) c).active = (actx s c).active ∧ (holdAtBoundary c s).mem = s.mem ∧
      (holdAtBoundary c s).cmem = s.cmem := by
  have hhalt (src inst va reason i0 i1 : Nat) (f : AconCtx → AconCtx) :
      (acStateSet c stHalted (leaveArray c (actxMod c f (setHaltRegs c src inst va reason i0 i1 s)))).stores =
        (actxMod c f s).stores := by
    simp only [leaveArray]
    split <;> rfl
  obtain ⟨g, hg⟩ := exists_eq' (a' := holdAtBoundary)
  rw [hg]
  delta holdAtBoundary at hg
  obtain ⟨boundary, hb⟩ := exists_eq' (a' := atBoundary)
  rw [hb] at hg
  subst hg
  dsimp only
  split
  · split
    · next src inst va reason i0 i1 _ =>
      have h := hhalt src inst va reason i0 i1 fun a => { a with agentHalt := false, haltKind := .agent, preemptReq := false }
      simp only [State.stores, Prod.mk.injEq] at h
      obtain ⟨hacon, hmem, hcmem, -⟩ := h
      rw [hmem, hcmem, actx, hacon]
      simp [actx, actxMod]
    · exact ⟨rfl, rfl, rfl, rfl, rfl⟩
  · exact ⟨rfl, rfl, rfl, rfl, rfl⟩

/-- Going on at instruction i sets the program counter, and keeps the loop counters and the memories. -/
theorem aconGoto_effect (c i : Nat) (s : State) :
    (actx (aconGoto c i s) c).pc = i ∧ (actx (aconGoto c i s) c).lc = (actx s c).lc ∧
      (actx (aconGoto c i s) c).active = (actx s c).active ∧ ∀ r, Unwritten r s → Unwritten r (aconGoto c i s) := by
  obtain ⟨hpc, hlc, hactive, hmem, hcmem⟩ := holdAtBoundary_keeps c (actxMod c (fun a => { a with pc := i }) s)
  rw [actx_actxMod_same] at hpc hlc hactive
  refine ⟨hpc, hlc, hactive, fun r hr => ?_⟩
  rw [Unwritten, aconGoto, hmem, hcmem]
  exact hr

/-! ### LOOP and JMP (R142) -/

/-- A branch that passes its checks goes to the instruction at distance TARGET. -/
theorem branchTo_of_branchCheck {reserved : Bool} {a : AconCtx} {w : Slot} (h : branchCheck reserved a w = none) :
    (((branchTo a w).getD 0 : Nat) : Int) = a.pc + sext 32 (fld w 93 62) := by
  have hto : why (branchTo a w).isNone 0x27 = none := lowest_eq_none.mp h _ (by simp)
  by_cases hin : 0 ≤ (a.pc : Int) + sext 32 (fld w 93 62) ∧ (a.pc : Int) + sext 32 (fld w 93 62) < a.instrCount
  · rw [branchTo, if_pos hin]
    exact Int.toNat_of_nonneg hin.1
  · rw [branchTo, if_neg hin] at hto
    cases hto

/-- The counter is counted down from n, its value or COUNT_M1 + 1 where it is not active, and stays active above 0. -/
theorem loopStep_eq {lc : List Nat} {active : List Bool} {ctr countM1 n : Nat}
    (hn : n = if lget active ctr false then lget lc ctr 0 else countM1 + 1) :
    loopStep lc active ctr countM1 = (lc.set ctr (n - 1), active.set ctr (n - 1 != 0), n - 1 != 0) := by
  simp only [loopStep, lset, hn]

theorem loopState_effect {c n : Nat} {w : Slot} {s s' : State} (hat : atControl s = some c)
    (hw : controlAt c s = (.ok w, s')) (hop : opOf w = 0x0A) (hcheck : branchCheck (fld w 61 0 != 0) (actx s' c) w = none)
    (hov : (actx s c).overrun = none) (hn : n = if lget (actx s c).active (fld w 119 118) false then
      lget (actx s c).lc (fld w 119 118) 0 else fld w 117 94 + 1) :
    (actx (loopState s) c).lc = (actx s c).lc.set (fld w 119 118) (n - 1) ∧
      (actx (loopState s) c).active = (actx s c).active.set (fld w 119 118) (n - 1 != 0) ∧
      ((actx (loopState s) c).pc : Int) = (actx s c).pc + (if n - 1 != 0 then sext 32 (fld w 93 62) else 1) ∧
      Unwritten s (loopState s) := by
  obtain ⟨u, hstate, hu⟩ : ∃ u, loopState s = _ ∧ ReadOnly s u := control_passes hat hw hop hov hcheck _
  dsimp only at hstate
  rw [hu.actx, loopStep_eq hn] at hstate
  rw [hstate]
  dsimp only
  rw [(readOnly_of_controlAt hw).actx] at hcheck
  obtain ⟨hpc, hlc, hactive, hkeep⟩ := aconGoto_effect c
    (if n - 1 != 0 then (branchTo (actx s c) w).getD 0 else (actx s c).pc + 1) (actxMod c (fun a => { a with
      lc := (actx s c).lc.set (fld w 119 118) (n - 1)
      active := (actx s c).active.set (fld w 119 118) (n - 1 != 0) }) u)
  rw [actx_actxMod_same] at hlc hactive
  refine ⟨hlc, hactive, ?_, hkeep s hu.unwritten⟩
  rw [hpc]
  split
  · exact branchTo_of_branchCheck hcheck
  · rfl

theorem jmpState_effect {c : Nat} {w : Slot} {s s' : State} (hat : atControl s = some c)
    (hw : controlAt c s = (.ok w, s')) (hop : opOf w = 0x0B)
    (hcheck : branchCheck (fld w 119 94 != 0 || fld w 61 0 != 0) (actx s' c) w = none) (hov : (actx s c).overrun = none) :
    ((actx (jmpState s) c).pc : Int) = (actx s c).pc + sext 32 (fld w 93 62) ∧ (actx (jmpState s) c).lc = (actx s c).lc ∧
      (actx (jmpState s) c).active = (actx s c).active ∧ Unwritten s (jmpState s) := by
  obtain ⟨u, hstate, hu⟩ : ∃ u, jmpState s = _ ∧ ReadOnly s u := control_passes hat hw hop hov hcheck _
  rw [hstate]
  obtain ⟨hpc, hlc, hactive, hkeep⟩ := aconGoto_effect c ((branchTo (actx u c) w).getD 0) u
  rw [(readOnly_of_controlAt hw).actx, ← hu.actx] at hcheck
  refine ⟨?_, hlc.trans (by rw [hu.actx]), hactive.trans (by rw [hu.actx]), hkeep s hu.unwritten⟩
  rw [hpc, branchTo_of_branchCheck hcheck, hu.actx]

/-! ### START (R124) -/

/-- A program that passes its header's checks starts with every loop counter 0 and not active (R142). -/
theorem loadProgram_loops {c : Nat} {h : Header} {s s' : State} (hh : checkHeader c s = (.ok h, s')) :
    (actx (loadProgram c s) c).lc = [0, 0, 0, 0] ∧
      (actx (loadProgram c s) c).active = [false, false, false, false] := by
  have hready (f : AconCtx → AconCtx) (s : State) : actx (acStateSet c stReady (rfSet (statusReg c) 9 8 0
      (rfSet (statusReg c) 7 4 0 (actxMod c f s)))) c = f (actx s c) := actx_actxMod_same c f s
  obtain ⟨g, hg⟩ := exists_eq' (a' := loadProgram)
  rw [hg]
  delta loadProgram at hg
  obtain ⟨check, hc⟩ := exists_eq' (a' := checkHeader)
  rw [hc] at hg hh
  subst hg
  simp only [hh, hready]
  exact ⟨rfl, rfl⟩

/-- ACON_CTXc_CMD has no field that only a secure master may write, and no 64-bit register holds it (R154). -/
theorem ctxCmd_plain : ∀ c : Fin 8, wide64 pgAcon.type (Reg.ACON_CTX_CMD + c.val * 0x100) = none ∧
    ∀ r ∈ fieldsAt pgAcon.type (Reg.ACON_CTX_CMD + c.val * 0x100), r.acc ≠ .rws ∧ r.acc ≠ .rwsH ∧ r.acc ≠ .woS := by
  decide

/-- A write command that is let in is the page's own write. -/
theorem writeCmd_letIn {m : Sys2Proof.Master} {p : Page} {off : Nat} {s : State} (h : LetIn m p off s) (v : Nat) :
    writeCmd m (p.base + off) 4 v s = pageWrite m p off 4 v s := by
  obtain ⟨hentry, hworld⟩ := h
  have hok : (Master.secure m || !pageWorld s p) = true := by simpa using hworld
  simp [writeCmd, writeReg, hentry, hok]

/-- A command written to ACON_CTXc_CMD reaches its context. -/
theorem blockWrite_ctxCmd (m : Sys2Proof.Master) (c : Fin 8) (v : Nat) (s : State) :
    blockWrite m pgAcon (Reg.ACON_CTX_CMD + c.val * 0x100) v s = aconCmd c.val (v % 256) s := by
  have hlo : 0x400 ≤ 0x408 + c.val * 0x100 := by omega
  have hhi : 0x408 + c.val * 0x100 < 0xC00 := by omega
  have hno : ctxNo 0x100 (0x408 + c.val * 0x100) = c.val := by simp only [ctxNo]; omega
  have hoff : ctxOff 0x100 (0x408 + c.val * 0x100) = 0x08 := by simp only [ctxOff]; omega
  simp [blockWrite, pgAcon, Reg.ACON_CTX_CMD, hlo, hhi, hno, hoff]

/-- START of an IDLE context, let in while XLAT is ON, loads its program (R124). -/
theorem exec_start_loads {m : Sys2Proof.Master} {c : Sys2Proof.Ctx} {s : State}
    (hin : LetIn m pgAcon (Reg.ACON_CTX_CMD + c.val * 0x100) s) (hon : isOn s pgAcon = true)
    (hidle : acState s c = stIdle) (hxlat : xlatOn s = true) : exec (.start m c) s = .next (loadProgram c s) := by
  obtain ⟨hwide, hfields⟩ := ctxCmd_plain c
  have hstart : aconCmd c.val 1 s = loadProgram c s := by simp [aconCmd, aconStart, hon, hidle, hxlat]
  calc exec (.start m c) s
      = .next (writeCmd m (pgAcon.base + (Reg.ACON_CTX_CMD + c.val * 0x100)) 4 1 s) := by rw [← Nat.add_assoc]; rfl
    _ = .next (loadProgram c s) := by
      have hdiscards : discards pgAcon (Reg.ACON_CTX_CMD + c.val * 0x100) = false := rfl
      rw [writeCmd_letIn hin, pageWrite_word (by simp only [Reg.ACON_CTX_CMD]; omega) (.inl hwide)]
      simp only [wordsDenied_eq_false hfields, hdiscards, Bool.false_eq_true, if_false, blockWrite_ctxCmd]
      exact congrArg _ hstart

/-! ### The statement -/

/-- Settles O19: a start gives the context a fresh set of counters; LOOP and JMP, once fetched and passed, set the counters as
one step of R142's algorithm does and go on at its instruction, and their fetch is the only access to memory. -/
theorem loopCounters : Obligations.Loop_Counters := by
  refine ⟨?_, ?_, ?_⟩
  · intro m c h s s' hin hon hidle hxlat hh
    exact ⟨_, exec_start_loads hin hon hidle hxlat, loadProgram_loops hh⟩
  · intro c ctr n w s s' _ hat hw hop hcheck hov hctr hn
    subst hctr
    obtain ⟨hlc, hactive, hpc, hkeep⟩ := loopState_effect hat hw hop hcheck hov hn
    refine ⟨fun hlt => ?_, fun hone => ?_⟩
    · have htaken : (n - 1 != 0) = true := by simp; omega
      rw [htaken] at hactive hpc
      exact ⟨_, rfl, hlc, hactive, hpc, hkeep⟩
    · subst hone
      exact ⟨_, rfl, hlc, hactive, Int.ofNat_inj.mp hpc, hkeep⟩
  · intro c w s s' _ hat hw hop hcheck hov
    obtain ⟨hpc, hlc, hactive, hkeep⟩ := jmpState_effect hat hw hop hcheck hov
    exact ⟨_, rfl, hpc, hlc, hactive, hkeep⟩

end Sys2Proof.Machine
end

section
/-! PROOFS. O59: a secure record's PAYLOAD. The packing of a record (R471), what the read of EVR_REC0 latches (R478), and the
read of a secure record (R479). -/

namespace Sys2Proof.Machine

/-! ### The packing of fields from bit 0 upward (R471) -/

/-- The bits that a list of packed fields takes. -/
def packWidth (l : List (Nat × Nat)) : Nat := (l.map Prod.fst).sum

theorem pack_lt (l : List (Nat × Nat)) : pack l < 2 ^ packWidth l := by
  induction l with
  | nil => decide
  | cons x l ih =>
    obtain ⟨w, v⟩ := x
    have hv := Nat.mod_lt v (Nat.two_pow_pos w)
    have hl : (pack l + 1) * 2 ^ w ≤ 2 ^ packWidth l * 2 ^ w := Nat.mul_le_mul_right _ ih
    have hw : packWidth ((w, v) :: l) = packWidth l + w := Nat.add_comm _ _
    rw [Nat.add_mul] at hl
    rw [pack, Nat.shiftLeft_eq, hw, Nat.pow_add]
    omega

/-- The fields of a second list stand above those of the first. -/
theorem pack_append (l k : List (Nat × Nat)) : pack (l ++ k) = pack l + pack k <<< packWidth l := by
  induction l with
  | nil => simp [pack, packWidth]
  | cons x l ih =>
    obtain ⟨w, v⟩ := x
    have hw : packWidth ((w, v) :: l) = packWidth l + w := Nat.add_comm _ _
    simp only [List.cons_append, pack, ih, hw, Nat.shiftLeft_eq, Nat.pow_add, Nat.add_mul, Nat.mul_assoc, Nat.add_assoc]

/-! ### The words of a record (R471, R479) -/

/-- The fields of a record below PAYLOAD. -/
def EvRec.fieldsBelowPayload (r : EvRec) : List (Nat × Nat) :=
  [(40, r.seq), (40, r.opMs), (24, r.cycles), (16, r.source), (16, r.code), (8, r.sevWorld), (16, r.repeat_),
    (32, r.lastDelta)]

/-- The bits of a record below PAYLOAD. -/
def EvRec.belowPayload (r : EvRec) : Nat := pack r.fieldsBelowPayload

/-- The PAYLOAD that a reader of the given world is shown. -/
def EvRec.shownPayload (r : EvRec) (secure : Bool) : Nat := if nbit r.sevWorld 7 && !secure then 0 else r.payload

theorem EvRec.belowPayload_lt (r : EvRec) : r.belowPayload < 2 ^ 192 := pack_lt _

theorem EvRec.length_words (r : EvRec) (secure : Bool) : (r.words secure).length = 4 := rfl

/-- A word of a record is 64 bits of the fields below PAYLOAD with the shown PAYLOAD above them. -/
theorem EvRec.lget_words (r : EvRec) (secure : Bool) {i : Nat} (hi : i < 4) :
    lget (r.words secure) i 0 =
      BitVec.ofNat 64 ((r.belowPayload + (r.shownPayload secure % 2 ^ 64) <<< 192) >>> (64 * i)) := by
  have hpack : pack (r.fieldsBelowPayload ++ [(64, r.shownPayload secure)]) =
      r.belowPayload + (r.shownPayload secure % 2 ^ 64) <<< 192 := pack_append _ _
  rw [← hpack]
  simp [lget, EvRec.words, EvRec.fieldsBelowPayload, EvRec.shownPayload, hi]

theorem EvRec.lget_words_belowPayload (r : EvRec) (secure : Bool) {i : Nat} (hi : i < 3) :
    lget (r.words secure) i 0 = BitVec.ofNat 64 (r.belowPayload >>> (64 * i)) := by
  rw [r.lget_words secure (by omega)]
  apply BitVec.eq_of_toNat_eq
  simp only [BitVec.toNat_ofNat, Nat.shiftRight_eq_div_pow, Nat.shiftLeft_eq]
  obtain rfl | rfl | rfl : i = 0 ∨ i = 1 ∨ i = 2 := by omega
  all_goals omega

theorem EvRec.lget_words_payload (r : EvRec) (secure : Bool) :
    lget (r.words secure) 3 0 = BitVec.ofNat 64 (r.shownPayload secure) := by
  have hlt := r.belowPayload_lt
  rw [r.lget_words secure (by decide)]
  apply BitVec.eq_of_toNat_eq
  simp only [BitVec.toNat_ofNat, Nat.shiftRight_eq_div_pow, Nat.shiftLeft_eq]
  omega

/-! ### A read of EVR_REC0 (R478) -/

@[simp] theorem view_viewMod_same (m : Sys2Proof.Master) (f : MasterView → MasterView) (s : State) :
    view (viewMod m f s) m = f (view s m) := tget_tput_same _ _ _ _

@[simp] theorem view_output (o : Sent) (s : State) (m : Sys2Proof.Master) : view (output o s) m = view s m := rfl

theorem latched_latchRec {m : Sys2Proof.Master} {r : EvRec} {s : State} (h : selectedRec s (view s m).rsel = some r) :
    (view (latchRec m s) m).latched = r.words (Master.secure m) := by
  simp [latchRec, h]

/-- The decode and the world check of an aligned 64-bit access are those of its low word. -/
theorem entry_eight_eq_four {pa : Nat} (h : pa % 8 = 0) (m : Sys2Proof.Master) (s : State) :
    entry m pa 8 s = entry m pa 4 s := by
  have h4 : pa % 4 = 0 := by omega
  simp [entry, h, h4]

/-- A read of EVR_REC0 that is let in latches the selected record and sends word 0. -/
theorem exec_rec0Read_letIn {m : Sys2Proof.Master} {s : State} (h : LetIn m pgEvr Reg.EVR_REC s) :
    exec (.rec0Read m) s = .next (output (.regValue m (pgEvr.base + Reg.EVR_REC) 8
      (live64 m (latchRec m s) pgEvr Reg.EVR_REC)) (latchRec m s)) := by
  have hentry : entry m (pgEvr.base + Reg.EVR_REC) 8 s = .go pgEvr := (entry_eight_eq_four rfl m s).trans h.1
  have hread : pageRead m pgEvr Reg.EVR_REC 8 s = (live64 m (latchRec m s) pgEvr Reg.EVR_REC, latchRec m s) := rfl
  have hcmd : readCmd m (pgEvr.base + Reg.EVR_REC) 8 s = output (.regValue m (pgEvr.base + Reg.EVR_REC) 8
      (live64 m (latchRec m s) pgEvr Reg.EVR_REC)) (latchRec m s) := by
    simp only [readCmd, readReg, hentry, Nat.add_sub_cancel_left, hread]
  rw [← hcmd]
  rfl

/-! ### The statement -/

/-- The EVR page is NS at reset (R47). -/
theorem pageWorld_reset_evr : pageWorld State.reset pgEvr = false := by decide +kernel

/-- Settles O59: the read latches the record's four words, and only the last of them depends on the reader's world. -/
theorem securePayloadIsHidden : Obligations.Secure_Payload_Is_Hidden := by
  intro m r q s hin hq hrec
  have hsel : selectedRec s (view s m).rsel = some r := by
    subst hq
    obtain ⟨hram, hr⟩ | ⟨hmirror, hr⟩ := hrec
    · simp [selectedRec, hram, hr]
    · simp [selectedRec, hmirror, hr]
  refine ⟨_, exec_rec0Read_letIn hin, ?_⟩
  rw [view_output, latched_latchRec hsel]
  refine ⟨r.length_words _, fun i hi => ?_, ?_, pageWorld_reset_evr, rfl, rfl, rfl, fun _ => rfl, fun _ => rfl⟩
  · rw [r.lget_words_belowPayload _ hi, r.lget_words_belowPayload _ hi]
  · rw [r.lget_words_payload, EvRec.shownPayload]
    simp only [Bool.and_eq_true, Bool.not_eq_true', and_comm]
    split <;> rfl

end Sys2Proof.Machine
end
